-- ==== Sys2Proof/Word.lean ====
section
/-! DEFINITION. The bridge's words: addresses, line numbers, bytes, beats, lines, masks, tags and indexes
(spec 00, section 4). -/

namespace Sys2Proof

/-- A physical address, 32 bits. -/
abbrev Addr := BitVec 32

/-- A line number: the address divided by 32, so 0 to 134,217,727. -/
abbrev Line := BitVec 27

/-- One byte. -/
abbrev Byte := BitVec 8

/-- A 32-bit register of the management window. -/
abbrev Reg := BitVec 32

/-- The number of a beat in its line. -/
abbrev Beat := Fin 4

/-- One position per byte of a beat. -/
abbrev BeatMask := BitVec 8

/-- One position per byte of a line, byte 0 at the line's first address. -/
abbrev LineMask := BitVec 32

/-- The 8 bytes of a beat, in ascending address order. -/
abbrev BeatData := Vector Byte 8

/-- The 32 bytes of a line, in ascending address order. -/
abbrev LineData := Vector Byte 32

/-- A requester's number for an outstanding request (R120). -/
abbrev Tag := Fin 16

/-- RP0 to RP3. -/
abbrev PortIx := Fin 4

/-- The index of a transaction table entry; entry 11 is the recall entry (R28). -/
abbrev EntryIx := Fin 12

/-- A set of the presence directory (R1). -/
abbrev SetIx := Fin 256

/-- A way of a set (R1). -/
abbrev Way := Fin 4

end Sys2Proof
end

