-- ==== Sys2Proof/Syntax.lean ====
section
/-! DEFINITION. The commands of the bridge: one constructor of `Instr` per row of spec/opcode_table.json, with the
operands the spec gives the event. -/

namespace Sys2Proof

/-- The three atomic operations with their operands as bytes in ascending address order (R142). -/
inductive AtomicOp where
  | fetchAdd32 (addend : Vector Byte 4)
  | swap64 (new : Vector Byte 8)
  | compareSwap64 (compare new : Vector Byte 8)
  deriving DecidableEq, Repr

/-- What a requester asks for (R120). An atomic whose operation names none of the three is `atomic none` (R123). -/
inductive ReqBody where
  | read (length : Nat)
  | write (mask : LineMask) (data : LineData)
  | atomic (op : Option AtomicOp)
  deriving DecidableEq, Repr

/-- A request as a requester offers it (R120). -/
structure Request where
  tag : Tag
  addr : Addr
  body : ReqBody
  deriving DecidableEq, Repr

/-- The code of a special cycle (R104). The manual names FLUSH_ACK and gives no number for it (log 25). -/
inductive SpecialCode where
  | flushAck
  | other (code : Nat)
  deriving DecidableEq, Repr

/-- A completion of the memory controller (R154): OK, with the 32 bytes of the line when the oldest request is a
LINE_READ (a write's completion carries status alone, and the bytes given here are then not used, log 32), or ERROR. -/
inductive Completion where
  | ok (data : LineData)
  | error
  deriving DecidableEq, Repr

/-- The direction of a management transaction (R192). The table has no row for a byte that is read; it is read as time
passes (log 13). -/
inductive Direction where
  | write
  | read
  deriving DecidableEq, Repr

/-- The commands. A register write carries the byte written at the register's highest offset, the byte that takes
the register (R193); a command of R195 carries the byte written at COMMAND's highest offset (log 13). -/
inductive Instr where
  -- the pins (R117, R198)
  | resetPinAssert
  | resetPinRelease (ma1 ma0 start : Bool)
  | hrstAssert
  | hrstRelease
  -- cycles of the processor (R99 to R107)
  | hostRead (addr : Addr) (mask : BeatMask)
  | hostWrite (addr : Addr) (mask : BeatMask)
  | hostFill (addr : Addr)
  | hostEvict (addr : Addr)
  | hostProbeWb (addr : Addr)
  | hostLread (addr : Addr) (mask : BeatMask)
  | hostLwrite (addr : Addr) (mask : BeatMask) (endMark : Bool)
  | hostSpecial (code : SpecialCode)
  | hostWriteBeat (beat : Beat) (data : BeatData)
  | writebackBeat (beat : Beat) (data : BeatData)
  | hostBeatTaken
  -- the admission arbiter (R45)
  | admissionGrant
  -- the probe channel (R60 to R62)
  | probeAnswerMiss
  | probeAnswerClean
  | probeAnswerDirty
  -- the timers (R72 to R74, R111)
  | answerTimerExpiry
  | wbTimerExpiry (entry : EntryIx)
  | quietTimerExpiry
  | lockTimerExpiry
  -- the requester ports (R121, R133)
  | requestOffer (port : PortIx) (request : Request)
  | responseTaken (port : PortIx)
  -- the memory port (R155, R157)
  | memRequestAccept
  | memCompletion (completion : Completion)
  -- the management port's bytes (R192, R193)
  | mgPointerWrite (byte : Byte)
  | mgByteStage (byte : Byte)
  | mgTransactionEnd
  -- register writes, taken at the highest byte (R193)
  | registerWrite (byte : Byte)
  | cmdStatusWrite (byte : Byte)
  | eventFlagsWrite (byte : Byte)
  | eventEnableWrite (byte : Byte)
  | defaultAttrWrite (byte : Byte)
  | probeTimesWrite (byte : Byte)
  | lockLimitWrite (byte : Byte)
  | admitPolicyWrite (byte : Byte)
  -- the commands, taken at COMMAND's highest byte (R195)
  | writeRegion (byte : Byte)
  | setMode (byte : Byte)
  | sweep (byte : Byte)
  | resume (byte : Byte)
  | release (byte : Byte)
  | portDisable (byte : Byte)
  | portEnable (byte : Byte)
  | popFault (byte : Byte)
  | clearCounters (byte : Byte)
  | readDir (byte : Byte)
  | readTt (byte : Byte)
  | unknownCommand (byte : Byte)
  -- the start of an I2C transaction (R192, R198)
  | startCondition (address : BitVec 7) (direction : Direction)
  deriving DecidableEq, Repr

end Sys2Proof
end

