-- ==== Sys2Proof/Decode.lean ====
section
/-! DEFINITION. The bridge fetches nothing and decodes nothing. No row of spec/opcode_table.json carries bits. -/

namespace Sys2Proof

/-- The command that a word spells by the table's bits. No row has bits, so no word spells a command (log 27). -/
def decodeTableWord (_nbits _w : Nat) : Option Instr := none

end Sys2Proof
end

