-- ==== Sys2Proof/Config.lean ====
section
/-! DEFINITION. What the manual leaves open. Each is an opaque constant: no proof can see its value, so a claim
about the machine holds whatever it is. -/

namespace Sys2Proof

/-- Two timers that run out on one tick "may come together, and either may be taken first" (R63, R179). Which of the
timers due comes next is this value, modulo how many are due (log 6). -/
opaque Config.expiryOrder : Nat → Nat

/-- Between two passes the sweep waits for an event (R175), and the manual does not say which way its cursor then
shows (log 11). -/
opaque Config.cursorBetweenPasses : Nat → Fin 1024

/-- Whether the controller of a management read takes its next byte on this tick: R192 gives the bytes and their order,
and the controller decides when it clocks one (log 13). -/
opaque Config.takesByte : Nat → Bool

end Sys2Proof
end

