-- ==== Sys2Proof/Machine/State.lean ====
section
/-! DEFINITION. The state of the bridge, as plain data, grouped by the block that owns it (spec 00, section 3.2), the
reasons a step can stop, and the state right after the RESET pin. -/

namespace Sys2Proof.Machine

/-! ### Attributes and the presence directory -/

/-- The caching policy of a region (R79). -/
inductive Policy where
  | uncached | wt | wb
  deriving DecidableEq, Repr

/-- The attributes a line resolves to (R79, R80). Bit p of `writers` is port RPp (R194). -/
structure Attr where
  policy : Policy
  coherent : Bool
  writers : BitVec 4
  atomics : Bool
  deriving DecidableEq, Repr

/-- R2: RESERVED, a fill of the line is in flight and has been offered cacheable; HELD, the processor may hold it. -/
inductive EntryState where
  | reserved | held
  deriving DecidableEq, Repr

/-- R2: the policy granted at the line's last admitted fill. -/
inductive EntryPolicy where
  | wt | wb
  deriving DecidableEq, Repr

/-- R2: a directory entry. Its age is its place in its set's list (log 18). -/
structure DirEntry where
  way : Way
  line : Line
  state : EntryState
  policy : EntryPolicy
  deriving DecidableEq, Repr

/-- R11: what a fill that meets a full set does. -/
inductive AdmitPolicy where
  | displace | decline
  deriving DecidableEq, Repr

/-- R1: the presence directory. Each set is the list of its entries in admission order, newest first (R4). -/
structure Directory where
  sets : Vector (List DirEntry) 256
  admitPolicy : AdmitPolicy
  deriving DecidableEq, Repr

/-! ### Transactions -/

/-- R29: the cause of a recall. -/
inductive RecallCause where
  | displace | sweep
  deriving DecidableEq, Repr

/-- R29: kind, origin, tag, shape and write data of a transaction, which do not change after admission. -/
inductive Work where
  | hRead (beat : Beat) (mask : BeatMask)
  | hWrite (beat : Beat) (mask : BeatMask)
  | hFill (start : Beat)
  | hEvict (start : Beat)
  | hLread (beat : Beat) (mask : BeatMask)
  | hLwrite (beat : Beat) (mask : BeatMask) (endMark : Bool)
  | rRead (port : PortIx) (tag : Tag) (offset : Fin 32) (length : Nat)
  | rWrite (port : PortIx) (tag : Tag) (mask : LineMask) (data : LineData)
  | rAtomic (port : PortIx) (tag : Tag) (offset : Fin 32) (op : AtomicOp)
  | recall (cause : RecallCause)
  deriving DecidableEq, Repr

/-- The phases of section 2.3 of chapter 2. -/
inductive Phase where
  | lockWait | dataIn | wayWait | probeQueued | probing | wbWait | memWait | memBusy | dataOut
  deriving DecidableEq, Repr

/-- R7: what a lookup found in the directory. -/
inductive DirResult where
  | none
  | reserved
  | held (policy : EntryPolicy)
  deriving DecidableEq, Repr

/-- R54: the modes of a probe. -/
inductive ProbeMode where
  | invalidate | keep
  deriving DecidableEq, Repr

/-- R29: the answers of a probe. -/
inductive Answer where
  | miss | clean | dirty | timeout
  deriving DecidableEq, Repr

/-- The result codes of section 6.5.1 of chapter 6. -/
inductive ResultCode where
  | ok | accessDenied | atomicRefused | memError | probeTimeout | quarantined | bridgeFaulted | portDisabled
  | tagInUse | malformed
  deriving DecidableEq, Repr

/-- The word of an atomic, 4 or 8 bytes in ascending address order (R142). -/
inductive AtomicWord where
  | w4 (bytes : Vector Byte 4)
  | w8 (bytes : Vector Byte 8)
  deriving DecidableEq, Repr

/-- R141: whether the operation altered any byte of the word. -/
inductive AtomicOutcome where
  | changed | unchanged
  deriving DecidableEq, Repr

/-- R53, R62, R71: a write-back timer. PENDING does not count; PENDING behind a host write of the same line counts
from the answer; a timer whose write-back has begun is stopped. -/
inductive WbTimer where
  | pending
  | pendingCounting (left : Nat)
  | running (left : Nat)
  | stopped
  deriving DecidableEq, Repr

/-- R29, R30, R141: a transaction record, with the line buffer, the atomic record and the write-back timer that
stand beside it. `wbData` says that its write-back data has been taken (R42, R64). -/
structure Txn where
  work : Work
  line : Line
  phase : Phase
  snapshot : Option Attr
  dirResult : Option DirResult
  probeMode : Option ProbeMode
  answer : Option Answer
  link : Option EntryIx
  result : Option ResultCode
  abandoned : Bool
  buf : LineData
  mask : LineMask
  wbData : Bool
  oldValue : Option AtomicWord
  outcome : Option AtomicOutcome
  wbTimer : Option WbTimer
  deriving DecidableEq, Repr

/-- R37: the holder of a line's lock. -/
inductive Holder where
  | txn (i : EntryIx)
  | hostSet
  deriving DecidableEq, Repr

/-- R37: a lock record; a line with none is unlocked. -/
structure LockRec where
  line : Line
  holder : Holder
  waiters : List EntryIx
  deriving DecidableEq, Repr

/-- R28, R37, R14, R46: the transaction table. -/
structure TxnTable where
  entries : Vector (Option Txn) 12
  locks : List LockRec
  recallWait : List EntryIx
  roundRobin : PortIx
  deriving DecidableEq, Repr

/-! ### The probe unit -/

/-- R53: the channel state, with the outstanding probe and the answer timer, or the quiet timer. -/
inductive Channel where
  | idle
  | outstanding (txn : EntryIx) (line : Line) (mode : ProbeMode) (left : Nat)
  | quiet (left : Nat)
  deriving DecidableEq, Repr

/-- R53, R75: the probe unit. -/
structure ProbeUnit where
  queue : List EntryIx
  channel : Channel
  probeLimit : BitVec 8
  wbLimit : BitVec 8
  deriving DecidableEq, Repr

/-! ### The region map -/

/-- R79: a region entry of 2^exponent bytes. -/
structure Region where
  valid : Bool
  base : BitVec 32
  exponent : BitVec 6
  attr : Attr
  deriving DecidableEq, Repr

/-- R79, R80: the region map. -/
structure RegionMap where
  regions : Vector Region 8
  defaults : Attr
  deriving DecidableEq, Repr

/-! ### The host port -/

/-- R94: the kinds of cycle that stay on the bus. -/
inductive CycleKind where
  | read | write | fill | evict | probeWb | lread | lwrite
  deriving DecidableEq, Repr

/-- R94: the standing of the cycle in progress. -/
inductive Standing where
  | claiming
  | attached (entry : EntryIx)
  | served (entry : EntryIx)
  deriving DecidableEq, Repr

/-- R94: the cycle in progress. `given` counts the beats acknowledged or delivered, `taken` names the beats of a
write kind taken so far, `held` are the beats held for the admission of a write-back handed back (R68). -/
structure Cycle where
  kind : CycleKind
  addr : Addr
  line : Line
  beat : Beat
  mask : BeatMask
  endMark : Bool
  standing : Standing
  given : Nat
  taken : List Beat
  held : List (Beat × BeatData)
  deriving DecidableEq, Repr

/-- R94: the kind of a locked cycle. -/
inductive LockedKind where
  | hLread | hLwrite
  deriving DecidableEq, Repr

/-- R94: the host port. -/
structure HostPort where
  cycle : Option Cycle
  lockSet : List Line
  lockTimer : Option Nat
  broken : Bool
  lastLocked : Option LockedKind
  lockLimit : BitVec 16
  deriving DecidableEq, Repr

/-! ### The requester ports -/

/-- R119: the states of a port. -/
inductive PortState where
  | enabled | draining | disabled
  deriving DecidableEq, Repr

/-- What an accepted request asks for, its shape checked (R123). -/
inductive ReqWork where
  | read (offset : Fin 32) (length : Nat)
  | write (mask : LineMask) (data : LineData)
  | atomic (offset : Fin 32) (op : AtomicOp)
  deriving DecidableEq, Repr

/-- An accepted request in an ingress queue (R126). -/
structure Accepted where
  tag : Tag
  line : Line
  work : ReqWork
  deriving DecidableEq, Repr

/-- What a response carries beside its tag and result (R133). -/
inductive RespData where
  | none
  | read (bytes : List Byte)
  | old (word : AtomicWord)
  deriving DecidableEq, Repr

/-- R133: a response record. -/
structure Response where
  tag : Tag
  result : ResultCode
  data : RespData
  deriving DecidableEq, Repr

/-- R119: a requester port. Tag t is outstanding when `tags[t]` is true. -/
structure Port where
  state : PortState
  tags : Vector Bool 16
  ingress : List Accepted
  responses : List Response
  deriving DecidableEq, Repr

/-! ### The memory port -/

/-- R154: the kinds of memory request. -/
inductive MemKind where
  | lineRead | lineWrite | maskedWrite
  deriving DecidableEq, Repr

/-- R153: an outstanding request; the mask is that of a MASKED_WRITE, else 0. -/
structure MemReq where
  txn : EntryIx
  kind : MemKind
  line : Line
  mask : LineMask
  deriving DecidableEq, Repr

/-- R153: the memory port. -/
structure MemPort where
  outstanding : List MemReq
  waiting : List EntryIx
  deriving DecidableEq, Repr

/-! ### Mode, sweep and quarantine -/

/-- R165: the bridge mode. -/
inductive Mode where
  | pass | coherent | faulted
  deriving DecidableEq, Repr

/-- R171: the command that started the sweep. -/
inductive SweepOrigin where
  | none | sweep | setMode
  deriving DecidableEq, Repr

/-- What a sweep is doing: not running; examining ways from its cursor on (R173); waiting at the cursor for its own
recall (R174); waiting for an event before a new pass (R175). -/
inductive SweepPhase where
  | stopped | examining | recalling | waiting
  deriving DecidableEq, Repr

/-- R171: the sweep state. The cursor counts ways, set × 4 + way. `stirred` says that an event of R175 has come since
the current pass first passed an entry over (log 12). -/
structure Sweep where
  phase : SweepPhase
  origin : SweepOrigin
  cursor : Fin 1024
  pass : BitVec 8
  passedOver : Nat
  remaining : Nat
  stirred : Bool
  deriving DecidableEq, Repr

/-- R178: the timeout that put a line into quarantine. -/
inductive QuarCause where
  | answerTimeout | writebackTimeout
  deriving DecidableEq, Repr

/-- R178: a quarantine record. -/
structure QuarRec where
  line : Line
  cause : QuarCause
  late : Bool
  deriving DecidableEq, Repr

/-- R165, R171, R178: mode and sweep control. -/
structure ModeSweep where
  mode : Mode
  sweep : Sweep
  quarantine : List QuarRec
  deriving DecidableEq, Repr

/-! ### The event unit -/

/-- R182: the events, in the order of the event table. -/
inductive Event where
  | memReadErr | memWriteErr | probeTimeout | quarantineFull | accessDenied | atomicRefused | tagInUse | malformed
  | lockTimeout | lockOverrun | hostReset | sweepDone | sweepIncomplete | modeChanged | portDrained | lateAnswer
  | lateWriteback
  deriving DecidableEq, Repr

/-- R186: the kinds of fault record, the ten error events and WRITEBACK_LOST. -/
inductive FaultKind where
  | memReadErr | memWriteErr | probeTimeout | quarantineFull | accessDenied | atomicRefused | tagInUse | malformed
  | lockTimeout | lockOverrun | writebackLost
  deriving DecidableEq, Repr

/-- R186: the issuer of the work. -/
inductive Issuer where
  | hp
  | rp (port : PortIx)
  | internal
  deriving DecidableEq, Repr

/-- R29: the kinds of transaction. -/
inductive TxnKind where
  | hRead | hWrite | hFill | hEvict | hLread | hLwrite | rRead | rWrite | rAtomic | recall
  deriving DecidableEq, Repr

/-- R186: a fault record. -/
structure FaultRec where
  kind : FaultKind
  issuer : Issuer
  line : Line
  txnKind : TxnKind
  tag : Option Tag
  deriving DecidableEq, Repr

/-- R190: the six counters. -/
structure Counters where
  probes : BitVec 32
  probesDirty : BitVec 32
  recalls : BitVec 32
  declinedFills : BitVec 32
  retracts : BitVec 32
  orphanEvicts : BitVec 32
  deriving DecidableEq, Repr

/-- R182, R183, R187, R190: the event unit. Bit n of `flags` and `enables` is the event's position in the event
table (R194). -/
structure EventUnit where
  flags : BitVec 17
  enables : BitVec 17
  faults : List FaultRec
  overflow : BitVec 8
  counters : Counters
  deriving DecidableEq, Repr

/-! ### The management port -/

/-- R192, R198: what the management port does on the two-wire bus. -/
inductive BusState where
  | ignoring | pointerNext | writing | reading
  deriving DecidableEq, Repr

/-- R193: the staged bytes of the register being written, at its offsets 0, 1 and 2. -/
structure Staged where
  b0 : Option Byte
  b1 : Option Byte
  b2 : Option Byte
  deriving DecidableEq, Repr

/-- R192: a register that a read transaction has reached, and its captured bits. -/
structure Capture where
  word : BitVec 6
  value : Reg
  deriving DecidableEq, Repr

/-- R194: the state field of CMD_STATUS. -/
inductive CmdState where
  | done | busy | refused
  deriving DecidableEq, Repr

/-- R194: the refusal reasons. -/
inductive Reason where
  | none | wrongMode | badRegion | badIndex | empty | busy
  deriving DecidableEq, Repr

/-- R194: CMD_STATUS. -/
structure CmdStatus where
  state : CmdState
  reason : Reason
  code : Byte
  mark : Bool
  deriving DecidableEq, Repr

/-- R192, R193, R195, R197: the management port. -/
structure Management where
  pointer : Byte
  bus : BusState
  staged : Staged
  captures : List Capture
  arg0 : Reg
  arg1 : Reg
  status : CmdStatus
  snap0 : Reg
  snap1 : Reg
  snap2 : Reg
  snap3 : Reg
  deriving DecidableEq, Repr

/-! ### Pins, outputs, the whole state -/

/-- R198, R117: the levels of the RESET and HRST pins and the sampled straps. -/
structure Pins where
  resetAsserted : Bool
  hrstAsserted : Bool
  ma1 : Bool
  ma0 : Bool
  start : Bool
  deriving DecidableEq, Repr

/-- The cacheability mark on a delivered beat (section 1.5 of chapter 1). -/
inductive Grant where
  | noCache | wt | wb
  deriving DecidableEq, Repr

/-- What the bridge drives outward within a step (log 17). -/
inductive Output where
  /-- PU issues a probe (R58). -/
  | probe (line : Line) (mode : ProbeMode)
  /-- The host port tells the processor to abandon its cycle (R70, R115). -/
  | retract
  /-- A cycle is answered with a bus error at its address (R109). -/
  | busError
  /-- A special cycle is acknowledged at its address (R104). -/
  | specialAck
  /-- A beat of a write kind is acknowledged as it is taken (R97). -/
  | beatAck
  /-- The final acknowledgment of a write kind, with the error mark or without (R97). -/
  | finalAck (error : Bool)
  /-- A beat of a read kind is delivered (R98). -/
  | beat (beat : Beat) (data : BeatData) (grant : Grant) (error : Bool)
  /-- The requests the memory controller accepts (R154). -/
  | lineRead (line : Line) (start : Beat)
  | lineWrite (line : Line) (data : LineData)
  | maskedWrite (line : Line) (mask : LineMask) (data : LineData)
  /-- A response leaves toward the requester (R133). -/
  | response (port : PortIx) (response : Response)
  /-- A refusal answer on the request handshake (R124). -/
  | refusal (port : PortIx) (tag : Tag) (code : ResultCode)
  /-- The management port acknowledges an address or a byte (R192). -/
  | mgAck
  /-- The management port returns a byte of a read (R192). -/
  | mgByte (byte : Byte)
  deriving DecidableEq, Repr

/-- The bridge. The last three fields are the model's own: the commands that wait, what the last step drove outward,
and how many free values the steps have used. -/
structure State where
  pd : Directory
  tt : TxnTable
  pu : ProbeUnit
  rm : RegionMap
  hp : HostPort
  rp : Vector Port 4
  mp : MemPort
  msc : ModeSweep
  ev : EventUnit
  mg : Management
  pins : Pins
  pending : List Instr
  out : List Output
  freeCount : Nat
  deriving DecidableEq, Repr

/-- The bridge has no machine stop: an error is an event flag and a fault record, or a result code, and both are
state (R182, section 6.5.1 of chapter 6). No step raises a fault. -/
inductive Fault where
  deriving DecidableEq, Repr

/-- Why a command is refused. But for the first, each says that the event CANNOT OCCUR in the present state, so the
manual gives it no effect there (log 4). All are safe: the hardware never meets them. A handshake with nothing to hand over
is no such event: it hands over nothing. -/
inductive Refusal where
  /-- No meaning yet; raised by an arm of `exec` only. -/
  | notModelled (mnemonic : String)
  /-- RESET_PIN_RELEASE while the pin is not asserted. -/
  | resetNotAsserted
  /-- HRST_ASSERT while HRST is asserted: R117, "does not occur, since a level is asserted once until released". -/
  | hrstAlreadyAsserted
  /-- HRST_RELEASE while HRST is not asserted. -/
  | hrstNotAsserted
  /-- A cycle's address while the bus carries a cycle: the processor runs one cycle at a time (R94). -/
  | busCarriesCycle
  /-- A byte of the management port that the state of the two-wire bus does not take. -/
  | busNotAtByte
  /-- A byte of the management port that is another row's: the pointer or the staged code names another register,
  byte or command. -/
  | otherRow
  deriving DecidableEq, Repr

/-! ### The state after the RESET pin -/

/-- R80: the default attributes after the RESET pin. -/
def Attr.afterReset (start : Bool) : Attr :=
  { policy := if start then .wb else .uncached, coherent := true, writers := 15#4, atomics := false }

/-- R79: every field of an invalid region entry reads as 0. -/
def Region.invalid : Region :=
  { valid := false, base := 0#32, exponent := 0#6,
    attr := { policy := .uncached, coherent := false, writers := 0#4, atomics := false } }

/-- R119: a requester port after the RESET pin. -/
def Port.afterReset : Port :=
  { state := .enabled, tags := Vector.replicate 16 false, ingress := [], responses := [] }

/-- R171: the sweep state after the RESET pin. -/
def Sweep.afterReset : Sweep :=
  { phase := .stopped, origin := .none, cursor := 0, pass := 0#8, passedOver := 0, remaining := 0, stirred := false }

/-- R94: the host port after the RESET pin. -/
def HostPort.afterReset : HostPort :=
  { cycle := none, lockSet := [], lockTimer := none, broken := false, lastLocked := none, lockLimit := 128#16 }

/-- R185, R189, R191: the event unit after the RESET pin. -/
def EventUnit.afterReset : EventUnit :=
  { flags := 0#17, enables := 0#17, faults := [], overflow := 0#8,
    counters := { probes := 0#32, probesDirty := 0#32, recalls := 0#32, declinedFills := 0#32, retracts := 0#32,
                  orphanEvicts := 0#32 } }

/-- R193: no byte is staged. -/
def Staged.empty : Staged := { b0 := none, b1 := none, b2 := none }

/-- R198: the management port after the RESET pin. -/
def Management.afterReset : Management :=
  { pointer := 0#8, bus := .ignoring, staged := Staged.empty, captures := [], arg0 := 0#32, arg1 := 0#32,
    status := { state := .done, reason := .none, code := 0#8, mark := false },
    snap0 := 0#32, snap1 := 0#32, snap2 := 0#32, snap3 := 0#32 }

/-- The bridge right after the release of the RESET pin, with the straps sampled there (R198). -/
def State.afterReset (ma1 ma0 start : Bool) : State :=
  { pd := { sets := Vector.replicate 256 [], admitPolicy := .displace }
    tt := { entries := Vector.replicate 12 none, locks := [], recallWait := [], roundRobin := 3 }
    pu := { queue := [], channel := .idle, probeLimit := 16#8, wbLimit := 32#8 }
    rm := { regions := Vector.replicate 8 Region.invalid, defaults := Attr.afterReset start }
    hp := HostPort.afterReset
    rp := Vector.replicate 4 Port.afterReset
    mp := { outstanding := [], waiting := [] }
    msc := { mode := if start then .coherent else .pass, sweep := Sweep.afterReset, quarantine := [] }
    ev := EventUnit.afterReset
    mg := Management.afterReset
    pins := { resetAsserted := false, hrstAsserted := false, ma1 := ma1, ma0 := ma0, start := start }
    pending := [], out := [], freeCount := 0 }

/-- The machine right after reset. The straps are inputs, and the model takes them low here (log 1): PASS mode,
default policy UNCACHED, management address 58H. HRST is taken as released (log 3). -/
def State.reset : State := State.afterReset false false false

end Sys2Proof.Machine
end

