-- ==== Sys2Proof/Machine/Operands.lean ====
section
/-! DEFINITION. Operand forms: addresses, beats, masks, line buffers, atomic words, request shapes, and what a
transaction's work says about its kind, its issuer and its next memory request. -/

namespace Sys2Proof.Machine

/-! ### Addresses (spec 00, section 4) -/

/-- The line of an address: the address divided by 32. -/
def lineOf (a : Addr) : Line := a.extractLsb' 5 27

/-- The beat that holds an address. -/
def beatOf (a : Addr) : Beat := (a.extractLsb' 3 2).toFin

/-- The offset of an address in its line. -/
def offsetOf (a : Addr) : Fin 32 := (a.extractLsb' 0 5).toFin

/-- The set of a line: the line number modulo 256 (R1). -/
def setOf (l : Line) : SetIx := (l.extractLsb' 0 8).toFin

/-! ### Masks and line buffers -/

/-- R100: "beat b, mask position j, gives line position 8 × b + j". -/
def placeMask (b : Beat) (m : BeatMask) : LineMask := (m.setWidth 32) <<< (8 * b.val)

/-- Every position of a line mask. -/
def fullMask : LineMask := BitVec.allOnes 32

/-- Eight zero bytes, as an error beat carries them (R159). -/
def zeroBeat : BeatData := Vector.replicate 8 0#8

/-- Thirty-two zero bytes. -/
def zeroLine : LineData := Vector.replicate 32 0#8

/-- The bytes of one beat of a line. -/
def beatAt (d : LineData) (b : Beat) : BeatData :=
  Vector.ofFn fun k : Fin 8 => d[8 * b.val + k.val]

/-- A line with one beat replaced. -/
def setBeat (d : LineData) (b : Beat) (v : BeatData) : LineData :=
  Vector.ofFn fun k : Fin 32 => if k.val / 8 = b.val then v[k.val % 8] else d[k.val]

/-- The bytes of `new` under the mask, those of `old` elsewhere. -/
def overlay (old new : LineData) (m : LineMask) : LineData :=
  Vector.ofFn fun k : Fin 32 => if m.getLsbD k.val then new[k.val] else old[k.val]

/-- A beat's bytes repeated at every beat of a line, to be overlaid under a mask. -/
def spreadBeat (v : BeatData) : LineData := Vector.ofFn fun k : Fin 32 => v[k.val % 8]

/-- Beats placed each at its own position (R64, R103). -/
def placeBeats (beats : List (Beat × BeatData)) (d : LineData) : LineData :=
  beats.foldl (fun acc p => setBeat acc p.1 p.2) d

/-- The mask positions of whole beats. -/
def beatsMask (beats : List Beat) : LineMask :=
  beats.foldl (fun acc b => acc ||| placeMask b (BitVec.allOnes 8)) 0#32

/-- The beats named, read from a buffer. -/
def beatsOf (d : LineData) (beats : List Beat) : List (Beat × BeatData) := beats.map fun b => (b, beatAt d b)

/-- The bytes of a read response: `length` bytes from the offset on, in address order (R128). -/
def readBytes (d : LineData) (offset : Fin 32) (length : Nat) : List Byte :=
  (d.toList.drop offset.val).take length

/-! ### Atomic words (R142, R143) -/

/-- `n` bytes of a line from an offset on. An accepted atomic's word lies wholly in its line (R142). -/
def wordAt (n : Nat) (d : LineData) (offset : Fin 32) : Vector Byte n :=
  Vector.ofFn fun k : Fin n => d[(offset.val + k.val) % 32]

/-- A line with the bytes of a word replaced. -/
def setWord {n : Nat} (d : LineData) (offset : Fin 32) (w : Vector Byte n) : LineData :=
  Vector.ofFn fun k : Fin 32 =>
    if h : offset.val ≤ k.val ∧ k.val - offset.val < n then w[k.val - offset.val] else d[k.val]

/-- R142: four bytes as a number, "the byte at the lowest address as the least significant". -/
def number4 (w : Vector Byte 4) : BitVec 32 := w[3] ++ w[2] ++ w[1] ++ w[0]

/-- A number as four bytes in ascending address order. -/
def bytes4 (n : BitVec 32) : Vector Byte 4 := Vector.ofFn fun k : Fin 4 => n.extractLsb' (8 * k.val) 8

/-- The width of an operation's word in bytes (R142). -/
def atomicWidth : AtomicOp → Nat
  | .fetchAdd32 _ => 4
  | .swap64 _ => 8
  | .compareSwap64 _ _ => 8

/-- The mask positions of an operation's word (R146). -/
def atomicMask (op : AtomicOp) (offset : Fin 32) : LineMask :=
  (BitVec.ofNat 32 (2 ^ atomicWidth op - 1)) <<< offset.val

/-- What an operation does to the buffer (R143, R145). -/
structure AtomicRun where
  old : AtomicWord
  buf : LineData
  outcome : AtomicOutcome

/-- R143: the new word, and CHANGED when any byte of it differs from the old. -/
def runAtomic (op : AtomicOp) (offset : Fin 32) (d : LineData) : AtomicRun :=
  match op with
  | .fetchAdd32 addend =>
    let old := wordAt 4 d offset
    { old := .w4 old, buf := setWord d offset (bytes4 (number4 old + number4 addend)),
      outcome := if number4 addend = 0#32 then .unchanged else .changed }
  | .swap64 new =>
    let old := wordAt 8 d offset
    { old := .w8 old, buf := setWord d offset new, outcome := if new = old then .unchanged else .changed }
  | .compareSwap64 cmp new =>
    let old := wordAt 8 d offset
    if old = cmp then
      { old := .w8 old, buf := setWord d offset new, outcome := if new = old then .unchanged else .changed }
    else { old := .w8 old, buf := d, outcome := .unchanged }

/-! ### The shape of a request (R123) -/

/-- R123: an operation's offset is a multiple of its word's width. -/
def atomicAligned (op : AtomicOp) (offset : Fin 32) : Bool := offset.val % atomicWidth op == 0

/-- The request as the port queues it, or none when its shape is not well formed (R123). -/
def acceptedOf (r : Request) : Option Accepted :=
  match r.body with
  | .read length =>
    if length = 0 ∨ 32 < length ∨ 32 < (offsetOf r.addr).val + length then none
    else some { tag := r.tag, line := lineOf r.addr, work := .read (offsetOf r.addr) length }
  | .write mask data =>
    if mask = 0#32 then none else some { tag := r.tag, line := lineOf r.addr, work := .write mask data }
  | .atomic none => none
  | .atomic (some op) =>
    if atomicAligned op (offsetOf r.addr) then
      some { tag := r.tag, line := lineOf r.addr, work := .atomic (offsetOf r.addr) op }
    else none

/-- R122, R186: the kind a request would have had. -/
def reqKind : ReqBody → TxnKind
  | .read _ => .rRead
  | .write _ _ => .rWrite
  | .atomic _ => .rAtomic

/-! ### What a transaction's work says -/

/-- R29: the kind of a transaction. -/
def Work.kind : Work → TxnKind
  | .hRead _ _ => .hRead
  | .hWrite _ _ => .hWrite
  | .hFill _ => .hFill
  | .hEvict _ => .hEvict
  | .hLread _ _ => .hLread
  | .hLwrite _ _ _ => .hLwrite
  | .rRead _ _ _ _ => .rRead
  | .rWrite _ _ _ _ => .rWrite
  | .rAtomic _ _ _ _ => .rAtomic
  | .recall _ => .recall

/-- R186: the issuer of a transaction. -/
def Work.issuer : Work → Issuer
  | .hRead _ _ => .hp
  | .hWrite _ _ => .hp
  | .hFill _ => .hp
  | .hEvict _ => .hp
  | .hLread _ _ => .hp
  | .hLwrite _ _ _ => .hp
  | .rRead p _ _ _ => .rp p
  | .rWrite p _ _ _ => .rp p
  | .rAtomic p _ _ _ => .rp p
  | .recall _ => .internal

/-- R29: the tag of a requester transaction. -/
def Work.tag? : Work → Option Tag
  | .rRead _ t _ _ => some t
  | .rWrite _ t _ _ => some t
  | .rAtomic _ t _ _ => some t
  | .hRead _ _ => none
  | .hWrite _ _ => none
  | .hFill _ => none
  | .hEvict _ => none
  | .hLread _ _ => none
  | .hLwrite _ _ _ => none
  | .recall _ => none

/-- Whether the work came from the host port (R29, origin HP). -/
def Work.isHost (w : Work) : Bool := w.issuer == .hp

/-- Whether the work is a recall. -/
def Work.isRecall (w : Work) : Bool := w.issuer == .internal

/-- The port of a requester transaction. -/
def Work.port? (w : Work) : Option PortIx :=
  match w.issuer with
  | .rp p => some p
  | .hp => none
  | .internal => none

/-- Whether the work is a locked cycle's, H_LREAD or H_LWRITE (R44). -/
def Work.isLocked (w : Work) : Bool := w.kind == .hLread || w.kind == .hLwrite

/-- The work of an accepted request of a port (R47). -/
def Accepted.toWork (a : Accepted) (p : PortIx) : Work :=
  match a.work with
  | .read offset length => .rRead p a.tag offset length
  | .write mask data => .rWrite p a.tag mask data
  | .atomic offset op => .rAtomic p a.tag offset op

/-- R31, R35, R65: the kind of the next memory request of a transaction in MEM_WAIT. -/
def Txn.nextKind (t : Txn) : MemKind :=
  match t.work with
  | .hRead _ _ => .lineRead
  | .hFill _ => .lineRead
  | .hLread _ _ => .lineRead
  | .hWrite _ _ => .maskedWrite
  | .hLwrite _ _ _ => .maskedWrite
  | .hEvict _ => .lineWrite
  | .rRead _ _ _ _ => if t.wbData then .lineWrite else .lineRead
  | .rWrite _ _ _ _ => if t.wbData then .lineWrite else .maskedWrite
  | .rAtomic _ _ _ _ =>
    if t.wbData then .lineWrite else if t.outcome.isSome then .maskedWrite else .lineRead
  | .recall _ => .lineWrite

/-- R154: the line mask of a transaction's MASKED_WRITE. -/
def Work.writeMask : Work → LineMask
  | .hWrite b m => placeMask b m
  | .hLwrite b m _ => placeMask b m
  | .rWrite _ _ m _ => m
  | .rAtomic _ _ offset op => atomicMask op offset
  | .hRead _ _ => 0#32
  | .hFill _ => 0#32
  | .hEvict _ => 0#32
  | .hLread _ _ => 0#32
  | .rRead _ _ _ _ => 0#32
  | .recall _ => 0#32

/-- The beat that holds an offset of a line. -/
def offsetBeat (offset : Fin 32) : Beat := ⟨offset.val / 8, by omega⟩

/-- R154: the start beat of a transaction's LINE_READ. -/
def Work.startBeat : Work → Beat
  | .hRead b _ => b
  | .hFill b => b
  | .hLread b _ => b
  | .rRead _ _ offset _ => offsetBeat offset
  | .rAtomic _ _ offset _ => offsetBeat offset
  | .hWrite b _ => b
  | .hEvict b => b
  | .hLwrite b _ _ => b
  | .rWrite _ _ _ _ => 0
  | .recall _ => 0

/-- R47: the record of a transaction as it is admitted, its buffer empty. -/
def Txn.fresh (w : Work) (l : Line) (p : Phase) : Txn :=
  { work := w, line := l, phase := p, snapshot := none, dirResult := none, probeMode := none, answer := none,
    link := none, result := none, abandoned := false, buf := zeroLine, mask := 0#32, wbData := false,
    oldValue := none, outcome := none, wbTimer := none }

end Sys2Proof.Machine
end

