-- ==== Sys2Proof/Machine/Flags.lean ====
section
/-! DEFINITION. The event unit: event flags and ALERT, the fault list, the counters (chapter 10); and the outputs of
a step. -/

namespace Sys2Proof.Machine

/-- R194: "the flags in the order of the event table, from MEM_READ_ERR in bit 0 to LATE_WRITEBACK in bit 16". -/
def Event.bit : Event → Nat
  | .memReadErr => 0
  | .memWriteErr => 1
  | .probeTimeout => 2
  | .quarantineFull => 3
  | .accessDenied => 4
  | .atomicRefused => 5
  | .tagInUse => 6
  | .malformed => 7
  | .lockTimeout => 8
  | .lockOverrun => 9
  | .hostReset => 10
  | .sweepDone => 11
  | .sweepIncomplete => 12
  | .modeChanged => 13
  | .portDrained => 14
  | .lateAnswer => 15
  | .lateWriteback => 16

/-- R182: the flag of an error kind. WRITEBACK_LOST "has no flag of its own" and is recorded under HOST_RESET. -/
def FaultKind.event : FaultKind → Event
  | .memReadErr => .memReadErr
  | .memWriteErr => .memWriteErr
  | .probeTimeout => .probeTimeout
  | .quarantineFull => .quarantineFull
  | .accessDenied => .accessDenied
  | .atomicRefused => .atomicRefused
  | .tagInUse => .tagInUse
  | .malformed => .malformed
  | .lockTimeout => .lockTimeout
  | .lockOverrun => .lockOverrun
  | .writebackLost => .hostReset

/-- What the bridge drives outward, in order within the step (log 17). -/
def State.emit (o : Output) (s : State) : State := { s with out := s.out ++ [o] }

/-- R182: raising an event sets its flag and changes nothing else. -/
def State.raise (e : Event) (s : State) : State :=
  { s with ev := { s.ev with flags := s.ev.flags ||| (1#17 <<< e.bit) } }

/-- R187: the overflow count saturates at 255. -/
def bumpOverflow (n : BitVec 8) : BitVec 8 := if n = 255#8 then n else n + 1#8

/-- R187: a record joins the tail of a list of fewer than 4, and is counted otherwise. -/
def State.handRecord (r : FaultRec) (s : State) : State :=
  if s.ev.faults.length < 4 then { s with ev := { s.ev with faults := s.ev.faults ++ [r] } }
  else { s with ev := { s.ev with overflow := bumpOverflow s.ev.overflow } }

/-- R182: an error event sets its flag and hands one record to the fault list. -/
def State.reportError (r : FaultRec) (s : State) : State := (s.raise r.kind.event).handRecord r

/-- R186: the record of a transaction that met an error. -/
def Txn.record (k : FaultKind) (t : Txn) : FaultRec :=
  { kind := k, issuer := t.work.issuer, line := t.line, txnKind := t.work.kind, tag := t.work.tag? }

/-- R183: ALERT "is asserted exactly while some event flag is set together with its enable"; it is released while
the RESET pin is asserted (R185). -/
def State.alert (s : State) : Bool := (!s.pins.resetAsserted) && (s.ev.flags &&& s.ev.enables) != 0#17

/-- R190: the counters by name. -/
inductive Counter where
  | probes | probesDirty | recalls | declinedFills | retracts | orphanEvicts
  deriving DecidableEq, Repr

/-- R190: the counters increment by 1 and wrap. -/
def Counters.bump (k : Counter) (c : Counters) : Counters :=
  match k with
  | .probes => { c with probes := c.probes + 1#32 }
  | .probesDirty => { c with probesDirty := c.probesDirty + 1#32 }
  | .recalls => { c with recalls := c.recalls + 1#32 }
  | .declinedFills => { c with declinedFills := c.declinedFills + 1#32 }
  | .retracts => { c with retracts := c.retracts + 1#32 }
  | .orphanEvicts => { c with orphanEvicts := c.orphanEvicts + 1#32 }

/-- R190: one occurrence of what a counter counts. -/
def State.bump (k : Counter) (s : State) : State :=
  { s with ev := { s.ev with counters := s.ev.counters.bump k } }

end Sys2Proof.Machine
end

