-- ==== Sys2Proof/Machine/Directory.lean ====
section
/-! DEFINITION. The presence directory (chapter 1), the region map's resolution (chapter 4), the quarantine table's
reading, and the sweep's wake. -/

namespace Sys2Proof.Machine

/-! ### Reading the directory -/

/-- The entries of a line's set in admission order, newest first (R4). -/
def State.dirSet (s : State) (l : Line) : List DirEntry := s.pd.sets[(setOf l).val]

/-- The directory entry of a line (R7). -/
def State.findEntry (s : State) (l : Line) : Option DirEntry := (s.dirSet l).find? fun e => e.line == l

/-- Whether a line has an entry. -/
def State.hasEntry (s : State) (l : Line) : Bool := (s.findEntry l).isSome

/-- Whether a line has a HELD entry (R58). -/
def State.isHeld (s : State) (l : Line) : Bool := (s.findEntry l).any fun e => e.state == .held

/-- Whether a line has a RESERVED entry (R20). -/
def State.isReserved (s : State) (l : Line) : Bool := (s.findEntry l).any fun e => e.state == .reserved

/-- R7: the directory result of a line. -/
def State.dirResult (s : State) (l : Line) : DirResult :=
  match s.findEntry l with
  | none => .none
  | some e => match e.state with
    | .reserved => .reserved
    | .held => .held e.policy

/-- R10: the lowest-numbered free way of a set. -/
def freeWay (es : List DirEntry) : Option Way := (List.finRange 4).find? fun w => !es.any fun e => e.way == w

/-- Every way of the directory in sweep order, set 0 way 0 to set 255 way 3 (R173). -/
def Directory.ways (d : Directory) : List (Option DirEntry) :=
  d.sets.toList.flatMap fun es => (List.finRange 4).map fun w => es.find? fun e => e.way == w

/-- R1: the number of entries, which the directory keeps no count of. -/
def Directory.count (d : Directory) : Nat := (d.sets.toList.map List.length).sum

/-! ### The sweep's wake (R175) -/

/-- R175: pass rises by 1, saturating at 255. -/
def bumpPass (p : BitVec 8) : BitVec 8 := if p = 255#8 then p else p + 1#8

/-- The sweep state replaced. -/
def State.setSweep (w : Sweep) (s : State) : State := { s with msc := { s.msc with sweep := w } }

/-- R175: a new pass begins. -/
def Sweep.newPass (w : Sweep) : Sweep :=
  { w with phase := .examining, cursor := 0, pass := bumpPass w.pass, passedOver := 0, stirred := false }

/-- R175: a lock release or a change of an entry. A sweep that waits between passes begins a new pass; one in the middle of a
pass that has passed an entry over keeps the event for the end of the pass (log 12). -/
def State.wakeSweep (s : State) : State :=
  match s.msc.sweep.phase with
  | .waiting => s.setSweep s.msc.sweep.newPass
  | .stopped => s
  | .examining | .recalling =>
    if s.msc.sweep.passedOver = 0 then s else s.setSweep { s.msc.sweep with stirred := true }

/-! ### Changing the directory: the operations of R4 to R6 -/

/-- A set's list replaced. -/
def State.putSet (s : State) (l : Line) (es : List DirEntry) : State :=
  { s with pd := { s.pd with sets := s.pd.sets.set (setOf l).val es (setOf l).isLt } }

/-- R4: a new entry, RESERVED, in a free way, at age 0. An insertion into an occupied way, or of a line that has an
entry, does not occur (R3); it would change nothing (log 19). -/
def State.insertEntry (l : Line) (w : Way) (p : EntryPolicy) (s : State) : State :=
  if (s.dirSet l).any (fun e => e.way == w || e.line == l) then s
  else s.putSet l ({ way := w, line := l, state := .reserved, policy := p } :: s.dirSet l)

/-- R5, R9: the line's entry becomes RESERVED with a new policy and moves to age 0. -/
def State.reReserve (l : Line) (p : EntryPolicy) (s : State) : State :=
  match s.findEntry l with
  | none => s
  | some e =>
    s.putSet l ({ e with state := .reserved, policy := p } :: (s.dirSet l).filter fun e' => e'.line != l)

/-- R6: the line's entry leaves its set, if it has one. -/
def State.dropEntry (l : Line) (s : State) : State :=
  if s.hasEntry l then s.putSet l ((s.dirSet l).filter fun e => e.line != l) else s

/-- R6: the line's entry leaves its set, if it has one; the sweep hears of it (R175). -/
def State.removeEntry (l : Line) (s : State) : State := if s.hasEntry l then (s.dropEntry l).wakeSweep else s

/-- R20: the line's RESERVED entry becomes HELD where it stands; the sweep hears of it (R175). -/
def State.makeHeld (l : Line) (s : State) : State :=
  if s.isReserved l then
    (s.putSet l ((s.dirSet l).map fun e => if e.line = l then { e with state := .held } else e)).wakeSweep
  else s

/-- R18, R21: the line's RESERVED entry is removed, if it has one. -/
def State.removeReserved (l : Line) (s : State) : State := if s.isReserved l then s.removeEntry l else s

/-- R25: every HELD entry of every set is removed, the survivors keeping their order. -/
def Directory.flush (d : Directory) : Directory :=
  { d with sets := d.sets.map fun es => es.filter fun e => e.state == .reserved }

/-- R25: FLUSH_ACK. The sweep hears of it when an entry was removed (R175). -/
def State.flushHeld (s : State) : State :=
  let s' := { s with pd := s.pd.flush }
  if s'.pd.count = s.pd.count then s' else s'.wakeSweep

/-- R26: every entry of every set is removed. -/
def State.clearDirectory (s : State) : State := { s with pd := { s.pd with sets := Vector.replicate 256 [] } }

/-! ### Regions (R81, R82) -/

/-- R81: the entry's range holds every address of the line. -/
def Region.covers (r : Region) (l : Line) : Bool :=
  decide (r.base.toNat / 32 ≤ l.toNat ∧ l.toNat + 1 ≤ (r.base.toNat + 2 ^ r.exponent.toNat) / 32)

/-- R82: "the first entry that is valid and covers the line" supplies the attributes, else the defaults. -/
def RegionMap.resolve (rm : RegionMap) (l : Line) : Attr :=
  match rm.regions.toList.find? fun r => r.valid && r.covers l with
  | some r => r.attr
  | none => rm.defaults

/-- R9, R10: the policy a fill's entry takes from its snapshot; UNCACHED makes none. -/
def Policy.entryPolicy : Policy → Option EntryPolicy
  | .uncached => none
  | .wt => some .wt
  | .wb => some .wb

/-! ### Quarantine and sweep, as they are read -/

/-- R178: whether a line is in the quarantine table. -/
def State.isQuarantined (s : State) (l : Line) : Bool := s.msc.quarantine.any fun q => q.line == l

/-- R171: whether a sweep is running. -/
def State.sweeping (s : State) : Bool := s.msc.sweep.phase != .stopped

end Sys2Proof.Machine
end

