-- ==== Sys2Proof/Machine/Ops.lean ====
section
/-! DEFINITION. The named operations over the transaction table, the line locks, the probe queue, the memory port, the
host cycle, the requester ports and the command status. None of them decides anything about a lookup. -/

namespace Sys2Proof.Machine

/-- One step's outcome. -/
abbrev Result := Host.Outcome State Fault Refusal

/-! ### The transaction table (R28, R29, R36) -/

/-- The record of an entry, if the entry holds one. -/
def State.txn (s : State) (i : EntryIx) : Option Txn := s.tt.entries[i.val]

/-- An entry replaced. -/
def State.putTxn (i : EntryIx) (t : Option Txn) (s : State) : State :=
  { s with tt := { s.tt with entries := s.tt.entries.set i.val t i.isLt } }

/-- A record changed where it stands; a free entry stays free. -/
def State.modTxn (i : EntryIx) (f : Txn → Txn) (s : State) : State := s.putTxn i ((s.txn i).map f)

/-- R36: an entry is freed, and "every field of the record is cleared". -/
def State.freeEntry (i : EntryIx) (s : State) : State := s.putTxn i none

/-- A transaction's phase. -/
def State.setPhase (i : EntryIx) (p : Phase) (s : State) : State := s.modTxn i fun t => { t with phase := p }

/-- Entry 11, the recall entry (R28). -/
def recallEntry : EntryIx := 11

/-- The twelve entries in ascending order. -/
def allEntries : List EntryIx := List.finRange 12

/-- R45: "the lowest-numbered free general entry". -/
def State.freeGeneral (s : State) : Option EntryIx :=
  allEntries.find? fun i => i != recallEntry && (s.txn i).isNone

/-- Whether an entry's transaction is in the given phase. -/
def State.inPhase (s : State) (i : EntryIx) (p : Phase) : Bool := (s.txn i).any fun t => t.phase == p

/-- R38, R57, R153: a transaction joins the tail of a queue of transactions. It stands in the queue at most once; one that
stands there already, which no run shows, keeps its place (log 19). -/
def joinTail (q : List EntryIx) (i : EntryIx) : List EntryIx := if i ∈ q then q else q ++ [i]

/-- R14, R38: the same for a queue of general entries alone (log 19). -/
def joinGeneral (q : List EntryIx) (i : EntryIx) : List EntryIx := if i = recallEntry then q else joinTail q i

/-! ### Line locks (R37, R38) -/

/-- The lock record of a line; a line with none is unlocked. -/
def State.lockOf (s : State) (l : Line) : Option LockRec := s.tt.locks.find? fun r => r.line == l

/-- R12: whether a line is locked, by a transaction or by the host lock set. -/
def State.isLocked (s : State) (l : Line) : Bool := (s.lockOf l).isSome

/-- Whether a transaction is the holder of a line's lock (R52). -/
def State.holds (s : State) (i : EntryIx) (l : Line) : Bool := (s.lockOf l).any fun r => r.holder == .txn i

/-- R37: a line's lock record made or replaced. -/
def State.putLock (r : LockRec) (s : State) : State :=
  { s with tt := { s.tt with locks := r :: s.tt.locks.filter fun r' => r'.line != r.line } }

/-- R37: a line's lock record removed. -/
def State.dropLock (l : Line) (s : State) : State :=
  { s with tt := { s.tt with locks := s.tt.locks.filter fun r => r.line != l } }

/-- R38: a transaction joins a locked line's wait list at its tail. -/
def State.joinWaiters (i : EntryIx) (r : LockRec) (s : State) : State :=
  (s.putLock { r with waiters := joinGeneral r.waiters i }).setPhase i .lockWait

/-- R40: a transaction leaves its line's wait list, the members behind it keeping their order. -/
def State.leaveWaiters (i : EntryIx) (l : Line) (s : State) : State :=
  match s.lockOf l with
  | some r => s.putLock { r with waiters := r.waiters.filter fun j => j != i }
  | none => s

/-- R107: whether a line is in the host lock set. -/
def State.inLockSet (s : State) (l : Line) : Bool := s.hp.lockSet.any fun l' => l' == l

/-- R44, R107: whether a locked cycle that takes its line's lock brings the line into the host lock set. The set holds
fewer than 2 other lines then; the check is never false on a run (log 19). -/
def State.joinsLockSet (s : State) (w : Work) (l : Line) : Bool :=
  w.isLocked && decide (s.hp.lockSet.length < 2) && !s.inLockSet l

/-- R38, R44: a transaction becomes the holder of its line's lock, with the wait list given; the line of a locked cycle
joins the host lock set at its tail and the set becomes the holder. -/
def State.takeLock (i : EntryIx) (w : Work) (l : Line) (waiters : List EntryIx) (s : State) : State :=
  if s.joinsLockSet w l then
    { s with hp := { s.hp with lockSet := s.hp.lockSet ++ [l] } }.putLock
      { line := l, holder := .hostSet, waiters := waiters }
  else s.putLock { line := l, holder := .txn i, waiters := waiters }

/-- R42: the holder of a line's lock, when it is a transaction in a probe phase that has not taken write-back data. -/
def State.awaiting (s : State) (l : Line) : Option EntryIx :=
  match s.lockOf l with
  | some r => match r.holder with
    | .txn i =>
      if (s.txn i).any fun t =>
          (t.phase == .probeQueued || t.phase == .probing || t.phase == .wbWait) && !t.wbData then some i
      else none
    | .hostSet => none
  | none => none

/-! ### The memory port's waiting order (R155) -/

/-- R30: an R_WRITE without write-back data puts its bytes into its buffer as it enters MEM_WAIT. -/
def Txn.loadWrite (t : Txn) : Txn :=
  match t.work with
  | .rWrite _ _ m d => if t.wbData then t else { t with buf := overlay t.buf d m, mask := m }
  | _ => t

/-- R155: a transaction enters MEM_WAIT and joins the tail of the waiting order. -/
def State.toMemWait (i : EntryIx) (s : State) : State :=
  let s1 := s.modTxn i fun t => { t.loadWrite with phase := .memWait }
  { s1 with mp := { s1.mp with waiting := joinTail s1.mp.waiting i } }

/-- R156: a transaction leaves the waiting order, the members behind it keeping their order. -/
def State.leaveMemWait (i : EntryIx) (s : State) : State :=
  { s with mp := { s.mp with waiting := s.mp.waiting.filter fun j => j != i } }

/-! ### The probe unit (R53, R57, R62) -/

/-- The probe queue replaced. -/
def State.setQueue (q : List EntryIx) (s : State) : State := { s with pu := { s.pu with queue := q } }

/-- The channel state replaced. -/
def State.setChannel (c : Channel) (s : State) : State := { s with pu := { s.pu with channel := c } }

/-- R57: a transaction leaves the probe queue, the members behind it keeping their order. -/
def State.leaveQueue (i : EntryIx) (s : State) : State := s.setQueue (s.pu.queue.filter fun j => j != i)

/-- R62: a PENDING write-back timer starts from WB_LIMIT. One that counts behind a host write (R71) took its limit at
the answer (R75) and goes on. -/
def WbTimer.start (limit : Nat) : WbTimer → WbTimer
  | .pending => .running limit
  | .pendingCounting n => .pendingCounting n
  | .running n => .running n
  | .stopped => .stopped

/-- R62, R95: the bus carries no cycle, and every PENDING write-back timer starts. -/
def State.startPendingTimers (s : State) : State :=
  { s with tt := { s.tt with entries := s.tt.entries.map fun o => o.map fun t =>
      { t with wbTimer := t.wbTimer.map (WbTimer.start s.pu.wbLimit.toNat) } } }

/-! ### The host cycle (R94, R95) -/

/-- The cycle in progress replaced. -/
def State.setCycle (c : Option Cycle) (s : State) : State := { s with hp := { s.hp with cycle := c } }

/-- R95: the cycle ends and the bus carries none. -/
def State.endCycle (s : State) : State := (s.setCycle none).startPendingTimers

/-- The entry the cycle on the bus is attached to as write-back data (R42). -/
def State.attachedEntry (s : State) : Option EntryIx :=
  match s.hp.cycle with
  | some c => match c.standing with
    | .attached i => some i
    | .claiming => none
    | .served _ => none
  | none => none

/-- Whether the cycle on the bus is carried by this entry (R96). -/
def State.servedBy (s : State) (i : EntryIx) : Bool := s.hp.cycle.any fun c => c.standing == .served i

/-- R111: the lock timer starts from LOCK_LIMIT when the host lock set is not empty. -/
def State.startLockTimer (s : State) : State :=
  if s.hp.lockSet.isEmpty then s else { s with hp := { s.hp with lockTimer := some s.hp.lockLimit.toNat } }

/-- R94: the last locked kind is written at the completion of a locked cycle under the set. -/
def State.lockedDone (k : LockedKind) (s : State) : State :=
  if s.hp.lockSet.isEmpty then s else { s with hp := { s.hp with lastLocked := some k } }

/-- R110, R111: the host lock set is empty; the timer stops and no last locked kind is held. -/
def State.emptyLockSet (s : State) : State :=
  { s with hp := { s.hp with lockSet := [], lockTimer := none, lastLocked := none } }

/-! ### The requester ports (R119, R133) -/

/-- A port changed where it stands. -/
def State.modPort (p : PortIx) (f : Port → Port) (s : State) : State :=
  { s with rp := s.rp.set p.val (f s.rp[p.val]) p.isLt }

/-- A port. -/
def State.port (s : State) (p : PortIx) : Port := s.rp[p.val]

/-- R133: a response is placed at the tail of a port's response queue. -/
def State.placeResponse (p : PortIx) (r : Response) (s : State) : State :=
  s.modPort p fun q => { q with responses := q.responses ++ [r] }

/-- R128, R130, R133: what the response of a transaction that completes OK carries. -/
def Txn.responseData (t : Txn) : RespData :=
  match t.work with
  | .rRead _ _ offset length => .read (readBytes t.buf offset length)
  | .rAtomic _ _ _ _ => match t.oldValue with
    | some w => .old w
    | none => .none
  | _ => .none

/-- R133, R36: a requester transaction reaches DATA_OUT: its response is placed and its entry freed at that moment.
Its line lock is released by the caller. -/
def State.respond (i : EntryIx) (code : ResultCode) (s : State) : State :=
  match s.txn i with
  | none => s
  | some t => match t.work.port?, t.work.tag? with
    | some p, some tag =>
      (s.placeResponse p
        { tag := tag, result := code, data := if code = .ok then t.responseData else .none }).freeEntry i
    | _, _ => s.freeEntry i

/-- Whether a transaction of the port for the line is in the table (R137). -/
def State.portHasLine (s : State) (p : PortIx) (l : Line) : Bool :=
  allEntries.any fun i => (s.txn i).any fun t => t.work.port? == some p && t.line == l

/-- Whether a transaction of the port is in the table (R138). -/
def State.portHasTxn (s : State) (p : PortIx) : Bool :=
  allEntries.any fun i => (s.txn i).any fun t => t.work.port? == some p

/-! ### Mode, sweep and command status -/

/-- The mode replaced. -/
def State.setMode (m : Mode) (s : State) : State := { s with msc := { s.msc with mode := m } }

/-- The quarantine table replaced. -/
def State.setQuarantine (q : List QuarRec) (s : State) : State := { s with msc := { s.msc with quarantine := q } }

/-- The state and reason fields of CMD_STATUS (R195). -/
def State.setStatus (c : CmdState) (r : Reason) (s : State) : State :=
  { s with mg := { s.mg with status := { s.mg.status with state := c, reason := r } } }

/-- R195: a long operation changes the state field from BUSY to DONE when its end comes. -/
def State.endLongOperation (s : State) : State :=
  if s.mg.status.state = .busy then s.setStatus .done .none else s

/-- R195: a command is refused with its reason. -/
def State.refuseCommand (r : Reason) (s : State) : State := s.setStatus .refused r

/-- R195: the refused-while-busy mark is set. -/
def State.setMark (s : State) : State :=
  { s with mg := { s.mg with status := { s.mg.status with mark := true } } }

/-! ### Declining a fill (R8) -/

/-- R8: a declined fill makes no entry, is counted once, and goes to memory for an uncached line read. -/
def State.declineFill (f : EntryIx) (s : State) : State := (s.bump .declinedFills).toMemWait f

/-- The transaction a recall's for-fill link names (R13). -/
def State.recallLink (s : State) : Option EntryIx := (s.txn recallEntry).bind fun t => t.link

/-- R18, R19: the for-fill link is cleared. -/
def State.clearLink (s : State) : State := s.modTxn recallEntry fun t => { t with link := none }

/-- R17: a displacement recall that ends without removing its victim's entry declines its fill. -/
def State.declineLinked (s : State) : State :=
  match s.recallLink with
  | some f => s.clearLink.declineFill f
  | none => s

/-- R16: the way freed by a displacement recall passes to the fill its link names, unless the mode is no longer COHERENT or
a sweep is running. -/
def State.handOverWay (w : Way) (s : State) : State :=
  match s.recallLink with
  | none => s
  | some f =>
    let s1 := s.clearLink
    match s1.txn f with
    | none => s1
    | some t =>
      if s1.msc.mode = .coherent ∧ s1.sweeping = false then
        match t.snapshot.bind fun a => a.policy.entryPolicy with
        | some p => (s1.insertEntry t.line w p).toMemWait f
        | none => s1.declineFill f
      else s1.declineFill f

/-! ### The probed line (R60, R61, R64, R65) -/

/-- The entry of a probed line is removed; a recall hands the freed way to its waiting fill (R16), or declines it when
it removed nothing (R17). R175 lets a sweep hear of "another transaction's probe answer", and so not of its own recall's. -/
def State.removeProbed (i : EntryIx) (l : Line) (s : State) : State :=
  match s.findEntry l with
  | some e => if i = recallEntry then (s.dropEntry l).handOverWay e.way else s.removeEntry l
  | none => if i = recallEntry then s.declineLinked else s

/-- R65, R145: what a transaction does to its buffer once the write-back data is there: an R_WRITE overlays its bytes,
an R_ATOMIC runs its operation. -/
def Txn.workOnData (t : Txn) : Txn :=
  match t.work with
  | .rWrite _ _ m d => { t with buf := overlay t.buf d m }
  | .rAtomic _ _ offset op =>
    let r := runAtomic op offset t.buf
    { t with buf := r.buf, oldValue := some r.old, outcome := some r.outcome }
  | _ => t

/-- R64, R65, R68: the write-back data has been taken (and the answer, when a probe is out): the probe mode takes
effect, the timer is removed, and the transaction goes to MEM_WAIT with its buffer complete. -/
def State.dataTaken (i : EntryIx) (s : State) : State :=
  match s.txn i with
  | none => s
  | some t =>
    let s1 := if t.probeMode = some .invalidate then s.removeProbed i t.line else s
    let s2 := s1.modTxn i fun t => { t.workOnData with wbTimer := none }
    s2.toMemWait i

/-- R64: beats of a write-back go into the holder's buffer; the first of them stops its timer, the fourth sets every
mask position and completes the data. -/
def Txn.takeBeats (beats : List (Beat × BeatData)) (complete : Bool) (t : Txn) : Txn :=
  { t with
    buf := placeBeats beats t.buf
    mask := if complete then fullMask else t.mask
    wbData := t.wbData || complete
    wbTimer := if beats.isEmpty then t.wbTimer else t.wbTimer.map fun _ => .stopped }

/-- R64, R67, R68: after beats were taken into the holder's buffer: with the data complete, a transaction in WB_WAIT
goes on, and so does one in PROBING whose answer has been taken. -/
def State.afterBeats (i : EntryIx) (s : State) : State :=
  match s.txn i with
  | none => s
  | some t =>
    if t.wbData ∧ (t.phase = .wbWait ∨ (t.phase = .probing ∧ t.answer.isSome)) then s.dataTaken i else s

/-- R42, R67 to R69: the cycle on the bus attaches to a holder in a probe phase, with the beats taken so far. One in
PROBE_QUEUED leaves the queue and enters WB_WAIT with no timer. -/
def State.attach (i : EntryIx) (c : Cycle) (beats : List (Beat × BeatData)) (s : State) : State :=
  let s1 := s.setCycle (some { c with standing := .attached i, held := [] })
  let s2 := if s1.inPhase i .probeQueued then (s1.leaveQueue i).setPhase i .wbWait else s1
  let s3 := s2.modTxn i (Txn.takeBeats beats (c.taken.length == 4))
  s3.afterBeats i

/-- R42: a cycle that can be a write-back. -/
def CycleKind.isWriteback (k : CycleKind) : Bool := k == .evict || k == .probeWb

/-- R42, second and fourth moments: the holder of a line enters PROBE_QUEUED while an EVICT or PROBE_WB of the line is
claiming an entry, or is an H_EVICT in LOCK_WAIT; the cycle attaches to the holder. -/
def State.attachWaiting (i : EntryIx) (l : Line) (s : State) : State :=
  match s.hp.cycle with
  | none => s
  | some c =>
    if c.kind.isWriteback && c.line == l then
      match c.standing with
      | .claiming => s.attach i c c.held
      | .served j => match s.txn j with
        | some t =>
          if t.phase = .lockWait ∧ t.work.kind = .hEvict then
            ((s.leaveWaiters j l).freeEntry j).attach i c (beatsOf t.buf c.taken)
          else s
        | none => s
      | .attached _ => s
    else s

/-- R55, R57: a transaction enters PROBE_QUEUED with its mode and joins the probe queue at its tail; an eviction of its
line that waits attaches to it (R42). -/
def State.enterProbeQueued (i : EntryIx) (l : Line) (m : ProbeMode) (s : State) : State :=
  let s1 := s.modTxn i fun t => { t with phase := .probeQueued, probeMode := some m }
  (s1.setQueue (joinTail s1.pu.queue i)).attachWaiting i l

/-- R13, R173: a RECALL starts in entry 11, takes its line's lock, which is free, and joins the probe queue with
INVALIDATE. -/
def State.startRecall (cause : RecallCause) (l : Line) (link : Option EntryIx) (s : State) : State :=
  let t := { Txn.fresh (.recall cause) l .probeQueued with
    link := link, dirResult := some (s.dirResult l) }
  let s1 := s.putTxn recallEntry (some t)
  let s2 := s1.putLock { line := l, holder := .txn recallEntry, waiters := [] }
  (s2.bump .recalls).enterProbeQueued recallEntry l .invalidate

end Sys2Proof.Machine
end

