-- ==== Sys2Proof/Machine/Lookup.lean ====
section
/-! DEFINITION. The admission decision of a fill (section 1.4 of chapter 1), the lookup (R7, R92, R55), and the hand-off of a
line's lock (R38). -/

namespace Sys2Proof.Machine

/-! ### The admission decision (R8 to R13) -/

/-- R12: the oldest entry of the set that is HELD, whose line is not locked, and whose line is not quarantined. -/
def State.victim (s : State) (l : Line) : Option DirEntry :=
  (s.dirSet l).reverse.find? fun e =>
    e.state == .held && !s.isLocked e.line && !s.isQuarantined e.line

/-- R8: what declines a fill at its lookup. -/
def State.declines (s : State) (l : Line) (snapshot : Attr) : Bool :=
  s.msc.mode != .coherent || s.sweeping || s.isQuarantined l || snapshot.policy == .uncached

/-- R13: a fill that has chosen a victim enters WAY_WAIT; its recall starts when entry 11 is free, and it joins the
recall wait list otherwise. -/
def State.askRecall (f : EntryIx) (v : DirEntry) (s : State) : State :=
  let s1 := s.setPhase f .wayWait
  if (s1.txn recallEntry).isNone then s1.startRecall .displace v.line (some f)
  else { s1 with tt := { s1.tt with recallWait := joinGeneral s1.tt.recallWait f } }

/-- R8 to R13: "the first rule whose condition holds settles the case". The same decision serves a fill's lookup and its
re-decision (R15), where R9 finds no entry of the fill's own line. -/
def State.decideFill (f : EntryIx) (l : Line) (snapshot : Attr) (s : State) : State :=
  if s.declines l snapshot then s.declineFill f
  else match snapshot.policy.entryPolicy with
    | none => s.declineFill f
    | some p =>
      if s.hasEntry l then (s.reReserve l p).toMemWait f
      else match freeWay (s.dirSet l) with
        | some w => (s.insertEntry l w p).toMemWait f
        | none => match s.pd.admitPolicy with
          | .decline => s.declineFill f
          | .displace => match s.victim l with
            | none => s.declineFill f
            | some v => s.askRecall f v

/-! ### The lookup of an eviction (R24, R77) -/

/-- R180: the late-data flag of a line's record is set. -/
def markLate (l : Line) (q : List QuarRec) : List QuarRec :=
  q.map fun r => if r.line = l then { r with late := true } else r

/-- R24, R77: an H_EVICT removes its line's entry. When the line is quarantined it is a late write-back; when it has no
entry it is counted as an orphan. -/
def State.lookupEvict (i : EntryIx) (l : Line) (s : State) : State :=
  let s1 := s.modTxn i fun t => { t with dirResult := some (s.dirResult l) }
  let s2 :=
    if s1.isQuarantined l then
      ((s1.removeEntry l).setQuarantine (markLate l s1.msc.quarantine)).raise .lateWriteback
    else if s1.hasEntry l then s1.removeEntry l
    else s1.bump .orphanEvicts
  s2.toMemWait i

/-! ### The lookup of a requester transaction (R92, R55) -/

/-- Whether a kind is subject to the writer mask (R92, check 2). -/
def TxnKind.writes (k : TxnKind) : Bool := k == .rWrite || k == .rAtomic

/-- R92: the checks in their order; the first that fails gives the result. -/
def State.lookupRefusal (s : State) (k : TxnKind) (p : PortIx) (l : Line) (a : Attr) : Option ResultCode :=
  if s.isQuarantined l then some .quarantined
  else if k.writes && !a.writers.getLsbD p.val then some .accessDenied
  else if k == .rAtomic && !a.atomics then some .atomicRefused
  else if s.msc.mode == .faulted && a.coherent then some .bridgeFaulted
  else none

/-- R92: ACCESS_DENIED and ATOMIC_REFUSED raise their events with a fault record; the other results raise none. -/
def State.reportRefusal (t : Txn) (code : ResultCode) (s : State) : State :=
  match code with
  | .accessDenied => s.reportError (t.record .accessDenied)
  | .atomicRefused => s.reportError (t.record .atomicRefused)
  | _ => s

/-- R91: the directory is consulted in COHERENT mode for a coherent region. -/
def State.consulted (s : State) (l : Line) (a : Attr) : DirResult :=
  if s.msc.mode = .coherent ∧ a.coherent = true then s.dirResult l else .none

/-- R55: the probe a requester transaction needs. -/
def probeNeeded (k : TxnKind) (r : DirResult) : Option ProbeMode :=
  match r with
  | .none => none
  | .reserved => none
  | .held .wt => if k.writes then some .invalidate else none
  | .held .wb => if k.writes then some .invalidate else some .keep

/-- A lookup's outcome: the state, and whether the transaction completed at its lookup and gives the lock up. -/
structure Looked where
  state : State
  completed : Bool

/-- R127: the lookup of a requester transaction. One refused places its response at once. -/
def State.lookupRequester (i : EntryIx) (t : Txn) (p : PortIx) (s : State) : Looked :=
  let a := s.rm.resolve t.line
  match s.lookupRefusal t.work.kind p t.line a with
  | some code => { state := (s.reportRefusal t code).respond i code, completed := true }
  | none =>
    let r := s.consulted t.line a
    let s1 := s.modTxn i fun t => { t with snapshot := some a, dirResult := some r }
    match probeNeeded t.work.kind r with
    | some m => { state := s1.enterProbeQueued i t.line m, completed := false }
    | none => { state := s1.toMemWait i, completed := false }

/-- R7: the lookup of the transaction that has just become holder, or works under the host lock set. -/
def State.lookup (i : EntryIx) (s : State) : Looked :=
  match s.txn i with
  | none => { state := s, completed := true }
  | some t => match t.work with
    | .hFill _ =>
      let a := s.rm.resolve t.line
      let s1 := s.modTxn i fun t => { t with snapshot := some a, dirResult := some (s.dirResult t.line) }
      { state := s1.decideFill i t.line a, completed := false }
    | .hEvict _ => { state := s.lookupEvict i t.line, completed := false }
    | .hRead _ _ => { state := s.toMemWait i, completed := false }
    | .hWrite _ _ => { state := s.toMemWait i, completed := false }
    | .hLread _ _ => { state := s.toMemWait i, completed := false }
    | .hLwrite _ _ _ => { state := s.toMemWait i, completed := false }
    | .rRead p _ _ _ => s.lookupRequester i t p
    | .rWrite p _ _ _ => s.lookupRequester i t p
    | .rAtomic p _ _ _ => s.lookupRequester i t p
    | .recall _ => { state := s, completed := false }

/-! ### Lock hand-off (R38, R39) -/

/-- R38: the lock of a line passes along its wait list. The head becomes the holder and makes its lookup; when the lookup
completes it, the lock is released again and passes on. With no member left the line becomes unlocked. -/
def State.handOff (l : Line) : List EntryIx → State → State
  | [], s => s.dropLock l
  | i :: rest, s =>
    match s.txn i with
    | none => State.handOff l rest s
    | some t =>
      let r := (s.takeLock i t.work l rest).lookup i
      if r.completed then State.handOff l rest r.state.wakeSweep else r.state

/-- R175: the sweep hears of a released lock, but for that of entry 11, which is its own recall's (log 12). -/
def State.hearRelease (i : EntryIx) (s : State) : State := if i = recallEntry then s else s.wakeSweep

/-- R36, R38: a transaction gives up its line's lock, if it is the holder. -/
def State.releaseLock (i : EntryIx) (l : Line) (s : State) : State :=
  match s.lockOf l with
  | some r => if r.holder = .txn i then (s.hearRelease i).handOff l r.waiters else s
  | none => s

/-- R44: the host lock set gives up a line, if the set is the holder. -/
def State.giveUpLine (s : State) (l : Line) : State :=
  match s.lockOf l with
  | some r => if r.holder = .hostSet then s.wakeSweep.handOff l r.waiters else s
  | none => s

/-- R44, R110: every line of the host lock set is given up, in the set's order; the set is empty and its timer stopped. -/
def State.giveUpLockSet (s : State) : State := s.hp.lockSet.foldl State.giveUpLine s.emptyLockSet

/-- R33, R38: a transaction asks for its line's lock: it takes it at once when the line is unlocked, and joins the wait
list otherwise. -/
def State.requestLock (i : EntryIx) (l : Line) (s : State) : State :=
  match s.lockOf l with
  | none => s.handOff l [i]
  | some r => s.joinWaiters i r

/-- R33, R44, R108: a locked cycle whose line is in the host lock set looks up without asking for the lock; every other
transaction asks for it. -/
def State.askLock (i : EntryIx) (w : Work) (l : Line) (s : State) : State :=
  if w.isLocked && s.inLockSet l then (s.lookup i).state else s.requestLock i l

end Sys2Proof.Machine
end

