-- ==== Sys2Proof/Machine/Recall.lean ====
section
/-! DEFINITION. Entry 11 and its claimants, the sweep, the head of the probe queue, the drain of a port, and `settle`, which
brings about the consequences that the end of an event leaves (R48, R58, R137, R173 to R176). -/

namespace Sys2Proof.Machine

/-! ### The sweep (R173 to R176) -/

/-- What an examination of ways found: how many it passed over, and the first way whose entry it recalls. -/
structure Scan where
  passed : Nat
  found : Option (Nat × DirEntry)

/-- R173: the ways from a position on, each treated by what it holds. -/
def State.scanWays (s : State) : List (Option DirEntry) → Nat → Nat → Scan
  | [], _, passed => { passed := passed, found := none }
  | none :: rest, pos, passed => s.scanWays rest (pos + 1) passed
  | some e :: rest, pos, passed =>
    if s.isQuarantined e.line then s.scanWays rest (pos + 1) passed
    else if e.state == .reserved || s.isLocked e.line then s.scanWays rest (pos + 1) (passed + 1)
    else { passed := passed, found := some (pos, e) }

/-- What every end of a sweep does (R176, R177): running 0, remaining the number of entries, cursor and passed over 0,
SWEEP_DONE, and CMD_STATUS from BUSY to DONE. -/
def State.stopSweep (s : State) : State :=
  let w := { s.msc.sweep with
    phase := .stopped, cursor := 0, passedOver := 0, remaining := s.pd.count, stirred := false }
  ((s.setSweep w).raise .sweepDone).endLongOperation

/-- R176: the end of a sweep. One of origin SET_MODE brings PASS when the directory is empty, and SWEEP_INCOMPLETE
otherwise. -/
def State.endSweep (s : State) : State :=
  let s1 := s.stopSweep
  match s.msc.sweep.origin with
  | .setMode =>
    if s.pd.count = 0 then (s1.setMode .pass).raise .modeChanged else s1.raise .sweepIncomplete
  | .sweep => s1
  | .none => s1

/-- R177: the entry into FAULTED ends a running sweep. -/
def State.endSweepFaulted (s : State) : State :=
  if s.sweeping then
    match s.msc.sweep.origin with
    | .setMode => s.stopSweep.raise .sweepIncomplete
    | .sweep => s.stopSweep
    | .none => s.stopSweep
  else s

/-- A way's position as a cursor; positions past the last way do not occur. -/
def cursorAt (pos : Nat) : Fin 1024 := ⟨pos % 1024, Nat.mod_lt _ (by decide)⟩

/-- R173: a way's entry is recalled: the cursor stays at the way, and the sweep's RECALL starts in entry 11. -/
def State.recallWay (pos : Nat) (e : DirEntry) (passed : Nat) (s : State) : State :=
  (s.setSweep { s.msc.sweep with phase := .recalling, cursor := cursorAt pos, passedOver := passed }).startRecall
    .sweep e.line none

/-- R175: a pass that passed entries over has ended, and the sweep waits for an event, its cursor open (log 11). -/
def State.waitForEvent (passed : Nat) (s : State) : State :=
  { s.setSweep { s.msc.sweep with
      phase := .waiting, cursor := Config.cursorBetweenPasses s.freeCount, passedOver := passed } with
    freeCount := s.freeCount + 1 }

/-- R173, R176: the sweep examines ways from a position on. It stops at the first entry it recalls; past set 255 way 3 it ends
when nothing was passed over, and goes on as `rest` says otherwise. -/
def State.examineFrom (pos : Nat) (rest : Nat → State → State) (s : State) : State :=
  let r := s.scanWays (s.pd.ways.drop pos) pos s.msc.sweep.passedOver
  match r.found with
  | some (at', e) => s.recallWay at' e r.passed
  | none => if r.passed = 0 then s.endSweep else rest r.passed s

/-- R175: the end of a pass that passed entries over. An event that came after the first of them was passed over begins a
new pass at once; nothing can happen within that one, so at its own end the sweep waits (log 12). -/
def State.passOver (passed : Nat) (s : State) : State :=
  if s.msc.sweep.stirred then (s.setSweep s.msc.sweep.newPass).examineFrom 0 State.waitForEvent
  else s.waitForEvent passed

/-- R173 to R176: the sweep goes on from a position. -/
def State.advanceSweep (pos : Nat) (s : State) : State := s.examineFrom pos State.passOver

/-! ### Entry 11 and its claimants (R48) -/

/-- R15, R48: entry 11 is handed to the recall wait list: the head leaves the list and is re-decided, and so on until a
recall starts or the list is empty. -/
def State.serveRecallWait : List EntryIx → State → State
  | [], s => s
  | f :: rest, s =>
    let s1 := { s with tt := { s.tt with recallWait := rest } }
    match s1.txn f with
    | none => State.serveRecallWait rest s1
    | some t => match t.snapshot with
      | none => State.serveRecallWait rest s1
      | some a =>
        let s2 := s1.decideFill f t.line a
        if (s2.txn recallEntry).isSome then s2 else State.serveRecallWait rest s2

/-- R48: when entry 11 is free, a running sweep goes on (past the way whose recall has ended, R174), or the recall wait
list is served; else it stays free. -/
def State.giveEntry11 (s : State) : State :=
  if (s.txn recallEntry).isSome then s
  else match s.msc.sweep.phase with
    | .examining => s.advanceSweep s.msc.sweep.cursor.val
    | .recalling => s.advanceSweep (s.msc.sweep.cursor.val + 1)
    | .waiting => s
    | .stopped => s.serveRecallWait s.tt.recallWait

/-- R36, R174: a RECALL reaches the end of its work: entry 11 is freed, its line's lock is released, and entry 11 goes to its
claimants. R36 puts these at one moment; that the lock is handed on first is the model's choice (log 37). Entry 11
holds only a RECALL (R28, log 19). -/
def State.endRecall (s : State) : State :=
  match s.txn recallEntry with
  | none => s
  | some t =>
    if t.work.isRecall then ((s.freeEntry recallEntry).releaseLock recallEntry t.line).giveEntry11 else s

/-! ### Going on without write-back data (R58, R60, R61) -/

/-- R60: after MISS, CLEAN or a skip, a requester transaction goes to memory and a RECALL ends. -/
def State.goOnWithoutData (i : EntryIx) (s : State) : State :=
  match s.txn i with
  | none => s
  | some t => if t.work.isRecall then s.endRecall else s.toMemWait i

/-- R60, R61: the line's entry is removed when the answer and the mode call for it, and the transaction goes on. A RECALL's way
goes to the fill it names before the RECALL ends and its line's lock is handed on (log 39). -/
def State.afterMiss (i : EntryIx) (remove : Bool) (s : State) : State :=
  match s.txn i with
  | none => s
  | some t => (if remove then s.removeProbed i t.line else s).goOnWithoutData i

/-- R58: the head is issued on the idle channel: PROBING, the answer timer from PROBE_LIMIT, PROBES. -/
def State.issueProbe (i : EntryIx) (t : Txn) (m : ProbeMode) (s : State) : State :=
  let s1 := (s.setPhase i .probing).setChannel (.outstanding i t.line m s.pu.probeLimit.toNat)
  (s1.bump .probes).emit (.probe t.line m)

/-- R58, R59: the head of the probe queue is taken to the channel while the channel is IDLE and the mode is not FAULTED: issued
when its line still has a HELD entry, else skipped, and the next taken at once. The bound is more than the members that
can stand in the queue within one event (12, and the recalls that a skipped recall lets start). -/
def State.pumpProbes : Nat → State → State
  | 0, s => s
  | n + 1, s =>
    if s.pu.channel ≠ .idle ∨ s.msc.mode = .faulted then s
    else match s.pu.queue with
      | [] => s
      | i :: rest =>
        let s1 := s.setQueue rest
        match s1.txn i with
        | none => State.pumpProbes n s1
        | some t =>
          if s1.isHeld t.line then s1.issueProbe i t (t.probeMode.getD .invalidate)
          else
            State.pumpProbes n ((if t.work.isRecall then s1.declineLinked else s1).goOnWithoutData i)

/-! ### The drain of a port (R137, R138) -/

/-- R137: the head is answered PORT_DISABLED while no transaction of the port for its line is in the table. -/
def State.drainQueue (p : PortIx) : List Accepted → State → State
  | [], s => s
  | r :: rest, s =>
    if s.portHasLine p r.line then s
    else
      State.drainQueue p rest
        ((s.modPort p fun q => { q with ingress := rest }).placeResponse p
          { tag := r.tag, result := .portDisabled, data := .none })

/-- R137, R138: a DRAINING port answers what it can; with an empty queue and no transaction in the table it becomes
DISABLED, PORT_DRAINED is raised, and its PORT_DISABLE is DONE. -/
def State.drainPort (s : State) (p : PortIx) : State :=
  if (s.port p).state = .draining then
    let s1 := s.drainQueue p (s.port p).ingress
    if (s1.port p).ingress.isEmpty && !s1.portHasTxn p then
      ((s1.modPort p fun q => { q with state := .disabled }).raise .portDrained).endLongOperation
    else s1
  else s

/-- R137, R138: every draining port, once in an event, when all that the event ends has ended (log 43). -/
def State.drainPorts (s : State) : State := (List.finRange 4).foldl State.drainPort s

/-! ### The consequences an event leaves -/

/-- How many members of the probe queue one event may take. -/
def pumpBound : Nat := 32

/-- What follows an event at once: entry 11 goes to its claimants (R48), the head of the probe queue is taken to an idle
channel (R58), and draining ports are answered (R137, R138). The order is the model's (log 8), and so is that the draining
ports are answered once, at the end of the event: where it ends several transactions of such a port, the drain's answers stand
behind all their responses (log 43). -/
def State.settle (s : State) : State := (s.giveEntry11.pumpProbes pumpBound).drainPorts

end Sys2Proof.Machine
end

