-- ==== Sys2Proof/Machine/Probes.lean ====
section
/-! DEFINITION. The probe unit's commands (chapter 3): answers, the retract, timeouts, quarantine entry and the entry into
FAULTED; and the withdrawal of host work (R49, R50), which the retract and HRST share. -/

namespace Sys2Proof.Machine

/-! ### Commands and the RESET pin -/

/-- What was driven outward belongs to one step (log 17). -/
def State.clearOut (s : State) : State := { s with out := [] }

/-- A command's effect on a running bridge. While the RESET pin is asserted the bridge takes no command (R198, log 2). -/
def live (f : State → Result) (s : State) : Result :=
  if s.pins.resetAsserted then .next s.clearOut else f s.clearOut

/-! ### Withdrawing host work (R49, R50, R18) -/

/-- R18: the directory side of a fill that is withdrawn: its RESERVED entry, its place in the recall wait list, and the
for-fill link that names it. -/
def State.withdrawFill (i : EntryIx) (t : Txn) (s : State) : State :=
  if t.work.kind = .hFill then
    let s1 := s.removeReserved t.line
    let s2 := { s1 with tt := { s1.tt with recallWait := s1.tt.recallWait.filter fun j => j != i } }
    if s2.recallLink = some i then s2.clearLink else s2
  else s

/-- R49, R50: host work is withdrawn according to its phase. Only a request that is outstanding at memory keeps its
entry and lock, marked abandoned. Work that is not of the host is never withdrawn (log 19). -/
def State.withdraw (i : EntryIx) (s : State) : State :=
  match s.txn i with
  | none => s
  | some t =>
    if t.work.isHost then
      match t.phase with
      | .dataIn => s.freeEntry i
      | .lockWait => (s.leaveWaiters i t.line).freeEntry i
      | .memBusy => (s.withdrawFill i t).modTxn i fun t => { t with abandoned := true }
      | .wayWait | .memWait | .dataOut | .probeQueued | .probing | .wbWait =>
        (((s.withdrawFill i t).leaveMemWait i).freeEntry i).releaseLock i t.line
    else s

/-! ### Retract (R70, R115) -/

/-- R108: a locked cycle working under the host lock set: its line is in the set and it has made its lookup. -/
def State.underLockSet (s : State) (i : EntryIx) : Bool :=
  (s.txn i).any fun t => t.work.isLocked && s.inLockSet t.line &&
    (t.phase == .memWait || t.phase == .memBusy || t.phase == .dataOut)

/-- R70, R115: whether a DIRTY answer retracts the cycle on the bus. -/
def State.retractable (s : State) (c : Cycle) : Bool :=
  c.given == 0 && match c.standing with
    | .claiming => true
    | .served i => !s.underLockSet i
    | .attached _ => false

/-- R115: the retract of a cycle: it leaves the bus, RETRACTS counts it, the table withdraws its transaction, and the
lock timer starts when it was a locked cycle that held an entry and the set is not empty (R111). -/
def State.retractCycle (c : Cycle) (s : State) : State :=
  let s1 := ((s.bump .retracts).emit .retract).endCycle
  match c.standing with
  | .served i =>
    let s2 := s1.withdraw i
    if (s.txn i).any fun t => t.work.isLocked then s2.startLockTimer else s2
  | .claiming => s1
  | .attached _ => s1

/-- R70: what a DIRTY answer does to the cycle on the bus. -/
def State.retract (s : State) : State :=
  match s.hp.cycle with
  | some c => if s.retractable c then s.retractCycle c else s
  | none => s

/-! ### Answers (R60 to R63, R68) -/

/-- R71: the cycle on the bus is a host write kind in the wait list of a line. -/
def State.hostWriteWaits (s : State) (l : Line) : Bool :=
  s.hp.cycle.any fun c => match c.standing with
    | .served j => (s.txn j).any fun t => t.phase == .lockWait && t.line == l &&
        (t.work.kind == .hWrite || t.work.kind == .hLwrite || t.work.kind == .hEvict)
    | .claiming => false
    | .attached _ => false

/-- R62, R70, R71, R75: DIRTY with no write-back attached: WB_WAIT with a PENDING timer, the retract, and the start of the
timer when the bus carries no cycle. Behind a host write of the same line the timer counts from the answer. -/
def State.awaitWriteback (i : EntryIx) (l : Line) (s : State) : State :=
  let s1 := (s.modTxn i fun t => { t with phase := .wbWait, wbTimer := some .pending }).retract
  if s1.hp.cycle.isNone then s1.startPendingTimers
  else if s1.hostWriteWaits l then
    s1.modTxn i fun t => { t with wbTimer := some (.pendingCounting s.pu.wbLimit.toNat) }
  else s1

/-- R60 to R62, R68: what an answer does to its transaction. With a write-back attached every answer is taken as DIRTY
with the data taken; the probe mode then takes effect once the fourth beat is in (log 31). -/
def State.actOnAnswer (i : EntryIx) (a : Answer) (s : State) : State :=
  match s.txn i with
  | none => s
  | some t =>
    if t.wbData || s.attachedEntry == some i then
      (if a = .dirty then s.bump .probesDirty else s).afterBeats i
    else match a with
      | .miss => s.afterMiss i true
      | .clean => s.afterMiss i (t.probeMode == some .invalidate)
      | .dirty => (s.bump .probesDirty).awaitWriteback i t.line
      | .timeout => s

/-- Section 3.4: an answer is taken for the outstanding probe: the timer stops, the channel is IDLE, the answer is
recorded, and the transaction goes on. With no probe outstanding it is a late answer (R63). -/
def State.takeAnswer (a : Answer) (s : State) : State :=
  match s.pu.channel with
  | .outstanding i _ _ _ =>
    (((s.setChannel .idle).modTxn i fun t => { t with answer := some a }).actOnAnswer i a).settle
  | .idle => s.raise .lateAnswer
  | .quiet _ => s.raise .lateAnswer

/-- R60: PROBE_ANSWER_MISS. -/
def execProbeAnswerMiss (s : State) : Result := live (fun s => .next (s.takeAnswer .miss)) s

/-- R61: PROBE_ANSWER_CLEAN. -/
def execProbeAnswerClean (s : State) : Result := live (fun s => .next (s.takeAnswer .clean)) s

/-- R62: PROBE_ANSWER_DIRTY. -/
def execProbeAnswerDirty (s : State) : Result := live (fun s => .next (s.takeAnswer .dirty)) s

/-! ### Timeouts, quarantine, FAULTED (R68, R72, R73, R76, R169, R179) -/

/-- R133, R36, R38: a requester transaction ends: its response is placed, its entry freed, its lock released. -/
def State.endRequester (i : EntryIx) (l : Line) (code : ResultCode) (s : State) : State :=
  (s.respond i code).releaseLock i l

/-- R17, R36: a RECALL ends without having removed its victim's entry, so the fill its link names is declined. That the fill
joins the waiting order before the victim's lock is handed on is the model's choice (log 39). -/
def State.abandonRecall (s : State) : State := s.declineLinked.endRecall

/-- How a probing transaction ends without going to memory: a RECALL is freed, a requester transaction is answered. -/
def State.endProbing (i : EntryIx) (t : Txn) (code : ResultCode) (s : State) : State :=
  if t.work.isRecall then s.abandonRecall else s.endRequester i t.line code

/-- R76: a member leaves the probe queue at the entry into FAULTED. -/
def State.leaveAtFaulted (s : State) (i : EntryIx) : State :=
  match s.txn i with
  | none => s
  | some t => s.endProbing i t .bridgeFaulted

/-- R169, R76, R177: the entry into FAULTED: the mode, the end of a running sweep, and every member of the probe
queue leaves it (log 33). That one member's whole end, the release of its line and the answers this gives to those that wait
for it among it, comes before the next member's is the model's choice (log 41). -/
def State.enterFaulted (s : State) : State :=
  let s1 := (s.setMode .faulted).endSweepFaulted
  s1.pu.queue.foldl State.leaveAtFaulted (s1.setQueue [])

/-- R76, R179: a line is entered into the quarantine table behind the records it holds; a full table raises
QUARANTINE_FULL with a record of the timed-out transaction, and the bridge enters FAULTED or stays there. A record of the
same line does not stand already (R76, log 19). -/
def State.enterQuarantine (t : Txn) (cause : QuarCause) (s : State) : State :=
  if s.isQuarantined t.line then s
  else if s.msc.quarantine.length < 8 then
    s.setQuarantine (s.msc.quarantine ++ [{ line := t.line, cause := cause, late := false }])
  else
    let s1 := s.reportError (t.record .quarantineFull)
    if s1.msc.mode = .coherent then s1.enterFaulted else s1

/-- R68: a write-back attached to a timed-out transaction is handed back: the cycle holds the beats taken so far and
claims a general entry. -/
def State.handBack (i : EntryIx) (t : Txn) (s : State) : State :=
  match s.hp.cycle with
  | none => s
  | some c =>
    if c.standing = .attached i then
      s.setCycle (some { c with standing := .claiming, held := beatsOf t.buf c.taken })
    else s

/-- R72, R73: a probe or its write-back has timed out. When the bridge enters FAULTED with it, the members of the probe queue
are answered before the transaction that timed out; that order is the model's choice (log 38). -/
def State.timeout (i : EntryIx) (cause : QuarCause) (s : State) : State :=
  match s.txn i with
  | none => s
  | some t =>
    let s1 := s.modTxn i fun t => { t with answer := some .timeout, wbTimer := none }
    let s2 := (s1.handBack i t).reportError (t.record .probeTimeout)
    (s2.enterQuarantine t cause).endProbing i t .probeTimeout

/-- R72: ANSWER_TIMER_EXPIRY. The expiry of a timer that does not run has no effect (log 5). -/
def execAnswerTimerExpiry (s : State) : Result :=
  live (fun s => match s.pu.channel with
    | .outstanding i _ _ _ =>
      .next (((s.setChannel (.quiet s.pu.probeLimit.toNat)).timeout i .answerTimeout).settle)
    | .idle => .next s
    | .quiet _ => .next s) s

/-- R53: whether a write-back timer counts: running, or PENDING behind a host write of its line (R71). -/
def WbTimer.counts : WbTimer → Bool
  | .pending => false
  | .pendingCounting _ => true
  | .running _ => true
  | .stopped => false

/-- R73: WB_TIMER_EXPIRY. The expiry of a timer that does not count has no effect (log 5). -/
def execWbTimerExpiry (i : EntryIx) (s : State) : Result :=
  live (fun s =>
    if (s.txn i).any fun t => t.wbTimer.any WbTimer.counts then .next ((s.timeout i .writebackTimeout).settle)
    else .next s) s

/-- R74: QUIET_TIMER_EXPIRY: the channel is IDLE and the head of the queue may be taken. Outside a quiet period it has no
effect (log 5). -/
def execQuietTimerExpiry (s : State) : Result :=
  live (fun s => match s.pu.channel with
    | .quiet _ => .next ((s.setChannel .idle).settle)
    | .idle => .next s
    | .outstanding _ _ _ _ => .next s) s

end Sys2Proof.Machine
end

