-- ==== Sys2Proof/Machine/HostPort.lean ====
section
/-! DEFINITION. The host port's cycles and beats (chapter 5). -/

namespace Sys2Proof.Machine

/-! ### Taking a cycle's address (R95, R96) -/

/-- R94: the record of a cycle as its address is taken. The beats of a PROBE_WB start at beat 0 (spec 00, section 4). -/
def Cycle.start (kind : CycleKind) (addr : Addr) (mask : BeatMask) (endMark : Bool) : Cycle :=
  { kind := kind, addr := addr, line := lineOf addr, beat := if kind = .probeWb then 0 else beatOf addr, mask := mask,
    endMark := endMark, standing := .claiming, given := 0, taken := [], held := [] }

/-- R94, R95: the host port takes a cycle only while HRST is released, and the processor runs one cycle at a time. -/
def onFreeBus (f : State → Result) (s : State) : Result :=
  if s.pins.hrstAsserted then .next s
  else if s.hp.cycle.isSome then .refused .busCarriesCycle
  else f s

/-- R96: a cycle that claims a general entry. -/
def State.claim (kind : CycleKind) (addr : Addr) (mask : BeatMask) (endMark : Bool) (s : State) : State :=
  s.setCycle (some (Cycle.start kind addr mask endMark))

/-- R42, R96: an EVICT or PROBE_WB attaches to the holder of its line's lock that waits for write-back data, and claims
an entry otherwise. -/
def State.claimOrAttach (kind : CycleKind) (addr : Addr) (s : State) : State :=
  match s.awaiting (lineOf addr) with
  | some i => (s.attach i (Cycle.start kind addr 0#8 false) []).settle
  | none => s.claim kind addr 0#8 false

/-- R109: a locked cycle on a third line is answered with a bus error at its address. -/
def State.overrun (k : TxnKind) (l : Line) (s : State) : State :=
  (s.reportError { kind := .lockOverrun, issuer := .hp, line := l, txnKind := k, tag := none }).emit .busError

/-- R107, R108, R109: whether the host lock set can take a locked cycle of the line. -/
def State.setTakes (s : State) (l : Line) : Bool := s.inLockSet l || decide (s.hp.lockSet.length < 2)

/-- R99: HOST_READ. -/
def execHostRead (addr : Addr) (mask : BeatMask) (s : State) : Result :=
  live (onFreeBus fun s => .next (s.claim .read addr mask false)) s

/-- R100: HOST_WRITE. -/
def execHostWrite (addr : Addr) (mask : BeatMask) (s : State) : Result :=
  live (onFreeBus fun s => .next (s.claim .write addr mask false)) s

/-- R101: HOST_FILL. -/
def execHostFill (addr : Addr) (s : State) : Result :=
  live (onFreeBus fun s => .next (s.claim .fill addr 0#8 false)) s

/-- R103: HOST_EVICT. -/
def execHostEvict (addr : Addr) (s : State) : Result :=
  live (onFreeBus fun s => .next (s.claimOrAttach .evict addr)) s

/-- R105: HOST_PROBE_WB. -/
def execHostProbeWb (addr : Addr) (s : State) : Result :=
  live (onFreeBus fun s => .next (s.claimOrAttach .probeWb addr)) s

/-- R107 to R109, R112: HOST_LREAD. Under the broken-sequence mark it is taken as a READ. -/
def execHostLread (addr : Addr) (mask : BeatMask) (s : State) : Result :=
  live (onFreeBus fun s =>
    if s.hp.broken then .next (s.claim .read addr mask false)
    else if s.setTakes (lineOf addr) then .next (s.claim .lread addr mask false)
    else .next (s.overrun .hLread (lineOf addr))) s

/-- R112: the broken-sequence mark is cleared. -/
def State.clearBroken (s : State) : State := { s with hp := { s.hp with broken := false } }

/-- R107 to R109, R112: HOST_LWRITE. Under the broken-sequence mark it is taken as a WRITE, and one carrying END clears
the mark. -/
def execHostLwrite (addr : Addr) (mask : BeatMask) (endMark : Bool) (s : State) : Result :=
  live (onFreeBus fun s =>
    if s.hp.broken then .next ((if endMark then s.clearBroken else s).claim .write addr mask false)
    else if s.setTakes (lineOf addr) then .next (s.claim .lwrite addr mask endMark)
    else .next (s.overrun .hLwrite (lineOf addr))) s

/-- R104, R25: HOST_SPECIAL: acknowledged at its address; FLUSH_ACK empties the directory of HELD entries. -/
def execHostSpecial (code : SpecialCode) (s : State) : Result :=
  live (onFreeBus fun s =>
    match code with
    | .flushAck => .next ((s.emit .specialAck).flushHeld.settle)
    | .other _ => .next (s.emit .specialAck)) s

/-! ### Beats of the write kinds (R97, R103, R64) -/

/-- R97: a beat is acknowledged as it is taken. -/
def State.ackBeat (c : Cycle) (s : State) : State := (s.setCycle (some { c with given := c.given + 1 })).emit .beatAck

/-- R33, R42, R103: the fourth beat of an eviction is in its transaction's buffer: it attaches to a holder of its line
that waits for write-back data, its entry then freed, or asks for its line's lock. -/
def State.lastEvictBeat (i : EntryIx) (c : Cycle) (s : State) : State :=
  match s.txn i with
  | none => s
  | some t => match s.awaiting t.line with
    | some j => (s.freeEntry i).attach j c (beatsOf t.buf c.taken)
    | none => s.requestLock i t.line

/-- R30, R100: the single beat of an H_WRITE or H_LWRITE: the bytes under the beat mask. -/
def Txn.takeMasked (b : Beat) (m : BeatMask) (data : BeatData) (t : Txn) : Txn :=
  { t with buf := overlay t.buf (spreadBeat data) (placeMask b m), mask := t.mask ||| placeMask b m }

/-- R30, R103: one beat of an H_EVICT, all its bytes. -/
def Txn.takeWhole (b : Beat) (data : BeatData) (t : Txn) : Txn :=
  { t with buf := setBeat t.buf b data, mask := t.mask ||| placeMask b (BitVec.allOnes 8) }

/-- R97, R100: the beat of a single-beat cycle is taken and acknowledged, and its transaction asks for its line's lock. -/
def State.takeSingleBeat (i : EntryIx) (c : Cycle) (t : Txn) (b : Beat) (m : BeatMask) (data : BeatData) (s : State) :
    State :=
  let s1 := (s.modTxn i (Txn.takeMasked b m data)).ackBeat { c with taken := c.taken ++ [b] }
  (s1.askLock i t.work t.line).settle

/-- R97, R103: a beat of an eviction is taken at its own position. The first three are acknowledged as they are taken. -/
def State.takeEvictBeat (i : EntryIx) (c : Cycle) (b : Beat) (data : BeatData) (s : State) : State :=
  let c1 := { c with taken := c.taken ++ [b] }
  let s1 := s.modTxn i (Txn.takeWhole b data)
  if c1.taken.length < 4 then s1.ackBeat c1 else ((s1.setCycle (some c1)).lastEvictBeat i c1).settle

/-- R97: a beat of a SERVED cycle goes to the transaction in DATA_IN that carries it, when the cycle still awaits the beat.
Any other beat is not taken (log 4). -/
def State.takeServedBeat (i : EntryIx) (c : Cycle) (t : Txn) (b : Beat) (data : BeatData) (s : State) : State :=
  if t.phase ≠ .dataIn ∨ b ∈ c.taken then s
  else match t.work with
    | .hWrite beat m => if b = beat then s.takeSingleBeat i c t b m data else s
    | .hLwrite beat m _ => if b = beat then s.takeSingleBeat i c t b m data else s
    | .hEvict _ => s.takeEvictBeat i c b data
    | .hRead _ _ | .hFill _ | .hLread _ _ | .rRead _ _ _ _ | .rWrite _ _ _ _ | .rAtomic _ _ _ _ | .recall _ => s

/-- R64, R97: a beat of an attached write-back is placed in the holder's buffer; the first three are acknowledged. -/
def State.takeWritebackBeat (i : EntryIx) (c : Cycle) (b : Beat) (data : BeatData) (s : State) : State :=
  let c1 := { c with taken := c.taken ++ [b] }
  let s1 := s.modTxn i (Txn.takeBeats [(b, data)] (c1.taken.length == 4))
  let s2 := if c1.taken.length < 4 then s1.ackBeat c1 else s1.setCycle (some c1)
  (s2.afterBeats i).settle

/-- R64: a beat of an ATTACHED cycle goes to the holder, when the write-back still awaits it. Any other beat is not taken
(log 4). -/
def State.takeAttachedBeat (i : EntryIx) (c : Cycle) (b : Beat) (data : BeatData) (s : State) : State :=
  if b ∈ c.taken ∨ 4 ≤ c.taken.length then s else s.takeWritebackBeat i c b data

/-- R97: HOST_WRITE_BEAT. "A beat is taken only once the cycle's transaction exists or its holder is named": with no cycle,
or with one that is CLAIMING, none is taken and none acknowledged. The cycle's standing says whose buffer takes it (log 42).
-/
def execHostWriteBeat (b : Beat) (data : BeatData) (s : State) : Result :=
  live (fun s => match s.hp.cycle with
    | none => .next s
    | some c => match c.standing with
      | .claiming => .next s
      | .attached i => .next (s.takeAttachedBeat i c b data)
      | .served i => match s.txn i with
        | none => .next s
        | some t => .next (s.takeServedBeat i c t b data)) s

/-- R64, R97: WRITEBACK_BEAT, a beat of an EVICT or PROBE_WB. The cycle's standing says whose buffer takes it: the holder's
when it is ATTACHED, that of the H_EVICT that serves it when it is SERVED (log 42). -/
def execWritebackBeat (b : Beat) (data : BeatData) (s : State) : Result :=
  live (fun s => match s.hp.cycle with
    | none => .next s
    | some c => match c.standing with
      | .claiming => .next s
      | .attached i => .next (s.takeAttachedBeat i c b data)
      | .served i => match s.txn i with
        | none => .next s
        | some t => if t.work.kind = .hEvict then .next (s.takeServedBeat i c t b data) else .next s) s

/-! ### Beats of the read kinds (R98, R101) -/

/-- R101, R20, R21: the grant of a fill's beats: the policy of its RESERVED entry when its LINE_READ completed OK, else
NOCACHE. -/
def State.fillGrant (s : State) (l : Line) (ok : Bool) : Grant :=
  match s.findEntry l with
  | none => .noCache
  | some e => match e.state, e.policy, ok with
    | .reserved, .wt, true => .wt
    | .reserved, .wb, true => .wb
    | _, _, _ => .noCache

/-- R98, R159: the bytes of a delivered beat; a beat with the error mark carries eight zero bytes. -/
def deliveredData (t : Txn) (b : Beat) (ok : Bool) : BeatData := if ok then beatAt t.buf b else zeroBeat

/-- R98, R36: the beat of a READ is delivered; the cycle ends, the entry is freed and the lock released. -/
def State.deliverRead (i : EntryIx) (t : Txn) (b : Beat) (ok : Bool) (s : State) : State :=
  (((s.emit (.beat b (deliveredData t b ok) .noCache (!ok))).endCycle.freeEntry i).releaseLock i t.line).settle

/-- R98, R107, R111: the beat of an LREAD is delivered; the line stays locked by the set, and the lock timer starts. -/
def State.deliverLread (i : EntryIx) (t : Txn) (b : Beat) (ok : Bool) (s : State) : State :=
  let s1 := (s.emit (.beat b (deliveredData t b ok) .noCache (!ok))).endCycle.freeEntry i
  ((((s1.lockedDone .hLread).startLockTimer)).releaseLock i t.line).settle

/-- R20, R21: what the last beat of a fill does to its RESERVED entry: HELD with a cacheable grant, else removed. -/
def State.finishFill (l : Line) (ok : Bool) (s : State) : State := if ok then s.makeHeld l else s.removeReserved l

/-- R101, R20, R21: the next beat of a fill, in wrapped order; the fourth settles its entry and ends the fill. -/
def State.deliverFill (i : EntryIx) (c : Cycle) (t : Txn) (start : Beat) (ok : Bool) (s : State) : State :=
  let b : Beat := start + Fin.ofNat 4 c.given
  let s1 := s.emit (.beat b (deliveredData t b ok) (s.fillGrant t.line ok) (!ok))
  if c.given < 3 then s1.setCycle (some { c with given := c.given + 1 })
  else ((((s1.finishFill t.line ok).endCycle.freeEntry i).releaseLock i t.line)).settle

/-! ### The final acknowledgment taken (R36, R97) -/

/-- R36, R95: the processor has taken the final acknowledgment of a WRITE or an eviction: the cycle ends, the entry is freed
and the lock released. -/
def State.endWrite (i : EntryIx) (l : Line) (s : State) : State := ((s.endCycle.freeEntry i).releaseLock i l).settle

/-- R36, R95, R111: that of an LWRITE. The line of one without END stays with the host lock set, and the lock timer starts;
one with END gave the set up at its completion (R110). -/
def State.endLwrite (i : EntryIx) (l : Line) (endMark : Bool) (s : State) : State :=
  let s1 := s.endCycle.freeEntry i
  if endMark then (s1.releaseLock i l).settle else (((s1.lockedDone .hLwrite).startLockTimer).releaseLock i l).settle

/-- What the processor takes from a transaction in DATA_OUT with its result decided: the next beat of a read kind, or the
final acknowledgment of a write kind. -/
def State.takeDelivered (i : EntryIx) (c : Cycle) (t : Txn) (r : ResultCode) (s : State) : State :=
  match t.work with
  | .hRead b _ => s.deliverRead i t b (r == .ok)
  | .hLread b _ => s.deliverLread i t b (r == .ok)
  | .hFill start => s.deliverFill i c t start (r == .ok)
  | .hWrite _ _ => s.endWrite i t.line
  | .hEvict _ => s.endWrite i t.line
  | .hLwrite _ _ endMark => s.endLwrite i t.line endMark
  | .rRead _ _ _ _ | .rWrite _ _ _ _ | .rAtomic _ _ _ _ | .recall _ => s

/-- The transaction that carries the cycle on the bus, when it stands in DATA_OUT with its result decided. -/
def State.delivering (s : State) : Option (EntryIx × Cycle × Txn × ResultCode) :=
  match s.hp.cycle with
  | none => none
  | some c => match c.standing with
    | .claiming => none
    | .attached _ => none
    | .served i => match s.txn i with
      | none => none
      | some t => if t.phase = .dataOut then t.result.map fun r => (i, c, t, r) else none

/-- R98, R36: HOST_BEAT_TAKEN. With nothing to take it has no effect (log 10). -/
def execHostBeatTaken (s : State) : Result :=
  live (fun s => match s.delivering with
    | some (i, c, t, r) => .next (s.takeDelivered i c t r)
    | none => .next s) s

/-! ### The lock timer (R111) -/

/-- R111: the kind of a locked cycle, as a transaction kind. -/
def LockedKind.kind : LockedKind → TxnKind
  | .hLread => .hLread
  | .hLwrite => .hLwrite

/-- R111: the lock times out: LOCK_TIMEOUT with the first line of the set and the last locked kind, the set given up, and
the mark set. -/
def State.lockTimeout (first : Line) (k : LockedKind) (s : State) : State :=
  let s1 := s.reportError { kind := .lockTimeout, issuer := .hp, line := first, txnKind := k.kind, tag := none }
  let s2 := s1.giveUpLockSet
  { s2 with hp := { s2.hp with broken := true } }

/-- R111: LOCK_TIMER_EXPIRY. A running timer implies a set with a line and a locked cycle completed under it (log 34); the
expiry of a timer that does not run has no effect (log 5). -/
def execLockTimerExpiry (s : State) : Result :=
  live (fun s => match s.hp.lockTimer, s.hp.lockSet, s.hp.lastLocked with
    | some _, first :: _, some k => .next ((s.lockTimeout first k).settle)
    | _, _, _ => .next s) s

end Sys2Proof.Machine
end

