-- ==== Sys2Proof/Machine/Ports.lean ====
section
/-! DEFINITION. The admission arbiter (section 2.6) and the requester ports' handshakes (chapter 6). -/

namespace Sys2Proof.Machine

/-! ### Admission (R45 to R47, R33) -/

/-- R45: a claimant of the admission arbiter. -/
inductive Claimant where
  | host (c : Cycle)
  | port (p : PortIx) (r : Accepted) (rest : List Accepted)

/-- R45: the head of a port's ingress queue, when the port is ENABLED. -/
def State.portClaim (s : State) (p : PortIx) : Option Claimant :=
  if (s.port p).state = .enabled then
    match (s.port p).ingress with
    | [] => none
    | r :: rest => some (.port p r rest)
  else none

/-- R45, R46: the ports in the order they are offered, from the one after the port granted most recently. -/
def offerOrder (granted : PortIx) : List PortIx := [granted + 1, granted + 2, granted + 3, granted]

/-- R45: the host cycle first, then the ingress queue heads in round-robin order. -/
def State.claimant (s : State) : Option Claimant :=
  match s.hp.cycle with
  | some c => if c.standing = .claiming then some (.host c) else (offerOrder s.tt.roundRobin).findSome? s.portClaim
  | none => (offerOrder s.tt.roundRobin).findSome? s.portClaim

/-- R96, R105, R112, R47: the work a cycle becomes when it is admitted. A PROBE_WB is taken as an eviction, and a locked
cycle that finds the broken-sequence mark set is served as a READ or WRITE (R111). -/
def Cycle.work (c : Cycle) (broken : Bool) : Work :=
  match c.kind with
  | .read => .hRead c.beat c.mask
  | .write => .hWrite c.beat c.mask
  | .fill => .hFill c.beat
  | .evict => .hEvict c.beat
  | .probeWb => .hEvict c.beat
  | .lread => if broken then .hRead c.beat c.mask else .hLread c.beat c.mask
  | .lwrite => if broken then .hWrite c.beat c.mask else .hLwrite c.beat c.mask c.endMark

/-- R33: a host write kind, which enters DATA_IN at admission. -/
def Work.takesBeats (w : Work) : Bool := w.kind == .hWrite || w.kind == .hEvict || w.kind == .hLwrite

/-- R47, R68: the record of a host cycle as it is admitted: the beats it holds stand in its buffer. -/
def Cycle.admitted (c : Cycle) (w : Work) : Txn :=
  { Txn.fresh w c.line (if w.takesBeats then .dataIn else .lockWait) with
    buf := placeBeats c.held zeroLine, mask := beatsMask (c.held.map Prod.fst) }

/-- R111: the lock timer stops when a locked cycle is given a transaction entry. -/
def State.stopLockTimer (w : Work) (s : State) : State :=
  if w.isLocked then { s with hp := { s.hp with lockTimer := none } } else s

/-- R45, R33: the host cycle is given an entry. A write kind takes its beats in DATA_IN (one handed back with its four
beats has taken them already); the others ask for their line's lock. -/
def State.admitHost (i : EntryIx) (c : Cycle) (s : State) : State :=
  let w := c.work s.hp.broken
  let c1 := { c with standing := .served i, held := [] }
  let s1 := ((s.putTxn i (some (c.admitted w))).setCycle (some c1)).stopLockTimer w
  if w.takesBeats then
    if c.taken.length = 4 then s1.lastEvictBeat i c1 else s1
  else s1.askLock i w c.line

/-- R46: the round-robin position moves to the port granted. -/
def State.setRoundRobin (p : PortIx) (s : State) : State := { s with tt := { s.tt with roundRobin := p } }

/-- R45, R46, R126: the head of an ingress queue is given an entry, leaves the queue, and asks for its line's lock. -/
def State.admitPort (i : EntryIx) (p : PortIx) (r : Accepted) (rest : List Accepted) (s : State) : State :=
  let s1 := (s.modPort p fun q => { q with ingress := rest }).setRoundRobin p
  (s1.putTxn i (some (Txn.fresh (r.toWork p) r.line .lockWait))).requestLock i r.line

/-- R45: a claimant is given an entry. -/
def State.admitClaimant (i : EntryIx) (c : Claimant) (s : State) : State :=
  match c with
  | .host c => s.admitHost i c
  | .port p r rest => s.admitPort i p r rest

/-- R45: ADMISSION_GRANT: the lowest-numbered free general entry goes to the first claimant, "whenever both exist"; while one
is missing nothing is given, and a claimant goes on waiting (log 4). -/
def execAdmissionGrant (s : State) : Result :=
  live (fun s => match s.claimant with
    | none => .next s
    | some c => match s.freeGeneral with
      | none => .next s
      | some i => .next (s.admitClaimant i c).settle) s

/-! ### The request handshake (R121 to R124) -/

/-- R122, R123: the fault record of a refused request. -/
def refusedRecord (k : FaultKind) (p : PortIx) (r : Request) : FaultRec :=
  { kind := k, issuer := .rp p, line := lineOf r.addr, txnKind := reqKind r.body, tag := some r.tag }

/-- R121: an accepted request: its tag joins the tag set and it joins the tail of the ingress queue. -/
def Port.accept (a : Accepted) (q : Port) : Port :=
  { q with tags := q.tags.set a.tag.val true a.tag.isLt, ingress := q.ingress ++ [a] }

/-- R121: the checks of an ENABLED port that is ready, after check 1. -/
def State.checkRequest (p : PortIx) (r : Request) (s : State) : State :=
  if (s.port p).tags[r.tag.val] then
    (s.reportError (refusedRecord .tagInUse p r)).emit (.refusal p r.tag .tagInUse)
  else match acceptedOf r with
    | none => (s.reportError (refusedRecord .malformed p r)).emit (.refusal p r.tag .malformed)
    | some a => s.modPort p (Port.accept a)

/-- R121: REQUEST_OFFER. An ENABLED port with 8 requests queued is not ready, and the request stays outside (log 26). -/
def execRequestOffer (p : PortIx) (r : Request) (s : State) : Result :=
  live (fun s =>
    if (s.port p).state ≠ .enabled then .next (s.emit (.refusal p r.tag .portDisabled))
    else if 8 ≤ (s.port p).ingress.length then .next s
    else .next (s.checkRequest p r)) s

/-! ### The response handshake (R133) -/

/-- R133: the head of a response queue leaves, and its tag leaves the tag set. -/
def Port.deliver (r : Response) (rest : List Response) (q : Port) : Port :=
  { q with tags := q.tags.set r.tag.val false r.tag.isLt, responses := rest }

/-- R133: RESPONSE_TAKEN. With no response presented nothing leaves (log 4). -/
def execResponseTaken (p : PortIx) (s : State) : Result :=
  live (fun s => match (s.port p).responses with
    | [] => .next s
    | r :: rest => .next ((s.modPort p (Port.deliver r rest)).emit (.response p r))) s

end Sys2Proof.Machine
end

