-- ==== Sys2Proof/Machine/Memory.lean ====
section
/-! DEFINITION. The memory port (chapter 8): the acceptance of the offered request, and completions. -/

namespace Sys2Proof.Machine

/-! ### Requests (R154, R155) -/

/-- R153: the record of a transaction's request. -/
def Txn.memReq (i : EntryIx) (t : Txn) : MemReq :=
  { txn := i, kind := t.nextKind, line := t.line,
    mask := match t.nextKind with
      | .maskedWrite => t.work.writeMask
      | .lineRead => 0#32
      | .lineWrite => 0#32 }

/-- R154: what a request carries toward the controller. A MASKED_WRITE carries the bytes under its mask; the others stand
as 0 here. -/
def Txn.memOutput (t : Txn) : Output :=
  match t.nextKind with
  | .lineRead => .lineRead t.line t.work.startBeat
  | .lineWrite => .lineWrite t.line t.buf
  | .maskedWrite => .maskedWrite t.line t.work.writeMask (overlay zeroLine t.buf t.work.writeMask)

/-- R155: the head's request is issued: it leaves the waiting order, its record joins the outstanding queue, and it
enters MEM_BUSY. -/
def State.issueRequest (i : EntryIx) (rest : List EntryIx) (t : Txn) (s : State) : State :=
  let s1 := { s with mp := { outstanding := s.mp.outstanding ++ [t.memReq i], waiting := rest } }
  (s1.setPhase i .memBusy).emit t.memOutput

/-- R155: MEM_REQUEST_ACCEPT. The port offers the head's request while fewer than 8 are outstanding; with nothing offered
nothing is accepted, and what waits goes on waiting (log 4). -/
def execMemRequestAccept (s : State) : Result :=
  live (fun s => match s.mp.waiting with
    | [] => .next s
    | i :: rest =>
      if 8 ≤ s.mp.outstanding.length then .next s
      else match s.txn i with
        | none => .next s
        | some t => .next (s.issueRequest i rest t)) s

/-! ### Completions (R157 to R161, R51) -/

/-- Whether a completion reports an error. -/
def failed : Completion → Bool
  | .ok _ => false
  | .error => true

/-- R159, R160: the event of a failed request. -/
def MemKind.errorKind : MemKind → FaultKind
  | .lineRead => .memReadErr
  | .lineWrite => .memWriteErr
  | .maskedWrite => .memWriteErr

/-- R159 to R161: a failed request is reported once, with the record of its transaction. -/
def State.reportMemory (t : Txn) (k : MemKind) (c : Completion) (s : State) : State :=
  if failed c then s.reportError (t.record k.errorKind) else s

/-- R157, R30: an OK LINE_READ writes its 32 bytes and sets every mask position; with ERROR the buffer is not written. -/
def Txn.load (c : Completion) (t : Txn) : Txn :=
  match c with
  | .ok data => { t with buf := data, mask := fullMask }
  | .error => t

/-- The result a completion gives (R131, R158 to R160). -/
def completionCode (c : Completion) : ResultCode := if failed c then .memError else .ok

/-- R66, R158: the last beat of a write-back attached to a transaction is acknowledged at its LINE_WRITE's completion,
without the error mark, and the cycle ends. -/
def State.ackAttached (i : EntryIx) (s : State) : State :=
  if s.attachedEntry = some i then (s.emit (.finalAck false)).endCycle else s

/-- R158, R159: a host read kind goes to DATA_OUT with its result. -/
def State.completeHostRead (i : EntryIx) (c : Completion) (s : State) : State :=
  s.modTxn i fun t => { t.load c with phase := .dataOut, result := some (completionCode c) }

/-- R158: a host write kind goes to DATA_OUT with the result its acknowledgment reports. -/
def State.toDataOut (i : EntryIx) (r : ResultCode) (s : State) : State :=
  s.modTxn i fun t => { t with phase := .dataOut, result := some r }

/-- R97, R158: the final acknowledgment of a host write kind is given, with the error mark or without; its transaction is
in DATA_OUT until the processor has taken it (R36, log 10). -/
def State.giveFinalAck (i : EntryIx) (r : ResultCode) (s : State) : State :=
  (s.toDataOut i r).emit (.finalAck (r != .ok))

/-- R94, R97: the final acknowledgment of an eviction is that of its fourth beat. -/
def State.countBeat (s : State) : State := s.setCycle (s.hp.cycle.map fun c => { c with given := c.given + 1 })

/-- R110: the completion of an LWRITE's write; END gives up the host lock set at that moment. -/
def State.completeLwrite (i : EntryIx) (endMark : Bool) (r : ResultCode) (s : State) : State :=
  let s1 := s.giveFinalAck i r
  if endMark then s1.giveUpLockSet else s1

/-- R145, R35: the LINE_READ of an R_ATOMIC has completed OK: the operation runs; with the outcome CHANGED the
transaction waits for its MASKED_WRITE, else it is answered. -/
def State.completeAtomicRead (i : EntryIx) (l : Line) (c : Completion) (s : State) : State :=
  let s1 := s.modTxn i fun t => (t.load c).workOnData
  if (s1.txn i).any fun t => t.outcome == some .changed then s1.toMemWait i else s1.endRequester i l .ok

/-- R128, R131: an R_READ after its LINE_READ, or its LINE_WRITE of write-back data, which is answered OK even when the
write failed. -/
def State.completeRRead (i : EntryIx) (l : Line) (k : MemKind) (c : Completion) (s : State) : State :=
  match k with
  | .lineRead => (s.modTxn i (Txn.load c)).endRequester i l (completionCode c)
  | .lineWrite => (s.ackAttached i).endRequester i l .ok
  | .maskedWrite => (s.ackAttached i).endRequester i l .ok

/-- R129, R130, R131, R149: a requester transaction's write has completed. -/
def State.completeRWrite (i : EntryIx) (l : Line) (c : Completion) (s : State) : State :=
  (s.ackAttached i).endRequester i l (completionCode c)

/-- R144, R149: an R_ATOMIC after its LINE_READ or its write. -/
def State.completeRAtomic (i : EntryIx) (l : Line) (k : MemKind) (c : Completion) (s : State) : State :=
  match k with
  | .lineRead => if failed c then s.endRequester i l .memError else s.completeAtomicRead i l c
  | .lineWrite => s.completeRWrite i l c
  | .maskedWrite => s.completeRWrite i l c

/-- R158 to R160: a completion moves its transaction on. -/
def State.completeTxn (i : EntryIx) (t : Txn) (k : MemKind) (c : Completion) (s : State) : State :=
  let s1 := s.reportMemory t k c
  match t.work with
  | .hRead _ _ => s1.completeHostRead i c
  | .hFill _ => s1.completeHostRead i c
  | .hLread _ _ => s1.completeHostRead i c
  | .hWrite _ _ => s1.giveFinalAck i (completionCode c)
  | .hEvict _ => (s1.giveFinalAck i .ok).countBeat
  | .hLwrite _ _ endMark => s1.completeLwrite i endMark (completionCode c)
  | .rRead _ _ _ _ => s1.completeRRead i t.line k c
  | .rWrite _ _ _ _ => s1.completeRWrite i t.line c
  | .rAtomic _ _ _ _ => s1.completeRAtomic i t.line k c
  | .recall _ => (s1.ackAttached i).endRecall

/-- R51: the completion of an abandoned transaction frees its entry and its lock and has no other effect. -/
def State.completeAbandoned (i : EntryIx) (l : Line) (s : State) : State := (s.freeEntry i).releaseLock i l

/-- R157: a completion is that of the oldest outstanding request; its slot is freed and it is handed to its
transaction. Only host work is ever abandoned (R50, log 19). -/
def State.complete (r : MemReq) (rest : List MemReq) (c : Completion) (s : State) : State :=
  let s1 := { s with mp := { s.mp with outstanding := rest } }
  match s1.txn r.txn with
  | none => s1
  | some t =>
    if t.abandoned && t.work.isHost then s1.completeAbandoned r.txn t.line else s1.completeTxn r.txn t r.kind c

/-- R157: MEM_COMPLETION. One that arrives with nothing outstanding is discarded. -/
def execMemCompletion (c : Completion) (s : State) : Result :=
  live (fun s => match s.mp.outstanding with
    | [] => .next s
    | r :: rest => .next (s.complete r rest c).settle) s

end Sys2Proof.Machine
end

