-- ==== Sys2Proof/Machine/Reset.lean ====
section
/-! DEFINITION. The reset inputs: the host reset notice (R26, R50, R78, R117, R162, R177) and the RESET pin (R198). -/

namespace Sys2Proof.Machine

/-! ### The assertion of HRST, block by block -/

/-- R94, R117: the cycle is dropped with no further beat or acknowledgment; the lock timer, the mark and the last locked kind
return to their starting values. -/
def State.dropHostSide (s : State) : State :=
  let s1 := s.endCycle
  { s1 with hp := { s1.hp with lockTimer := none, broken := false, lastLocked := none } }

/-- R26, R177, R50: the directory is emptied, a running sweep ends, the recall wait list is emptied, and the running
recall has no fill to hand a way to. -/
def State.dropDirectory (s : State) : State :=
  let s1 := s.clearDirectory
  let s2 := if s1.sweeping then s1.endSweep else s1
  { s2 with tt := { s2.tt with recallWait := [] } }.clearLink

/-- R50: a host-origin transaction is abandoned in whatever phase it stands. -/
def State.abandonHost (s : State) (i : EntryIx) : State :=
  if (s.txn i).any fun t => t.work.isHost then s.withdraw i else s

/-- R50: the abandoned transaction in MEM_BUSY that was working under the host lock set on a line. -/
def State.lockedAtMemory (s : State) (l : Line) : Option EntryIx :=
  allEntries.find? fun i =>
    (s.txn i).any fun t => t.work.isLocked && t.phase == .memBusy && t.abandoned && t.line == l

/-- R50: a line of the emptied set: an abandoned transaction that was working on it takes its lock ahead of the wait list,
else it is released (R38). -/
def State.giveUpLineAtHrst (s : State) (l : Line) : State :=
  match s.lockedAtMemory l, s.lockOf l with
  | some i, some r => if r.holder = .hostSet then s.putLock { r with holder := .txn i } else s
  | _, _ => s.giveUpLine l

/-- R50, R117: the host lock set is emptied. -/
def State.dropLockSet (s : State) : State := s.hp.lockSet.foldl State.giveUpLineAtHrst s.emptyLockSet

/-- R78: the outstanding probe counts as answered MISS: the timer stops and the channel is IDLE. A quiet period goes on. -/
def State.dropProbe (s : State) : State :=
  match s.pu.channel with
  | .outstanding i _ _ _ => (s.setChannel .idle).modTxn i fun t => { t with answer := some .miss }
  | .idle => s
  | .quiet _ => s

/-- R78, R151: an awaited write-back is lost: a WRITEBACK_LOST record, the beats taken so far and the timer discarded, and the
transaction goes on as after MISS. -/
def State.loseWriteback (i : EntryIx) (t : Txn) (s : State) : State :=
  ((s.handRecord (t.record .writebackLost)).modTxn i fun t => { t with wbTimer := none }).afterMiss i true

/-- R78: what HRST does to a transaction in PROBING or WB_WAIT, given the entry the dropped cycle was attached to. -/
def State.settleProbing (attached : Option EntryIx) (s : State) (i : EntryIx) : State :=
  match s.txn i with
  | none => s
  | some t => match t.phase with
    | .probing =>
      if t.wbData then s.dataTaken i
      else if attached = some i then s.loseWriteback i t
      else s.afterMiss i true
    | .wbWait => s.loseWriteback i t
    | .lockWait | .dataIn | .wayWait | .probeQueued | .memWait | .memBusy | .dataOut => s

/-- R117: the assertion of HRST, the host side first and the probe machinery last, entries in ascending order (R187), each
with its whole end, the answers to those that wait for its line among it, before the next (log 9). -/
def State.hostReset (s : State) : State :=
  let s1 := ((s.raise .hostReset).dropHostSide).dropDirectory
  let s2 := (allEntries.foldl State.abandonHost s1).dropLockSet.dropProbe
  (allEntries.foldl (State.settleProbing s.attachedEntry) s2).settle

/-- The level of HRST. -/
def State.setHrst (level : Bool) (s : State) : State := { s with pins := { s.pins with hrstAsserted := level } }

/-- R117: HRST_ASSERT. While the RESET pin is asserted there is nothing to settle, and the level alone is taken. -/
def execHrstAssert (s : State) : Result :=
  if s.pins.hrstAsserted then .refused .hrstAlreadyAsserted
  else if s.pins.resetAsserted then .next (s.clearOut.setHrst true)
  else .next ((s.clearOut.setHrst true).hostReset)

/-- R117: HRST_RELEASE. -/
def execHrstRelease (s : State) : Result :=
  if s.pins.hrstAsserted then .next (s.clearOut.setHrst false) else .refused .hrstNotAsserted

/-! ### The RESET pin (R198, R94, R119, R163, R185) -/

/-- R198: the assertion of the RESET pin drops all work and empties every table, queue and collection, with no event and
nothing answered. What the straps decide stands until the release (log 28), as does the level of HRST. -/
def execResetPinAssert (s : State) : Result :=
  let r := State.afterReset s.pins.ma1 s.pins.ma0 s.pins.start
  .next { r with
    pd := { r.pd with admitPolicy := s.pd.admitPolicy }
    rm := { r.rm with defaults := s.rm.defaults }
    msc := { r.msc with mode := s.msc.mode }
    pins := { s.pins with resetAsserted := true }
    pending := s.pending
    freeCount := s.freeCount }

/-- R198: the release of the RESET pin samples the straps. -/
def execResetPinRelease (ma1 ma0 start : Bool) (s : State) : Result :=
  if s.pins.resetAsserted then
    let r := State.afterReset ma1 ma0 start
    .next { r with
      pins := { r.pins with hrstAsserted := s.pins.hrstAsserted }
      pending := s.pending
      freeCount := s.freeCount }
  else .refused .resetNotAsserted

end Sys2Proof.Machine
end

