-- ==== Sys2Proof/Machine/Registers.lean ====
section
/-! DEFINITION. The register window as it reads (sections 11.2 and 11.3): the codes of R194, the layouts of R194 and R197. -/

namespace Sys2Proof.Machine

/-! ### Codes (R194) -/

/-- A number at a position of a register. -/
def fieldAt (pos v : Nat) : Reg := BitVec.ofNat 32 v <<< pos

/-- A flag at a position of a register. -/
def flagAt (pos : Nat) (b : Bool) : Reg := fieldAt pos b.toNat

/-- R194: mode. -/
def Mode.code : Mode → Nat
  | .pass => 0
  | .coherent => 1
  | .faulted => 2

/-- R194: command state. -/
def CmdState.code : CmdState → Nat
  | .done => 0
  | .busy => 1
  | .refused => 2

/-- R194: refusal reason. -/
def Reason.code : Reason → Nat
  | .none => 0
  | .wrongMode => 1
  | .badRegion => 2
  | .badIndex => 3
  | .empty => 4
  | .busy => 5

/-- R194: region or default policy. -/
def Policy.code : Policy → Nat
  | .uncached => 0
  | .wt => 1
  | .wb => 2

/-- R194: the policy a code names; 3 names no policy. -/
def policyOf (n : Nat) : Option Policy :=
  match n with
  | 0 => some .uncached
  | 1 => some .wt
  | 2 => some .wb
  | _ => none

/-- R194: port state. -/
def PortState.code : PortState → Nat
  | .enabled => 0
  | .draining => 1
  | .disabled => 2

/-- R194: sweep origin. -/
def SweepOrigin.code : SweepOrigin → Nat
  | .none => 0
  | .sweep => 1
  | .setMode => 2

/-- R194: entry state. -/
def EntryState.code : EntryState → Nat
  | .reserved => 1
  | .held => 2

/-- R194: entry policy. -/
def EntryPolicy.code : EntryPolicy → Nat
  | .wt => 1
  | .wb => 2

/-- R194: transaction kind. -/
def TxnKind.code : TxnKind → Nat
  | .hRead => 1
  | .hWrite => 2
  | .hFill => 3
  | .hEvict => 4
  | .hLread => 5
  | .hLwrite => 6
  | .rRead => 7
  | .rWrite => 8
  | .rAtomic => 9
  | .recall => 10

/-- R194: origin, as a fault record shows it. -/
def Issuer.code : Issuer → Nat
  | .hp => 1
  | .rp p => 2 + p.val
  | .internal => 6

/-- R194: origin, as a snapshot shows it; a sweep's RECALL reads 7. -/
def Work.originCode : Work → Nat
  | .recall .sweep => 7
  | w => w.issuer.code

/-- R194: phase. -/
def Phase.code : Phase → Nat
  | .lockWait => 1
  | .dataIn => 2
  | .wayWait => 3
  | .probeQueued => 4
  | .probing => 5
  | .wbWait => 6
  | .memWait => 7
  | .memBusy => 8
  | .dataOut => 9

/-- R194: probe mode; 0 when absent (R52). -/
def probeModeCode : Option ProbeMode → Nat
  | none => 0
  | some .invalidate => 1
  | some .keep => 2

/-- R194, R52: probe answer; 0 when absent. TIMEOUT is never in a table entry and has no code. -/
def answerCode : Option Answer → Nat
  | none => 0
  | some .miss => 1
  | some .clean => 2
  | some .dirty => 3
  | some .timeout => 0

/-- R194, R52: transaction result, OK or MEM_ERROR; the others are never in a table entry and have no code. -/
def resultCode : Option ResultCode → Nat
  | some .ok => 1
  | some .memError => 4
  | _ => 0

/-- R194: fault kind, "1–10 the error flags in event-table order, 11 WRITEBACK_LOST". -/
def FaultKind.code : FaultKind → Nat
  | .memReadErr => 1
  | .memWriteErr => 2
  | .probeTimeout => 3
  | .quarantineFull => 4
  | .accessDenied => 5
  | .atomicRefused => 6
  | .tagInUse => 7
  | .malformed => 8
  | .lockTimeout => 9
  | .lockOverrun => 10
  | .writebackLost => 11

/-- R194: quarantine cause. -/
def QuarCause.code : QuarCause → Nat
  | .answerTimeout => 1
  | .writebackTimeout => 2

/-- R194: admission policy. -/
def AdmitPolicy.code : AdmitPolicy → Nat
  | .displace => 0
  | .decline => 1

/-! ### Layouts (R194) -/

/-- R194: CMD_STATUS. -/
def CmdStatus.word (c : CmdStatus) : Reg :=
  fieldAt 0 c.state.code ||| fieldAt 4 c.reason.code ||| fieldAt 8 c.code.toNat ||| flagAt 16 c.mark

/-- R194: DEFAULT_ATTR. -/
def Attr.word (a : Attr) : Reg :=
  fieldAt 0 a.policy.code ||| flagAt 2 a.coherent ||| fieldAt 3 a.writers.toNat ||| flagAt 7 a.atomics

/-- R194: REGIONn, word 0. -/
def Region.word0 (r : Region) : Reg :=
  flagAt 0 r.valid ||| fieldAt 1 r.exponent.toNat ||| fieldAt 7 r.attr.policy.code ||| flagAt 9 r.attr.coherent
    ||| fieldAt 10 r.attr.writers.toNat ||| flagAt 14 r.attr.atomics

/-- R194: PROBE_TIMES. -/
def ProbeUnit.times (u : ProbeUnit) : Reg := fieldAt 0 u.probeLimit.toNat ||| fieldAt 8 u.wbLimit.toNat

/-- R194: PORT_STATE. -/
def State.portStates (s : State) : Reg :=
  fieldAt 0 (s.port 0).state.code ||| fieldAt 2 (s.port 1).state.code ||| fieldAt 4 (s.port 2).state.code
    ||| fieldAt 6 (s.port 3).state.code

/-- R194: SWEEP_STATUS, word 0. -/
def Sweep.word0 (w : Sweep) : Reg :=
  flagAt 0 (w.phase != .stopped) ||| fieldAt 1 w.origin.code ||| fieldAt 8 (w.cursor.val / 4)
    ||| fieldAt 16 (w.cursor.val % 4) ||| fieldAt 24 w.pass.toNat

/-- R194: SWEEP_STATUS, word 1. -/
def Sweep.word1 (w : Sweep) : Reg := fieldAt 0 w.passedOver ||| fieldAt 16 w.remaining

/-- R194: FAULT_COUNT. -/
def EventUnit.faultCount (e : EventUnit) : Reg := fieldAt 0 e.faults.length ||| fieldAt 8 e.overflow.toNat

/-- R194: FAULTn, word 0. -/
def FaultRec.word0 (r : FaultRec) : Reg :=
  fieldAt 0 r.kind.code ||| fieldAt 4 r.issuer.code ||| flagAt 7 r.tag.isSome
    ||| fieldAt 8 (r.tag.elim 0 Fin.val) ||| fieldAt 12 r.txnKind.code

/-- R194: a line at 26:0. -/
def lineWord (l : Line) : Reg := l.setWidth 32

/-- R194: QUARn. -/
def QuarRec.word (q : QuarRec) : Reg := lineWord q.line ||| fieldAt 27 q.cause.code ||| flagAt 29 q.late

/-- FAULTn: two words; 0 at a place with no record. -/
def EventUnit.faultWord (e : EventUnit) (n : Nat) : Reg :=
  match e.faults[n / 2]? with
  | none => 0#32
  | some r => if n % 2 = 0 then r.word0 else lineWord r.line

/-- The six counters in the order of the window. -/
def Counters.word (c : Counters) (n : Nat) : Reg :=
  match n with
  | 0 => c.probes
  | 1 => c.probesDirty
  | 2 => c.recalls
  | 3 => c.declinedFills
  | 4 => c.retracts
  | _ => c.orphanEvicts

/-- REGIONn: two words. -/
def RegionMap.word (m : RegionMap) (n : Nat) : Reg :=
  match m.regions[n / 2]? with
  | none => 0#32
  | some r => if n % 2 = 0 then r.word0 else r.base

/-- SNAP0 to SNAP3. -/
def Management.snap (m : Management) (n : Nat) : Reg :=
  match n with
  | 0 => m.snap0
  | 1 => m.snap1
  | 2 => m.snap2
  | _ => m.snap3

/-! ### The window (section 11.2) -/

/-- The registers 00H to 3CH, one word each. -/
def State.readControl (s : State) (w : Nat) : Reg :=
  match w with
  | 0 => 0x47431024#32
  | 1 => fieldAt 0 s.msc.mode.code
  | 2 => 0#32
  | 3 => s.mg.arg0
  | 4 => s.mg.arg1
  | 5 => s.mg.status.word
  | 6 => s.ev.flags.setWidth 32
  | 7 => s.ev.enables.setWidth 32
  | 8 => s.rm.defaults.word
  | 9 => s.pu.times
  | 10 => s.hp.lockLimit.setWidth 32
  | 11 => fieldAt 0 s.pd.admitPolicy.code
  | 12 => s.portStates
  | 13 => s.msc.sweep.word0
  | 14 => s.msc.sweep.word1
  | _ => s.ev.faultCount

/-- The register at a word of the window: the offset divided by 4. E8H to FFH hold no register and read as 0 (R192). -/
def State.readRegister (s : State) (w : Nat) : Reg :=
  if w < 16 then s.readControl w
  else if w < 22 then s.ev.counters.word (w - 16)
  else if w < 30 then s.ev.faultWord (w - 22)
  else if w < 38 then
    match s.msc.quarantine[w - 30]? with
    | none => 0#32
    | some q => q.word
  else if w < 42 then s.mg.snap (w - 38)
  else if w < 58 then s.rm.word (w - 42)
  else 0#32

/-! ### The snapshots (R27, R52, R197) -/

/-- The four snapshot registers filled at one moment. -/
def State.fillSnap (a b c d : Reg) (s : State) : State :=
  { s with mg := { s.mg with snap0 := a, snap1 := b, snap2 := c, snap3 := d } }

/-- R27: the entry of a way, with its age: its place in its set's list. -/
def State.wayEntry (s : State) (set : SetIx) (way : Way) : Option (DirEntry × Nat) :=
  (s.pd.sets[set.val].zipIdx).find? fun p => p.1.way == way

/-- R197: SNAP0 after READ_DIR. -/
def State.dirWord (s : State) (e : DirEntry) (age : Nat) : Reg :=
  flagAt 0 true ||| fieldAt 1 e.state.code ||| fieldAt 3 e.policy.code ||| fieldAt 5 age
    ||| flagAt 7 (s.isLocked e.line)

/-- R197: SNAP3 after READ_DIR. -/
def wayWord (set : SetIx) (way : Way) : Reg := fieldAt 0 set.val ||| fieldAt 8 way.val

/-- R27, R197: a directory way copied into the snapshot registers. -/
def State.snapDir (set : SetIx) (way : Way) (s : State) : State :=
  match s.wayEntry set way with
  | none => s.fillSnap 0#32 0#32 0#32 (wayWord set way)
  | some (e, age) => s.fillSnap (s.dirWord e age) (lineWord e.line) 0#32 (wayWord set way)

/-- R52: the number of members in the wait list of a line. -/
def State.waiterCount (s : State) (l : Line) : Nat :=
  match s.lockOf l with
  | none => 0
  | some r => r.waiters.length

/-- R197: SNAP0 after READ_TT. -/
def State.txnWord (s : State) (i : EntryIx) (t : Txn) : Reg :=
  flagAt 0 true ||| fieldAt 1 t.work.kind.code ||| fieldAt 5 t.work.originCode
    ||| fieldAt 8 (t.work.tag?.elim 0 Fin.val) ||| fieldAt 12 t.phase.code ||| fieldAt 16 (probeModeCode t.probeMode)
    ||| fieldAt 18 (answerCode t.answer) ||| fieldAt 21 (resultCode t.result) ||| flagAt 24 t.abandoned
    ||| flagAt 25 (s.holds i t.line) ||| flagAt 31 true

/-- R197: SNAP2 after READ_TT. -/
def State.linkWord (s : State) (t : Txn) : Reg :=
  fieldAt 0 (t.link.elim 0 Fin.val) ||| flagAt 4 t.link.isSome ||| fieldAt 8 (s.waiterCount t.line)

/-- R52, R197: a transaction entry copied into the snapshot registers. -/
def State.snapTxn (i : EntryIx) (s : State) : State :=
  match s.txn i with
  | none => s.fillSnap (flagAt 31 true) 0#32 0#32 (fieldAt 0 i.val)
  | some t => s.fillSnap (s.txnWord i t) (lineWord t.line) (s.linkWord t) (fieldAt 0 i.val)

end Sys2Proof.Machine
end

