-- ==== Sys2Proof/Machine/Management.lean ====
section
/-! DEFINITION. The management port's two-wire transactions, its staging of bytes, and the registers software writes
(sections 11.1 and 11.2). -/

namespace Sys2Proof.Machine

/-! ### The port's own state -/

/-- The management port changed. -/
def State.modMg (f : Management → Management) (s : State) : State := { s with mg := f s.mg }

/-- R192: the 7-bit target address, 1011 0 followed by the straps. -/
def State.targetAddress (s : State) : BitVec 7 := (0b10110#5 ++ BitVec.ofBool s.pins.ma1) ++ BitVec.ofBool s.pins.ma0

/-- R192, R193: a transaction's staged bytes and captured registers go with it. -/
def Management.endTransaction (m : Management) : Management :=
  { m with bus := .ignoring, staged := Staged.empty, captures := [] }

/-- R192: the word of the register the pointer stands in. -/
def Management.word (m : Management) : BitVec 6 := m.pointer.extractLsb' 2 6

/-- R192: the offset of the pointer in its register. -/
def Management.byteIndex (m : Management) : Nat := m.pointer.toNat % 4

/-- R192: the pointer increments; "after FFH it wraps to 00H". -/
def Management.advance (m : Management) : Management := { m with pointer := m.pointer + 1#8 }

/-! ### Reading (R192) -/

/-- R192: the capture that a byte of the register at the pointer comes from: the one that the transaction made at the first
byte it read of the register, or one made now. It serves bytes read a second time after the pointer's wrap too (log 40). -/
def State.captured (s : State) : Capture :=
  match s.mg.captures.find? fun c => c.word == s.mg.word with
  | some c => c
  | none => { word := s.mg.word, value := s.readRegister s.mg.word.toNat }

/-- R192: a capture is kept to the end of its transaction. -/
def Management.keep (c : Capture) (m : Management) : Management :=
  if c ∈ m.captures then m else { m with captures := m.captures ++ [c] }

/-- R192: one byte of a read transaction: from the register's capture, little-endian, the pointer then incrementing. -/
def State.mgReadByte (s : State) : State :=
  let c := s.captured
  (s.modMg fun m => (m.keep c).advance).emit (.mgByte (c.value.extractLsb' (8 * s.mg.byteIndex) 8))

/-! ### Transactions (R192, R193, R198) -/

/-- R192, R198: START_CONDITION: the port takes part in a transaction that carries its address, and ignores every
other. A start in the middle of a transaction ends that one (log 15). The bytes of a read come as time passes (log 13). -/
def execStartCondition (address : BitVec 7) (direction : Direction) (s : State) : Result :=
  live (fun s =>
    let s1 := s.modMg Management.endTransaction
    if address = s.targetAddress then
      match direction with
      | .write => .next ((s1.modMg fun m => { m with bus := .pointerNext }).emit .mgAck)
      | .read => .next ((s1.modMg fun m => { m with bus := .reading }).emit .mgAck)
    else .next s1) s

/-- R192: MG_POINTER_WRITE. -/
def execMgPointerWrite (b : Byte) (s : State) : Result :=
  live (fun s => match s.mg.bus with
    | .ignoring => .next s
    | .pointerNext => .next ((s.modMg fun m => { m with pointer := b, bus := .writing }).emit .mgAck)
    | .writing => .refused .busNotAtByte
    | .reading => .refused .busNotAtByte) s

/-- R193: MG_TRANSACTION_END. -/
def execMgTransactionEnd (s : State) : Result := live (fun s => .next (s.modMg Management.endTransaction)) s

/-! ### Which row a data byte is (R193, R195) -/

/-- R195: the commands by name. -/
inductive Cmd where
  | writeRegion | setMode | sweep | resume | release | portDisable | portEnable | popFault | clearCounters
  | readDir | readTt | unknown
  deriving DecidableEq, Repr

/-- R195: the command a code names; a code that names none, including 00H, is `unknown`. -/
def cmdOf (code : Byte) : Cmd :=
  match code.toNat with
  | 1 => .writeRegion
  | 2 => .setMode
  | 3 => .sweep
  | 4 => .resume
  | 5 => .release
  | 6 => .portDisable
  | 7 => .portEnable
  | 8 => .popFault
  | 9 => .clearCounters
  | 10 => .readDir
  | 11 => .readTt
  | _ => .unknown

/-- What a data byte does at the pointer: it is staged, or it takes the register it completes. -/
inductive ByteRow where
  | stage | register | cmdStatus | eventFlags | eventEnable | defaultAttr | probeTimes | lockLimit | admitPolicy
  | command (c : Cmd)
  deriving DecidableEq, Repr

/-- R195: the code of the command being written, in bits 7:0; a byte not written reads as COMMAND does, 0. -/
def Management.commandCode (m : Management) : Byte := m.staged.b0.getD 0#8

/-- R193: the register is taken at its highest byte. -/
def Management.byteRow (m : Management) : ByteRow :=
  if m.byteIndex ≠ 3 then .stage
  else match m.word.toNat with
    | 2 => .command (cmdOf m.commandCode)
    | 5 => .cmdStatus
    | 6 => .eventFlags
    | 7 => .eventEnable
    | 8 => .defaultAttr
    | 9 => .probeTimes
    | 10 => .lockLimit
    | 11 => .admitPolicy
    | _ => .register

/-- R193: a byte held in the staging copy at its offset. -/
def Staged.put (n : Nat) (b : Byte) (g : Staged) : Staged :=
  match n with
  | 0 => { g with b0 := some b }
  | 1 => { g with b1 := some b }
  | 2 => { g with b2 := some b }
  | _ => g

/-- R193: the new value of a register: the staged bytes and the highest byte, and `current` for the bytes not
written. -/
def Staged.value (g : Staged) (current : Reg) (top : Byte) : Reg :=
  top ++ g.b2.getD (current.extractLsb' 16 8) ++ g.b1.getD (current.extractLsb' 8 8)
    ++ g.b0.getD (current.extractLsb' 0 8)

/-- R193: the value a register takes from the bytes written and its current value. -/
def State.newValue (s : State) (top : Byte) : Reg := s.mg.staged.value (s.readRegister s.mg.word.toNat) top

/-- R193: the value written to a write-one-to-clear register, where "a byte not written counts as 0". -/
def State.clearValue (s : State) (top : Byte) : Reg := s.mg.staged.value 0#32 top

/-- R193: a data byte of a write transaction that reaches the row the command names: the register is taken, its staged
bytes are used up, and the pointer increments. -/
def dataByte (row : ByteRow) (take : State → State) (s : State) : Result :=
  match s.mg.bus with
  | .ignoring => .next s
  | .pointerNext => .refused .busNotAtByte
  | .reading => .refused .busNotAtByte
  | .writing =>
    if s.mg.byteRow = row then
      .next (((take s).modMg fun m => { m with staged := Staged.empty }.advance).emit .mgAck)
    else .refused .otherRow

/-- R193: MG_BYTE_STAGE. -/
def execMgByteStage (b : Byte) (s : State) : Result :=
  live (fun s => match s.mg.bus with
    | .ignoring => .next s
    | .pointerNext => .refused .busNotAtByte
    | .reading => .refused .busNotAtByte
    | .writing =>
      if s.mg.byteRow = .stage then
        .next ((s.modMg fun m => { m with staged := m.staged.put m.byteIndex b }.advance).emit .mgAck)
      else .refused .otherRow) s

/-! ### The registers software writes (R193) -/

/-- R193: the argument registers are stored as written; bytes written to a read-only register, or where no register is, are
discarded. -/
def State.takeRegister (top : Byte) (s : State) : State :=
  match s.mg.word.toNat with
  | 3 => s.modMg fun m => { m with arg0 := s.newValue top }
  | 4 => s.modMg fun m => { m with arg1 := s.newValue top }
  | _ => s

/-- R195: 1 in the refused-while-busy position clears the mark. -/
def State.takeCmdStatus (top : Byte) (s : State) : State :=
  if (s.clearValue top).getLsbD 16 then s.modMg fun m => { m with status := { m.status with mark := false } } else s

/-- R184: each flag written with 1 is cleared. -/
def State.takeEventFlags (top : Byte) (s : State) : State :=
  { s with ev := { s.ev with flags := s.ev.flags &&& ~~~((s.clearValue top).setWidth 17) } }

/-- R183: every enable is replaced. -/
def State.takeEventEnable (top : Byte) (s : State) : State :=
  { s with ev := { s.ev with enables := (s.newValue top).setWidth 17 } }

/-- R194: the attributes a DEFAULT_ATTR value spells; policy 3 names none. -/
def attrOf (v : Reg) : Option Attr :=
  (policyOf (v.extractLsb' 0 2).toNat).map fun p =>
    { policy := p, coherent := v.getLsbD 2, writers := v.extractLsb' 3 4, atomics := v.getLsbD 7 }

/-- R80: the default attributes are replaced, unless the policy encoding names none. -/
def State.takeDefaultAttr (top : Byte) (s : State) : State :=
  match attrOf (s.newValue top) with
  | some a => { s with rm := { s.rm with defaults := a } }
  | none => s

/-- R75: each field of PROBE_TIMES is taken when it is not 0. -/
def takeLimit (old new : BitVec 8) : BitVec 8 := if new = 0#8 then old else new

/-- R75: PROBE_LIMIT and WB_LIMIT. -/
def State.takeProbeTimes (top : Byte) (s : State) : State :=
  { s with pu := { s.pu with
      probeLimit := takeLimit s.pu.probeLimit ((s.newValue top).extractLsb' 0 8)
      wbLimit := takeLimit s.pu.wbLimit ((s.newValue top).extractLsb' 8 8) } }

/-- R113, R193: LOCK_LIMIT is taken for values 1 to 1023. -/
def State.takeLockLimit (top : Byte) (s : State) : State :=
  let v := s.newValue top
  if v = 0#32 ∨ 1023 < v.toNat then s else { s with hp := { s.hp with lockLimit := v.setWidth 16 } }

/-- R194: the admission policy a value spells. -/
def admitPolicyOf (n : Nat) : Option AdmitPolicy :=
  match n with
  | 0 => some .displace
  | 1 => some .decline
  | _ => none

/-- R11, R193: ADMIT_POLICY is taken for values 0 and 1. -/
def State.takeAdmitPolicy (top : Byte) (s : State) : State :=
  match admitPolicyOf (s.newValue top).toNat with
  | some p => { s with pd := { s.pd with admitPolicy := p } }
  | none => s

/-- R193: REGISTER_WRITE. -/
def execRegisterWrite (b : Byte) (s : State) : Result := live (dataByte .register (State.takeRegister b)) s

/-- R193: CMD_STATUS_WRITE. -/
def execCmdStatusWrite (b : Byte) (s : State) : Result := live (dataByte .cmdStatus (State.takeCmdStatus b)) s

/-- R184: EVENT_FLAGS_WRITE. -/
def execEventFlagsWrite (b : Byte) (s : State) : Result := live (dataByte .eventFlags (State.takeEventFlags b)) s

/-- R183: EVENT_ENABLE_WRITE. -/
def execEventEnableWrite (b : Byte) (s : State) : Result := live (dataByte .eventEnable (State.takeEventEnable b)) s

/-- R80: DEFAULT_ATTR_WRITE. -/
def execDefaultAttrWrite (b : Byte) (s : State) : Result := live (dataByte .defaultAttr (State.takeDefaultAttr b)) s

/-- R75: PROBE_TIMES_WRITE. -/
def execProbeTimesWrite (b : Byte) (s : State) : Result := live (dataByte .probeTimes (State.takeProbeTimes b)) s

/-- R113: LOCK_LIMIT_WRITE. -/
def execLockLimitWrite (b : Byte) (s : State) : Result := live (dataByte .lockLimit (State.takeLockLimit b)) s

/-- R11: ADMIT_POLICY_WRITE. -/
def execAdmitPolicyWrite (b : Byte) (s : State) : Result := live (dataByte .admitPolicy (State.takeAdmitPolicy b)) s

end Sys2Proof.Machine
end

