-- ==== Sys2Proof/Machine/Commands.lean ====
section
/-! DEFINITION. The commands of the management port (section 11.3), each taken at the highest byte of COMMAND (R195). -/

namespace Sys2Proof.Machine

/-- R195: a command is taken. While CMD_STATUS reads BUSY it is refused with the mark; else the code field takes its code
and it runs at once. -/
def State.runCommand (run : State → State) (s : State) : State :=
  if s.mg.status.state = .busy then s.setMark
  else run (s.modMg fun m => { m with status := { m.status with code := m.commandCode } })

/-- R195: a command completes with DONE. -/
def State.commandDone (s : State) : State := s.setStatus .done .none

/-- A command written at COMMAND's highest byte. The bits of COMMAND above 7:0 are ignored (log 14). -/
def commandByte (c : Cmd) (run : State → State) (s : State) : Result :=
  live (dataByte (.command c) (State.runCommand run)) s

/-! ### Regions (R84 to R86) -/

/-- R195: the entry number of WRITE_REGION, 3:0 of CMD_ARG0. -/
def Management.index (m : Management) : Nat := (m.arg0.extractLsb' 0 4).toNat

/-- R195, R194: the region the arguments of WRITE_REGION spell: 18:4 of CMD_ARG0 are REGIONn word 0, bits 14:0. None when
the policy names none. -/
def Management.regionArg (m : Management) : Option Region :=
  (policyOf (m.arg0.extractLsb' 11 2).toNat).map fun p =>
    { valid := m.arg0.getLsbD 4, base := m.arg1, exponent := m.arg0.extractLsb' 5 6,
      attr := { policy := p, coherent := m.arg0.getLsbD 13, writers := m.arg0.extractLsb' 14 4,
                atomics := m.arg0.getLsbD 18 } }

/-- R85: the size exponent is 12 to 32 and the base is a multiple of 2^k. -/
def Region.wellFormed (r : Region) : Bool :=
  decide (12 ≤ r.exponent.toNat ∧ r.exponent.toNat ≤ 32 ∧ r.base.toNat % 2 ^ r.exponent.toNat = 0)

/-- R84: every field of the named entry is replaced at one moment. -/
def State.putRegion (n : Fin 8) (r : Region) (s : State) : State :=
  { s with rm := { s.rm with regions := s.rm.regions.set n.val r n.isLt } }

/-- R84 to R86: WRITE_REGION. -/
def State.cmdWriteRegion (s : State) : State :=
  if h : s.mg.index < 8 then
    if s.mg.arg0.getLsbD 4 then
      match s.mg.regionArg with
      | none => s.refuseCommand .badRegion
      | some r => if r.wellFormed then (s.putRegion ⟨s.mg.index, h⟩ r).commandDone else s.refuseCommand .badRegion
    else (s.putRegion ⟨s.mg.index, h⟩ Region.invalid).commandDone
  else s.refuseCommand .badIndex

/-- R84: WRITE_REGION. -/
def execWriteRegion (_b : Byte) (s : State) : Result := commandByte .writeRegion State.cmdWriteRegion s

/-! ### Modes and sweeps (R167, R170, R172) -/

/-- R19: the fills in the recall wait list leave it and are declined, and so is the fill of a running displacement recall,
whose link is cleared. -/
def State.declineWaiting (s : State) : State :=
  let s1 := { s with tt := { s.tt with recallWait := [] } }
  (s.tt.recallWait.foldl (fun s f => s.declineFill f) s1).declineLinked

/-- R172: a sweep starts: running, its origin, cursor set 0 way 0, pass 1, nothing passed over; CMD_STATUS reads BUSY. -/
def State.startSweep (origin : SweepOrigin) (s : State) : State :=
  let w : Sweep := { phase := .examining, origin := origin, cursor := 0, pass := 1#8, passedOver := 0,
                     remaining := s.msc.sweep.remaining, stirred := false }
  (((s.setSweep w).setStatus .busy .none).declineWaiting).settle

/-- A sweep starts when none is running; with one running CMD_STATUS reads BUSY and the command is not reached
(log 29). -/
def State.beginSweep (origin : SweepOrigin) (s : State) : State :=
  if s.sweeping then s.setMark else s.startSweep origin

/-- R195: the mode SET_MODE names, 1:0 of CMD_ARG0; other values name neither. -/
def Management.modeArg (m : Management) : Option Mode :=
  match (m.arg0.extractLsb' 0 2).toNat with
  | 0 => some .pass
  | 1 => some .coherent
  | _ => none

/-- R167, R170: the mode becomes COHERENT at once. -/
def State.becomeCoherent (s : State) : State := ((s.setMode .coherent).raise .modeChanged).commandDone

/-- R167: SET_MODE. -/
def State.cmdSetMode (s : State) : State :=
  match s.mg.modeArg, s.msc.mode with
  | none, _ => s.refuseCommand .wrongMode
  | some _, .faulted => s.refuseCommand .wrongMode
  | some .pass, .coherent => s.beginSweep .setMode
  | some .pass, .pass => s.commandDone
  | some .coherent, .pass => s.becomeCoherent
  | some .coherent, .coherent => s.commandDone
  | some .faulted, _ => s.refuseCommand .wrongMode

/-- R167: SET_MODE. -/
def execSetMode (_b : Byte) (s : State) : Result := commandByte .setMode State.cmdSetMode s

/-- R172: SWEEP. In PASS the directory is empty, and the command completes at once. -/
def State.cmdSweep (s : State) : State :=
  match s.msc.mode with
  | .coherent => s.beginSweep .sweep
  | .pass => ((s.setSweep { s.msc.sweep with remaining := 0 }).raise .sweepDone).commandDone
  | .faulted => s.refuseCommand .wrongMode

/-- R172: SWEEP. -/
def execSweep (_b : Byte) (s : State) : Result := commandByte .sweep State.cmdSweep s

/-- R170: RESUME. -/
def State.cmdResume (s : State) : State :=
  match s.msc.mode with
  | .faulted => if s.msc.quarantine.length < 8 then s.becomeCoherent else s.refuseCommand .busy
  | .pass => s.refuseCommand .wrongMode
  | .coherent => s.refuseCommand .wrongMode

/-- R170: RESUME. -/
def execResume (_b : Byte) (s : State) : Result := commandByte .resume State.cmdResume s

/-! ### Quarantine (R181) -/

/-- R181: RELEASE: the record at the index is removed and those behind it move forward. -/
def State.cmdRelease (s : State) : State :=
  if 7 < s.mg.index then s.refuseCommand .badIndex
  else if s.msc.quarantine.isEmpty then s.refuseCommand .empty
  else if s.msc.quarantine.length ≤ s.mg.index then s.refuseCommand .badIndex
  else (s.setQuarantine (s.msc.quarantine.eraseIdx s.mg.index)).commandDone

/-- R181: RELEASE. -/
def execRelease (_b : Byte) (s : State) : Result := commandByte .release State.cmdRelease s

/-! ### Requester ports (R135, R139) -/

/-- A port's state replaced. -/
def State.setPortState (p : PortIx) (st : PortState) (s : State) : State := s.modPort p fun q => { q with state := st }

/-- R135: an ENABLED port becomes DRAINING, and CMD_STATUS is BUSY until the drain ends, which may be at once (R138). -/
def State.disablePort (p : PortIx) (s : State) : State :=
  match (s.port p).state with
  | .enabled => ((s.setPortState p .draining).setStatus .busy .none).settle
  | .disabled => s.commandDone
  | .draining => s.setMark

/-- R135: PORT_DISABLE. -/
def State.cmdPortDisable (s : State) : State :=
  if h : s.mg.index < 4 then s.disablePort ⟨s.mg.index, h⟩ else s.refuseCommand .badIndex

/-- R135: PORT_DISABLE. -/
def execPortDisable (_b : Byte) (s : State) : Result := commandByte .portDisable State.cmdPortDisable s

/-- R139: a DISABLED port becomes ENABLED at once. -/
def State.enablePort (p : PortIx) (s : State) : State :=
  match (s.port p).state with
  | .disabled => (s.setPortState p .enabled).commandDone
  | .enabled => s.commandDone
  | .draining => s.setMark

/-- R139: PORT_ENABLE. -/
def State.cmdPortEnable (s : State) : State :=
  if h : s.mg.index < 4 then s.enablePort ⟨s.mg.index, h⟩ else s.refuseCommand .badIndex

/-- R139: PORT_ENABLE. -/
def execPortEnable (_b : Byte) (s : State) : Result := commandByte .portEnable State.cmdPortEnable s

/-! ### Faults and counters (R188, R191) -/

/-- R188: the oldest record leaves; with the last one gone FAULT_OVERFLOW is 0. -/
def EventUnit.pop (rest : List FaultRec) (e : EventUnit) : EventUnit :=
  { e with faults := rest, overflow := if rest.isEmpty then 0#8 else e.overflow }

/-- R188: POP_FAULT. -/
def State.cmdPopFault (s : State) : State :=
  match s.ev.faults with
  | [] => s.refuseCommand .empty
  | _ :: rest => { s with ev := s.ev.pop rest }.commandDone

/-- R188: POP_FAULT. -/
def execPopFault (_b : Byte) (s : State) : Result := commandByte .popFault State.cmdPopFault s

/-- R191: CLEAR_COUNTERS. -/
def State.cmdClearCounters (s : State) : State :=
  { s with ev := { s.ev with counters := EventUnit.afterReset.counters } }.commandDone

/-- R191: CLEAR_COUNTERS. -/
def execClearCounters (_b : Byte) (s : State) : Result := commandByte .clearCounters State.cmdClearCounters s

/-! ### Inspection (R27, R52) -/

/-- R27, R195: READ_DIR. Bits of CMD_ARG0 above 7 give a set above 255. -/
def State.cmdReadDir (s : State) : State :=
  if h : s.mg.arg0.toNat < 256 ∧ (s.mg.arg1.extractLsb' 0 4).toNat < 4 then
    (s.snapDir ⟨s.mg.arg0.toNat, h.1⟩ ⟨(s.mg.arg1.extractLsb' 0 4).toNat, h.2⟩).commandDone
  else s.refuseCommand .badIndex

/-- R27: READ_DIR. -/
def execReadDir (_b : Byte) (s : State) : Result := commandByte .readDir State.cmdReadDir s

/-- R52: READ_TT. -/
def State.cmdReadTt (s : State) : State :=
  if h : s.mg.index < 12 then (s.snapTxn ⟨s.mg.index, h⟩).commandDone else s.refuseCommand .badIndex

/-- R52: READ_TT. -/
def execReadTt (_b : Byte) (s : State) : Result := commandByte .readTt State.cmdReadTt s

/-- R195: UNKNOWN_COMMAND. -/
def execUnknownCommand (_b : Byte) (s : State) : Result :=
  commandByte .unknown (fun s => s.refuseCommand .badIndex) s

end Sys2Proof.Machine
end

