-- ==== Sys2Proof/Machine/Dispatch.lean ====
section
/-! DEFINITION. The dispatch of the commands to their meanings, one arm per constructor of Instr. -/

namespace Sys2Proof.Machine

def exec (i : Instr) (s : State) : Host.Outcome State Fault Refusal :=
  match i with
  | .resetPinAssert => Sys2Proof.Machine.execResetPinAssert s
  | .resetPinRelease ma1 ma0 start => Sys2Proof.Machine.execResetPinRelease ma1 ma0 start s
  | .hrstAssert => Sys2Proof.Machine.execHrstAssert s
  | .hrstRelease => Sys2Proof.Machine.execHrstRelease s
  | .hostRead addr mask => Sys2Proof.Machine.execHostRead addr mask s
  | .hostWrite addr mask => Sys2Proof.Machine.execHostWrite addr mask s
  | .hostFill addr => Sys2Proof.Machine.execHostFill addr s
  | .hostEvict addr => Sys2Proof.Machine.execHostEvict addr s
  | .hostProbeWb addr => Sys2Proof.Machine.execHostProbeWb addr s
  | .hostLread addr mask => Sys2Proof.Machine.execHostLread addr mask s
  | .hostLwrite addr mask endMark => Sys2Proof.Machine.execHostLwrite addr mask endMark s
  | .hostSpecial code => Sys2Proof.Machine.execHostSpecial code s
  | .hostWriteBeat beat data => Sys2Proof.Machine.execHostWriteBeat beat data s
  | .writebackBeat beat data => Sys2Proof.Machine.execWritebackBeat beat data s
  | .hostBeatTaken => Sys2Proof.Machine.execHostBeatTaken s
  | .admissionGrant => Sys2Proof.Machine.execAdmissionGrant s
  | .probeAnswerMiss => Sys2Proof.Machine.execProbeAnswerMiss s
  | .probeAnswerClean => Sys2Proof.Machine.execProbeAnswerClean s
  | .probeAnswerDirty => Sys2Proof.Machine.execProbeAnswerDirty s
  | .answerTimerExpiry => Sys2Proof.Machine.execAnswerTimerExpiry s
  | .wbTimerExpiry entry => Sys2Proof.Machine.execWbTimerExpiry entry s
  | .quietTimerExpiry => Sys2Proof.Machine.execQuietTimerExpiry s
  | .lockTimerExpiry => Sys2Proof.Machine.execLockTimerExpiry s
  | .requestOffer port request => Sys2Proof.Machine.execRequestOffer port request s
  | .responseTaken port => Sys2Proof.Machine.execResponseTaken port s
  | .memRequestAccept => Sys2Proof.Machine.execMemRequestAccept s
  | .memCompletion completion => Sys2Proof.Machine.execMemCompletion completion s
  | .mgPointerWrite byte => Sys2Proof.Machine.execMgPointerWrite byte s
  | .mgByteStage byte => Sys2Proof.Machine.execMgByteStage byte s
  | .mgTransactionEnd => Sys2Proof.Machine.execMgTransactionEnd s
  | .registerWrite byte => Sys2Proof.Machine.execRegisterWrite byte s
  | .cmdStatusWrite byte => Sys2Proof.Machine.execCmdStatusWrite byte s
  | .eventFlagsWrite byte => Sys2Proof.Machine.execEventFlagsWrite byte s
  | .eventEnableWrite byte => Sys2Proof.Machine.execEventEnableWrite byte s
  | .defaultAttrWrite byte => Sys2Proof.Machine.execDefaultAttrWrite byte s
  | .probeTimesWrite byte => Sys2Proof.Machine.execProbeTimesWrite byte s
  | .lockLimitWrite byte => Sys2Proof.Machine.execLockLimitWrite byte s
  | .admitPolicyWrite byte => Sys2Proof.Machine.execAdmitPolicyWrite byte s
  | .writeRegion byte => Sys2Proof.Machine.execWriteRegion byte s
  | .setMode byte => Sys2Proof.Machine.execSetMode byte s
  | .sweep byte => Sys2Proof.Machine.execSweep byte s
  | .resume byte => Sys2Proof.Machine.execResume byte s
  | .release byte => Sys2Proof.Machine.execRelease byte s
  | .portDisable byte => Sys2Proof.Machine.execPortDisable byte s
  | .portEnable byte => Sys2Proof.Machine.execPortEnable byte s
  | .popFault byte => Sys2Proof.Machine.execPopFault byte s
  | .clearCounters byte => Sys2Proof.Machine.execClearCounters byte s
  | .readDir byte => Sys2Proof.Machine.execReadDir byte s
  | .readTt byte => Sys2Proof.Machine.execReadTt byte s
  | .unknownCommand byte => Sys2Proof.Machine.execUnknownCommand byte s
  | .startCondition address direction => Sys2Proof.Machine.execStartCondition address direction s

end Sys2Proof.Machine
end

