-- ==== Sys2Proof/Machine/Clock.lean ====
section
/-! DEFINITION. The 1 µs tick, which counts the timers (R53, R75, R111; spec 00, section 4) and takes the expiries of those that
run out, and the bytes of a read transaction (R192), which come as time passes. The table has no row for either: they are
what a step does on an empty queue (logs 5 and 13). -/

namespace Sys2Proof.Machine

/-! ### The timers -/

/-- The timers whose expiries the table names (R72, R73, R74, R111). -/
inductive Timer where
  | answer
  | quiet
  | writeback (entry : EntryIx)
  | lock
  deriving DecidableEq, Repr

/-- Every timer of the bridge. -/
def allTimers : List Timer := [.answer, .quiet, .lock] ++ allEntries.map Timer.writeback

/-- The command that a timer's expiry is. -/
def Timer.command : Timer → Instr
  | .answer => .answerTimerExpiry
  | .quiet => .quietTimerExpiry
  | .writeback i => .wbTimerExpiry i
  | .lock => .lockTimerExpiry

/-- What a write-back timer that counts has left (R62, R71). -/
def WbTimer.left : WbTimer → Option Nat
  | .pending => none
  | .pendingCounting n => some n
  | .running n => some n
  | .stopped => none

/-- What a timer that counts has left, in µs. -/
def State.timerLeft (s : State) : Timer → Option Nat
  | .answer => match s.pu.channel with
    | .outstanding _ _ _ n => some n
    | .idle => none
    | .quiet _ => none
  | .quiet => match s.pu.channel with
    | .quiet n => some n
    | .idle => none
    | .outstanding _ _ _ _ => none
  | .writeback i => (s.txn i).bind fun t => t.wbTimer.bind WbTimer.left
  | .lock => s.hp.lockTimer

/-! ### Counting -/

/-- One µs of a channel's timer (R53). -/
def Channel.count : Channel → Channel
  | .idle => .idle
  | .outstanding i l m n => .outstanding i l m (n - 1)
  | .quiet n => .quiet (n - 1)

/-- One µs of a write-back timer (R62, R71). -/
def WbTimer.count : WbTimer → WbTimer
  | .pending => .pending
  | .pendingCounting n => .pendingCounting (n - 1)
  | .running n => .running (n - 1)
  | .stopped => .stopped

/-- One µs of every timer that counts. -/
def State.countTimers (s : State) : State :=
  { s with
    pu := { s.pu with channel := s.pu.channel.count }
    tt := { s.tt with entries := s.tt.entries.map fun o => o.map fun t =>
      { t with wbTimer := t.wbTimer.map WbTimer.count } }
    hp := { s.hp with lockTimer := s.hp.lockTimer.map fun n => n - 1 } }

/-! ### Expiries -/

/-- Spec 00, section 4: "A limit of n µs expires on the n-th tick", so a timer with 1 left runs out on this one. -/
def State.dueTimers (s : State) : List Timer := allTimers.filter fun k => s.timerLeft k == some 1

/-- R63, R179: expiries that come together are taken in any order: while more than one is left, the next one is chosen by a free
value (log 6). -/
def drawOrder {α : Type} : Nat → Nat → List α → List α
  | 0, _, _ => []
  | _ + 1, _, [] => []
  | _ + 1, _, [c] => [c]
  | n + 1, k, due =>
    match due[Config.expiryOrder k % due.length]? with
    | none => []
    | some c => c :: drawOrder n (k + 1) (due.eraseIdx (Config.expiryOrder k % due.length))

/-- A timer has run out on this tick, and its expiry is taken as its command is, what it drives outward behind what the tick
has driven so far. A timer that an earlier expiry of the tick has stopped is not at 0, and no expiry of it comes, even if it
was started again. -/
def State.expire (s : State) (k : Timer) : State :=
  if s.timerLeft k = some 0 then
    match exec k.command s with
    | .next u => { u with out := s.out ++ u.out }
    | .fault _ => s
    | .refused _ => s
  else s

/-! ### The tick -/

/-- R192: a read transaction of the management port is on the two-wire bus. -/
def State.readUnderWay (s : State) : Bool := s.mg.bus == .reading && !s.pins.resetAsserted

/-- R192: in a read transaction the controller may take the next byte on a tick; whether it does is a free value
(log 13). -/
def State.clockByte (s : State) : State :=
  if s.readUnderWay then
    { (if Config.takesByte s.freeCount then s.mgReadByte else s) with freeCount := s.freeCount + 1 }
  else s

/-- A tick but for its expiries: the timers count, and a read of the management port may go on by a byte. -/
def State.count (s : State) : State :=
  State.clockByte { s.countTimers with out := [], freeCount := s.freeCount + s.dueTimers.length }

/-- One tick: the timers count, and the expiry of each that runs out is taken. -/
def State.tick (s : State) : State :=
  (drawOrder s.dueTimers.length s.freeCount s.dueTimers).foldl State.expire s.count

end Sys2Proof.Machine
end

