-- ==== Sys2Proof/Safety.lean ====
section
/-! DEFINITION. The terms in which claims about the bridge are stated: what state a command meets, what it changes, what a bridge
after reset holds, and the properties every step keeps. -/

namespace Sys2Proof.Machine

/-! ### What a command meets -/

/-- The RESET pin is released. -/
def State.Running (s : State) : Prop := s.pins.resetAsserted = false

/-- R94, R95: the host port can take a cycle. -/
structure State.BusFree (s : State) : Prop where
  running : s.Running
  hrst : s.pins.hrstAsserted = false
  cycle : s.hp.cycle = none

/-- Nothing waits for an event's end: entry 11 is in use, or no sweep runs and no fill waits for it (R48); the probe channel is
not free to take the queue's head (R58); no port drains (R137); no sweep waits for an event or keeps one for the end of its
pass (R175). -/
structure State.Quiet (s : State) : Prop where
  entry11 : (s.txn recallEntry).isSome ∨ (s.msc.sweep.phase = .stopped ∧ s.tt.recallWait = [])
  channel : s.pu.channel ≠ .idle ∨ s.msc.mode = .faulted ∨ s.pu.queue = []
  ports : ∀ p, (s.port p).state ≠ .draining
  sweep : s.msc.sweep.phase = .stopped ∨ (s.msc.sweep.phase ≠ .waiting ∧ s.msc.sweep.passedOver = 0)

/-- R45: entry `i` is the lowest-numbered free general entry. -/
structure State.LowestFree (s : State) (i : EntryIx) : Prop where
  general : i ≠ recallEntry
  free : s.txn i = none
  below : ∀ j : EntryIx, j.val < i.val → (s.txn j).isSome = true

/-- R45, R96: the cycle on the bus is `c`, and it claims a general entry. -/
structure State.Claims (s : State) (c : Cycle) : Prop where
  cycle : s.hp.cycle = some c
  standing : c.standing = .claiming

/-- R45, R46: no cycle claims an entry, and port `p` is the first that can, offered in turn from the one after the port granted
last, with `r` at the head of its queue. -/
structure State.PortClaims (s : State) (p : PortIx) (r : Accepted) (rest : List Accepted) : Prop where
  bus : ∀ c, s.hp.cycle = some c → c.standing ≠ .claiming
  enabled : (s.port p).state = .enabled
  head : (s.port p).ingress = r :: rest
  before : ∀ q : PortIx, (q - s.tt.roundRobin - 1).val < (p - s.tt.roundRobin - 1).val →
    (s.port q).state ≠ .enabled ∨ (s.port q).ingress = []

/-- The cycle on the bus is `c`, carried by entry `i` with record `t` (R96, SERVED). -/
structure State.Carries (s : State) (c : Cycle) (i : EntryIx) (t : Txn) : Prop where
  cycle : s.hp.cycle = some c
  standing : c.standing = .served i
  txn : s.txn i = some t

/-- The cycle on the bus is `c`, attached as write-back data to entry `i` with record `t` (R42, ATTACHED). -/
structure State.Feeds (s : State) (c : Cycle) (i : EntryIx) (t : Txn) : Prop where
  cycle : s.hp.cycle = some c
  standing : c.standing = .attached i
  txn : s.txn i = some t

/-- R53: the probe outstanding is that of entry `i`, in PROBING with record `t` and no write-back data, and no other waits for
the channel. -/
structure State.Probes (s : State) (i : EntryIx) (t : Txn) : Prop where
  channel : ∃ l m n, s.pu.channel = .outstanding i l m n
  queue : s.pu.queue = []
  txn : s.txn i = some t
  phase : t.phase = .probing
  data : t.wbData = false

/-- R42: entry `i` with record `t` holds the line's lock, stands in a probe phase, and has not yet taken write-back data. -/
structure State.Awaits (s : State) (l : Line) (i : EntryIx) (t : Txn) : Prop where
  lock : ∃ r, s.lockOf l = some r ∧ r.holder = .txn i
  txn : s.txn i = some t
  phase : t.phase = .probeQueued ∨ t.phase = .probing ∨ t.phase = .wbWait
  data : t.wbData = false

/-- R37: a transaction holds a line's lock and nothing waits for it. -/
def State.HoldsAlone (s : State) (i : EntryIx) (l : Line) : Prop :=
  s.lockOf l = some { line := l, holder := .txn i, waiters := [] }

/-- R42: an EVICT or PROBE_WB. -/
def Cycle.WritesBack (c : Cycle) : Prop := c.kind = .evict ∨ c.kind = .probeWb

/-- R42: no EVICT or PROBE_WB of the line waits to attach to a holder that enters PROBE_QUEUED: the bus carries none that
claims an entry, and none whose transaction is in LOCK_WAIT. -/
def State.NoneAttaches (s : State) (l : Line) : Prop :=
  ∀ c, s.hp.cycle = some c → c.line = l → c.WritesBack → c.standing ≠ .claiming ∧
    ∀ i t, c.standing = .served i → s.txn i = some t → t.phase = .lockWait → t.work.kind ≠ .hEvict

/-- No cycle on the bus is write-back data of the entry. -/
def State.NotAttached (s : State) (i : EntryIx) : Prop := ∀ c, s.hp.cycle = some c → c.standing ≠ .attached i

/-- R193: a write transaction has reached the byte that a row names. -/
structure State.AtByte (s : State) (row : ByteRow) : Prop where
  running : s.Running
  bus : s.mg.bus = .writing
  row : s.mg.byteRow = row

/-- R195: the byte that takes the command is reached, and CMD_STATUS does not read BUSY. -/
structure State.AtCommand (s : State) (c : Cmd) : Prop where
  byte : s.AtByte (.command c)
  idle : s.mg.status.state ≠ .busy

/-! ### Ways and codes -/

/-- R173: what the sweep finds at a position of its order, set × 4 + way. -/
def State.atWay (s : State) (n : Fin 1024) : Option DirEntry :=
  (s.pd.sets[n.val / 4]).find? fun e => e.way.val == n.val % 4

/-- R173: the sweep moves on over a way that is free, or that holds the entry of a quarantined line. -/
def State.MovesOver (s : State) (n : Fin 1024) : Prop := ∀ e, s.atWay n = some e → s.isQuarantined e.line = true

/-- R12, R173: an entry that may be recalled: HELD, its line neither locked nor quarantined. -/
def State.Recallable (s : State) (e : DirEntry) : Prop :=
  e.state = .held ∧ s.isLocked e.line = false ∧ s.isQuarantined e.line = false

/-- R92: the result of the checks of a lookup, taken in their order; OK when none fails. -/
def State.checksResult (s : State) (k : TxnKind) (p : PortIx) (l : Line) : ResultCode :=
  let a := s.rm.resolve l
  if s.isQuarantined l then .quarantined
  else if k ≠ .rRead ∧ a.writers.getLsbD p.val = false then .accessDenied
  else if k = .rAtomic ∧ a.atomics = false then .atomicRefused
  else if s.msc.mode = .faulted ∧ a.coherent = true then .bridgeFaulted
  else .ok

/-- R55, R91: the lookup of a requester transaction needs no probe. -/
def State.NeedsNoProbe (s : State) (k : TxnKind) (l : Line) : Prop :=
  (s.rm.resolve l).coherent = false ∨ s.msc.mode ≠ .coherent ∨ s.isHeld l = false ∨
    (k = .rRead ∧ ∃ e, s.findEntry l = some e ∧ e.policy = .wt)

/-- R55, R91: the lookup of a requester transaction needs a probe with this mode. -/
def State.NeedsProbe (s : State) (k : TxnKind) (l : Line) (m : ProbeMode) : Prop :=
  s.msc.mode = .coherent ∧ (s.rm.resolve l).coherent = true ∧
    ∃ e, s.findEntry l = some e ∧ e.state = .held ∧
      ((k ≠ .rRead ∧ m = .invalidate) ∨ (k = .rRead ∧ e.policy = .wb ∧ m = .keep))

/-- R8 to R12, R82: the lookup of a FILL that starts no recall: the set it leaves, and how many fills it counts as declined.
With no sweep running, a cacheable policy in COHERENT mode and the line not quarantined, it re-reserves the line's entry at
age 0, or makes one in the lowest free way, or is declined in a full set under DECLINE or with no victim; in every other case
it is declined. -/
def State.FillDecides (s : State) (l : Line) (es : List DirEntry) (declined : BitVec 32) : Prop :=
  (∃ p, s.msc.sweep.phase = .stopped ∧ s.msc.mode = .coherent ∧ s.isQuarantined l = false ∧
      (s.rm.resolve l).policy.entryPolicy = some p ∧
      ((∃ e, s.findEntry l = some e ∧ declined = 0#32 ∧
          es = { e with state := .reserved, policy := p } :: (s.dirSet l).filter fun e' => e'.line != l) ∨
       (∃ w, s.findEntry l = none ∧ declined = 0#32 ∧
          (∀ e ∈ s.dirSet l, e.way ≠ w) ∧ (∀ v : Way, v < w → ∃ e ∈ s.dirSet l, e.way = v) ∧
          es = { way := w, line := l, state := .reserved, policy := p } :: s.dirSet l) ∨
       (s.findEntry l = none ∧ (∀ w : Way, ∃ e ∈ s.dirSet l, e.way = w) ∧
          (s.pd.admitPolicy = .decline ∨ ∀ e ∈ s.dirSet l, ¬ s.Recallable e) ∧
          declined = 1#32 ∧ es = s.dirSet l))) ∨
  ((s.msc.mode ≠ .coherent ∨ s.msc.sweep.phase ≠ .stopped ∨ s.isQuarantined l = true ∨
        (s.rm.resolve l).policy = .uncached) ∧
      declined = 1#32 ∧ es = s.dirSet l)

/-- R194: "1 H_READ, 2 H_WRITE, 3 H_FILL, 4 H_EVICT, 5 H_LREAD, 6 H_LWRITE, 7 R_READ, 8 R_WRITE, 9 R_ATOMIC, 10 RECALL". -/
def kindCodes : List (TxnKind × Nat) :=
  [(.hRead, 1), (.hWrite, 2), (.hFill, 3), (.hEvict, 4), (.hLread, 5), (.hLwrite, 6), (.rRead, 7), (.rWrite, 8),
   (.rAtomic, 9), (.recall, 10)]

/-- R194: "1 LOCK_WAIT, 2 DATA_IN, 3 WAY_WAIT, 4 PROBE_QUEUED, 5 PROBING, 6 WB_WAIT, 7 MEM_WAIT, 8 MEM_BUSY, 9 DATA_OUT". -/
def phaseCodes : List (Phase × Nat) :=
  [(.lockWait, 1), (.dataIn, 2), (.wayWait, 3), (.probeQueued, 4), (.probing, 5), (.wbWait, 6), (.memWait, 7),
   (.memBusy, 8), (.dataOut, 9)]

/-- R194: "1–10 the error flags in event-table order, 11 WRITEBACK_LOST". -/
def faultCodes : List (FaultKind × Nat) :=
  [(.memReadErr, 1), (.memWriteErr, 2), (.probeTimeout, 3), (.quarantineFull, 4), (.accessDenied, 5),
   (.atomicRefused, 6), (.tagInUse, 7), (.malformed, 8), (.lockTimeout, 9), (.lockOverrun, 10), (.writebackLost, 11)]

/-- R194: the origin, "1 HP, 2–5 RP0–RP3, 6 INTERNAL". -/
def issuerCodes : List (Issuer × Nat) := [(.hp, 1), (.rp 0, 2), (.rp 1, 3), (.rp 2, 4), (.rp 3, 5), (.internal, 6)]

/-- R194: the refusal reason, "0 none, 1 WRONG_MODE, 2 BAD_REGION, 3 BAD_INDEX, 4 EMPTY, 5 BUSY". -/
def reasonCodes : List (Reason × Nat) :=
  [(.none, 0), (.wrongMode, 1), (.badRegion, 2), (.badIndex, 3), (.empty, 4), (.busy, 5)]

/-- R194: the policy, "0 UNCACHED, 1 WT, 2 WB". -/
def policyCodes : List (Policy × Nat) := [(.uncached, 0), (.wt, 1), (.wb, 2)]

/-! ### What a command changes -/

/-- One entry of the transaction table is as named, the others as before. -/
def State.TxnBecomes (s t : State) (i : EntryIx) (x : Option Txn) : Prop :=
  t.txn i = x ∧ ∀ j, j ≠ i → t.txn j = s.txn j

/-- R36, R38: entry `i` has gone and the line's lock has come to entry `j`, which is as named; the others are as before. -/
def State.TxnPasses (s t : State) (i j : EntryIx) (y : Option Txn) : Prop :=
  t.txn i = none ∧ t.txn j = y ∧ ∀ k, k ≠ i → k ≠ j → t.txn k = s.txn k

/-- R62: a PENDING write-back timer starts from the limit. -/
def Txn.timerStarted (limit : Nat) (t : Txn) : Txn :=
  { t with wbTimer := if t.wbTimer = some .pending then some (.running limit) else t.wbTimer }

/-- R62, R95: the bus has come to carry no cycle: one entry is as named, and in the others every PENDING write-back timer has
started. -/
def State.TxnBecomesBusEmpty (s t : State) (i : EntryIx) (x : Option Txn) : Prop :=
  t.txn i = x ∧ ∀ j, j ≠ i → t.txn j = (s.txn j).map (Txn.timerStarted s.pu.wbLimit.toNat)

/-- R30, R97, R100: the bytes of a beat under its mask are in the buffer, and their positions in the buffer's mask. -/
structure Txn.TookBeat (x y : Txn) (b : Beat) (m : BeatMask) (d : BeatData) : Prop where
  bytes : ∀ k : Fin 32, y.buf[k.val] =
    if k.val / 8 = b.val ∧ m.getLsbD (k.val % 8) = true then d[k.val % 8] else x.buf[k.val]
  positions : ∀ k : Fin 32, y.mask.getLsbD k.val =
    (x.mask.getLsbD k.val || (decide (k.val / 8 = b.val) && m.getLsbD (k.val % 8)))

/-- R64, R103: a line buffer with one beat at its own position. -/
def BeatPlaced (b : Beat) (d : BeatData) (old new : LineData) : Prop :=
  ∀ k : Fin 32, new[k.val] = if k.val / 8 = b.val then d[k.val % 8] else old[k.val]

/-- R64, R68: the beats are in a line buffer, each at its own position, and the other bytes are as they were. -/
def BeatsPlaced (bs : List (Beat × BeatData)) (old new : LineData) : Prop :=
  (∀ p ∈ bs, beatAt new p.1 = p.2) ∧ ∀ k : Fin 32, (∀ p ∈ bs, k.val / 8 ≠ p.1.val) → new[k.val] = old[k.val]

/-- R33, R68, R103: command `k` completes the four beats of the eviction of entry `i`, which are `raw`, and its cycle is then
`c`: the fourth is taken in DATA_IN, or a cycle that was handed back with all four is admitted. -/
def State.EvictionCompletes (s : State) (k : Instr) (c : Cycle) (i : EntryIx) (l : Line) (w : Work) (raw : LineData) : Prop :=
  (∃ c' x start b d, k = .hostWriteBeat b d ∧ s.Carries c' i x ∧ x.work = .hEvict start ∧ x.phase = .dataIn ∧ x.line = l ∧
    b ∉ c'.taken ∧ c'.taken.length = 3 ∧ BeatPlaced b d x.buf raw ∧ c = { c' with taken := c'.taken ++ [b] } ∧ w = x.work) ∨
  (∃ c', k = .admissionGrant ∧ s.Claims c' ∧ s.LowestFree i ∧ c'.WritesBack ∧ c'.line = l ∧ c'.taken.length = 4 ∧
    (∀ b : Beat, b ∈ c'.held.map Prod.fst) ∧ BeatsPlaced c'.held raw raw ∧
    c = { c' with standing := .served i, held := [] } ∧ w = .hEvict c'.beat)

/-- R64, R65, R145: the write-back data has been taken, the raw bytes given: the timer goes, an R_WRITE overlays its bytes, an
R_ATOMIC runs its operation, and the transaction is in MEM_WAIT with every mask position set. -/
structure Txn.TookData (x y : Txn) (raw : LineData) : Prop where
  record : y = { x with
    phase := .memWait, buf := y.buf, mask := BitVec.allOnes 32, wbData := true, wbTimer := none, oldValue := y.oldValue,
    outcome := y.outcome }
  plain : x.work.kind = .rRead ∨ x.work.kind = .recall →
    y.buf = raw ∧ y.oldValue = x.oldValue ∧ y.outcome = x.outcome
  write : ∀ p g m w, x.work = .rWrite p g m w → y.oldValue = x.oldValue ∧ y.outcome = x.outcome ∧
    ∀ k : Fin 32, y.buf[k.val] = if m.getLsbD k.val then w[k.val] else raw[k.val]
  atomic : ∀ p g f op, x.work = .rAtomic p g f op → y.buf = (runAtomic op f raw).buf ∧
    y.oldValue = some (runAtomic op f raw).old ∧ y.outcome = some (runAtomic op f raw).outcome

/-- R30, R129: a transaction without write-back data has entered MEM_WAIT. An R_WRITE then holds its request's bytes under its
mask, with exactly those mask positions set; every other kind's buffer and mask are as they were. -/
structure Txn.EnteredMemWait (x y : Txn) : Prop where
  record : y = { x with phase := .memWait, buf := y.buf, mask := y.mask }
  write : ∀ p g m d, x.work = .rWrite p g m d → y.mask = m ∧
    ∀ k : Fin 32, y.buf[k.val] = if m.getLsbD k.val then d[k.val] else x.buf[k.val]
  other : x.work.kind ≠ .rWrite → y.buf = x.buf ∧ y.mask = x.mask

/-- R18: a for-fill link that names an entry is cleared. -/
def Txn.unlinked (f : EntryIx) (t : Txn) : Txn := { t with link := if t.link = some f then none else t.link }

/-- R50: the members of a wait list that stay as the host's work leaves it. -/
def State.withoutHost (s : State) (is : List EntryIx) : List EntryIx :=
  is.filter fun i => !(s.txn i).any fun t => t.work.isHost

/-- R50, R108: entry `i` with record `t`, in MEM_BUSY, is the one locked transaction at work on its line there. -/
structure State.LockedAtMemory (s : State) (i : EntryIx) (t : Txn) : Prop where
  txn : s.txn i = some t
  locked : t.work.isLocked = true
  phase : t.phase = .memBusy
  sole : ∀ j y, j ≠ i → s.txn j = some y → y.work.isLocked = true → y.phase = .memBusy → y.line ≠ t.line

/-- One line's lock record is as named, the others as before. -/
def State.LockBecomes (s t : State) (l : Line) (r : Option LockRec) : Prop :=
  t.lockOf l = r ∧ ∀ m, m ≠ l → t.lockOf m = s.lockOf m

/-- One port is as named, the others as before. -/
def State.PortBecomes (s t : State) (p : PortIx) (q : Port) : Prop :=
  t.port p = q ∧ ∀ p', p' ≠ p → t.port p' = s.port p'

/-- One set of the directory is as named, the others as before. -/
def State.SetBecomes (s t : State) (k : SetIx) (es : List DirEntry) : Prop :=
  t.pd.admitPolicy = s.pd.admitPolicy ∧ t.pd.sets[k.val] = es ∧
    ∀ k' : SetIx, k' ≠ k → t.pd.sets[k'.val] = s.pd.sets[k'.val]

/-- R24, R77: what the lookup of an eviction does outside the transaction table: the line's entry is removed; a quarantined
line's record is marked late, with LATE_WRITEBACK; without an entry the eviction is counted as an orphan. -/
structure State.EvictionLooksUp (s t : State) (l : Line) : Prop where
  directory : s.SetBecomes t (setOf l) ((s.dirSet l).filter fun e => e.line != l)
  late : s.isQuarantined l = true →
    t.msc = { s.msc with quarantine := s.msc.quarantine.map fun q => if q.line = l then { q with late := true } else q } ∧
    t.ev = { s.ev with flags := s.ev.flags ||| 0x10000#17 }
  known : s.isQuarantined l = false → t.msc = s.msc ∧ (s.hasEntry l = true → t.ev = s.ev) ∧
    (s.hasEntry l = false → t.ev = { s.ev with
      counters := { s.ev.counters with orphanEvicts := s.ev.counters.orphanEvicts + 1#32 } })

/-- R182, R186, R187: one error event has been raised: its flag is set, and its record joined the list or was counted. -/
def EventUnit.Reported (r : FaultRec) (e e' : EventUnit) : Prop :=
  e'.flags = e.flags ||| (1#17 <<< r.kind.event.bit) ∧ e'.enables = e.enables ∧ e'.counters = e.counters ∧
    (e.faults.length < 4 → e'.faults = e.faults ++ [r] ∧ e'.overflow = e.overflow) ∧
    (4 ≤ e.faults.length → e'.faults = e.faults ∧ e'.overflow.toNat = min 255 (e.overflow.toNat + 1))

/-- R171, R176, R177: the sweep state as a running sweep ends, with the number of entries left; one not running is as before.
-/
def Sweep.ended (w : Sweep) (n : Nat) : Sweep :=
  if w.phase = .stopped then w
  else { w with phase := .stopped, cursor := 0, passedOver := 0, remaining := n, stirred := false }

/-- R195: CMD_STATUS as a long operation ends: BUSY becomes DONE. -/
def Management.operationEnded (m : Management) : Management :=
  if m.status.state = .busy then { m with status := { m.status with state := .done, reason := .none } } else m

/-- R13, R57, R58: the new RECALL of entry 11 is counted and asks for its INVALIDATE probe of the line: on an idle channel the
probe goes out, between the other outputs named, and elsewhere the RECALL waits at the tail of the probe queue. -/
def State.RecallAsksProbe (s t : State) (l : Line) (phase : Phase) (before after : List Output) : Prop :=
  (s.pu.channel = .idle → phase = .probing ∧ t.out = before ++ .probe l .invalidate :: after ∧
    t.pu = { s.pu with channel := .outstanding recallEntry l .invalidate s.pu.probeLimit.toNat } ∧
    t.ev = { s.ev with counters := { s.ev.counters with
      recalls := s.ev.counters.recalls + 1#32, probes := s.ev.counters.probes + 1#32 } }) ∧
  (s.pu.channel ≠ .idle → phase = .probeQueued ∧ t.out = before ++ after ∧
    t.pu = { s.pu with queue := joinTail s.pu.queue recallEntry } ∧
    t.ev = { s.ev with counters := { s.ev.counters with recalls := s.ev.counters.recalls + 1#32 } })

/-- R59 to R61, R65, R72, R174: command `c` ends the sweep's RECALL `x`, whose line nothing waits for, and `u` is the bridge
as its end leaves it, before the sweep goes on. It is answered MISS or CLEAN; or its LINE_WRITE completes, its cycle on the
bus or dropped; or its probe, or its write-back, times out; or, its entry gone, its probe is skipped as the channel comes to
be IDLE. -/
def State.SweepRecallEnds (s u : State) (c : Instr) (x : Txn) : Prop :=
  u.tt = { s.tt with entries := u.tt.entries, locks := u.tt.locks } ∧ s.LockBecomes u x.line none ∧
  s.txn recallEntry = some x ∧
  ((c ∈ [.probeAnswerMiss, .probeAnswerClean] ∧ s.Probes recallEntry x ∧ x.probeMode = some .invalidate ∧
      s.NotAttached recallEntry ∧ s.TxnBecomes u recallEntry none ∧
      u = { s with pd := u.pd, tt := u.tt, pu := { s.pu with channel := .idle }, out := [] } ∧
      s.SetBecomes u (setOf x.line) ((s.dirSet x.line).filter fun e => e.line != x.line)) ∨
    (∃ k q rest fed, c = .memCompletion k ∧ s.mp.outstanding = q :: rest ∧ q.txn = recallEntry ∧ q.kind = .lineWrite ∧
      (if fed = true then ∃ b, s.Feeds b recallEntry x else s.NotAttached recallEntry) ∧
      (if fed then s.TxnBecomesBusEmpty u recallEntry none else s.TxnBecomes u recallEntry none) ∧
      u = { s with
        tt := u.tt
        hp := { s.hp with cycle := if fed then none else s.hp.cycle }
        mp := { s.mp with outstanding := rest }
        ev := u.ev
        out := if fed then [.finalAck false] else [] } ∧
      (k ≠ .error → u.ev = s.ev) ∧
      (k = .error → s.ev.Reported
        { kind := .memWriteErr, issuer := .internal, line := x.line, txnKind := .recall, tag := none } u.ev)) ∨
    (∃ cause channel, s.NotAttached recallEntry ∧ s.isQuarantined x.line = false ∧ s.msc.quarantine.length < 8 ∧
      ((∃ l m n, s.pu.channel = .outstanding recallEntry l m n ∧ c = .answerTimerExpiry ∧ cause = QuarCause.answerTimeout ∧
          channel = .quiet s.pu.probeLimit.toNat) ∨
        ((∃ n, x.wbTimer = some (.running n) ∨ x.wbTimer = some (.pendingCounting n)) ∧ c = .wbTimerExpiry recallEntry ∧
          cause = .writebackTimeout ∧ channel = s.pu.channel)) ∧
      s.TxnBecomes u recallEntry none ∧
      u = { s with
        tt := u.tt
        pu := { s.pu with channel := channel }
        msc := { s.msc with
          quarantine := s.msc.quarantine ++ [{ line := x.line, cause := cause, late := false }] }
        ev := u.ev
        out := [] } ∧
      s.ev.Reported
        { kind := .probeTimeout, issuer := .internal, line := x.line, txnKind := .recall, tag := none } u.ev) ∨
    (∃ n, c = .quietTimerExpiry ∧ s.pu.channel = .quiet n ∧ s.pu.queue = [recallEntry] ∧ s.isHeld x.line = false ∧
      s.TxnBecomes u recallEntry none ∧
      u = { s with tt := u.tt, pu := { s.pu with queue := [], channel := .idle }, out := [] }))

/-- R97: the cycle on the bus does not await the beat: it is CLAIMING, has had the beat, or is ATTACHED and has had four; or it
is SERVED by no transaction in DATA_IN, or by none that takes this beat: a WRITE or LWRITE takes the one it addresses, an
eviction any. -/
def State.AwaitsNot (s : State) (c : Cycle) (b : Beat) : Prop :=
  c.standing = .claiming ∨ b ∈ c.taken ∨ (∃ i, c.standing = .attached i ∧ 4 ≤ c.taken.length) ∨
    ∃ i, c.standing = .served i ∧ ∀ x, s.txn i = some x → x.phase ≠ .dataIn ∨
      ((∀ m, x.work ≠ .hWrite b m) ∧ (∀ m e, x.work ≠ .hLwrite b m e) ∧ x.work.kind ≠ .hEvict)

/-- R63, R179: the expiries of these timers are taken one after another, each as its command, with what it drives outward
behind what was driven before. A timer that is not at 0 as its turn comes, stopped by an earlier expiry, takes none. -/
def State.TakesExpiries : State → List Timer → State → Prop
  | s, [], t => t = s
  | s, k :: ks, t => ∃ u, State.TakesExpiries u ks t ∧
      (s.timerLeft k = some 0 → ∃ v, exec k.command s = .next v ∧ u = { v with out := s.out ++ v.out }) ∧
      (s.timerLeft k ≠ some 0 → u = s)

/-- R2: the number of entries in the directory. -/
def State.entryCount (s : State) : Nat := (s.pd.sets.toList.map List.length).sum

/-- R133: the responses with one result and no data, for those of the entries whose transaction is the port's, in their order.
-/
def State.answersOf (s : State) (p : PortIx) (result : ResultCode) (is : List EntryIx) : List Response :=
  is.filterMap fun i => (s.txn i).bind fun t =>
    if t.work.port? = some p then t.work.tag?.map fun g => { tag := g, result := result, data := .none } else none

/-- R193: the management port after a byte that took a register: nothing staged, the pointer moved on. -/
def Management.afterByte (m : Management) : Management :=
  { m with pointer := m.pointer + 1#8, staged := { b0 := none, b1 := none, b2 := none } }

/-- R195: the management port after a command with this code, state and reason. -/
def Management.afterCommand (m : Management) (code : Byte) (state : CmdState) (reason : Reason) : Management :=
  { m.afterByte with status := { state := state, reason := reason, code := code, mark := m.status.mark } }

/-- The cycle a processor presents, its address just taken (R94). -/
def claimingCycle (kind : CycleKind) (addr : Addr) (beat : Beat) (mask : BeatMask) (endMark : Bool) : Cycle :=
  { kind := kind, addr := addr, line := lineOf addr, beat := beat, mask := mask, endMark := endMark,
    standing := .claiming, given := 0, taken := [], held := [] }

/-! ### What a reset leaves (R198 and the rules it gathers) -/

/-- No work, table record, event or staged byte is left anywhere in the bridge. -/
structure State.Emptied (t : State) : Prop where
  directory : ∀ k : SetIx, t.pd.sets[k.val] = []
  entries : ∀ i, t.txn i = none
  locks : t.tt.locks = []
  recallWait : t.tt.recallWait = []
  probeQueue : t.pu.queue = []
  channel : t.pu.channel = .idle
  cycle : t.hp.cycle = none
  lockSet : t.hp.lockSet = []
  lockTimer : t.hp.lockTimer = none
  broken : t.hp.broken = false
  lastLocked : t.hp.lastLocked = none
  ports : ∀ p, t.port p =
    { state := .enabled, tags := Vector.replicate 16 false, ingress := [], responses := [] }
  memory : t.mp = { outstanding := [], waiting := [] }
  sweep : t.msc.sweep =
    { phase := .stopped, origin := .none, cursor := 0, pass := 0#8, passedOver := 0, remaining := 0,
      stirred := false }
  quarantine : t.msc.quarantine = []
  flags : t.ev.flags = 0#17
  enables : t.ev.enables = 0#17
  faults : t.ev.faults = []
  overflow : t.ev.overflow = 0#8
  counters : t.ev.counters =
    { probes := 0#32, probesDirty := 0#32, recalls := 0#32, declinedFills := 0#32, retracts := 0#32,
      orphanEvicts := 0#32 }
  bus : t.mg.bus = .ignoring
  staged : t.mg.staged = { b0 := none, b1 := none, b2 := none }
  captures : t.mg.captures = []
  alert : t.alert = false

/-- The values software and the straps find after the release of the RESET pin (R11, R46, R75, R79, R80, R94, R165, R198). -/
structure State.StartValues (t : State) (start : Bool) : Prop where
  admitPolicy : t.pd.admitPolicy = .displace
  roundRobin : t.tt.roundRobin = 3
  probeLimit : t.pu.probeLimit = 16#8
  wbLimit : t.pu.wbLimit = 32#8
  lockLimit : t.hp.lockLimit = 128#16
  regions : ∀ n : Fin 8, (t.rm.regions[n.val]).valid = false ∧ (t.rm.regions[n.val]).word0 = 0#32 ∧
    (t.rm.regions[n.val]).base = 0#32
  defaults : t.rm.defaults =
    { policy := if start then .wb else .uncached, coherent := true, writers := 15#4, atomics := false }
  mode : t.msc.mode = if start then .coherent else .pass
  pointer : t.mg.pointer = 0#8
  args : t.mg.arg0 = 0#32 ∧ t.mg.arg1 = 0#32
  status : t.mg.status = { state := .done, reason := .none, code := 0#8, mark := false }
  snapshot : t.mg.snap0 = 0#32 ∧ t.mg.snap1 = 0#32 ∧ t.mg.snap2 = 0#32 ∧ t.mg.snap3 = 0#32

/-! ### Properties every step keeps -/

/-- R1, R3: a set holds at most 4 entries, in distinct ways, of distinct lines, each a line of the set. -/
def State.DirectoryKept (s : State) : Prop :=
  ∀ k : SetIx, (s.pd.sets[k.val]).length ≤ 4 ∧ ((s.pd.sets[k.val]).map DirEntry.way).Nodup ∧
    ((s.pd.sets[k.val]).map DirEntry.line).Nodup ∧ ∀ e ∈ s.pd.sets[k.val], setOf e.line = k

/-- R14, R37, R38, R57, R107, R125, R153, R178, R187: the bounds of the bridge's collections. -/
structure State.WithinCapacity (s : State) : Prop where
  quarantine : s.msc.quarantine.length ≤ 8 ∧ (s.msc.quarantine.map QuarRec.line).Nodup
  faults : s.ev.faults.length ≤ 4
  outstanding : s.mp.outstanding.length ≤ 8
  lockSet : s.hp.lockSet.length ≤ 2 ∧ s.hp.lockSet.Nodup
  ingress : ∀ p, (s.port p).ingress.length ≤ 8
  locks : (s.tt.locks.map LockRec.line).Nodup
  waiters : ∀ r ∈ s.tt.locks, r.waiters.length ≤ 11 ∧ r.waiters.Nodup ∧ recallEntry ∉ r.waiters
  recallWait : s.tt.recallWait.length ≤ 11 ∧ s.tt.recallWait.Nodup ∧ recallEntry ∉ s.tt.recallWait
  probeQueue : s.pu.queue.length ≤ 12 ∧ s.pu.queue.Nodup
  waiting : s.mp.waiting.length ≤ 12 ∧ s.mp.waiting.Nodup

/-- The tags of a port's transactions in the table. -/
def State.tableTags (s : State) (p : PortIx) : List Tag :=
  allEntries.filterMap fun i => (s.txn i).bind fun t => if t.work.port? = some p then t.work.tag? else none

/-- R119, R121, R125, R133: each tag of a port stands at most once in its ingress queue, the transaction table and its response
queue, and the tag set holds exactly those that do. -/
def State.TagsAccounted (s : State) : Prop :=
  ∀ p, let held := (s.port p).ingress.map Accepted.tag ++ s.tableTags p ++ (s.port p).responses.map Response.tag
    held.Nodup ∧ ∀ g : Tag, (s.port p).tags[g.val] = true ↔ g ∈ held

/-- R28: entry 11 holds only a RECALL, and no general entry holds one. -/
def State.KindsInPlace (s : State) : Prop :=
  ∀ i t, s.txn i = some t → (t.work.kind = .recall ↔ i = recallEntry)

/-- R75, R113: the limits software writes stay in their ranges. -/
structure State.LimitsInRange (s : State) : Prop where
  probe : 1 ≤ s.pu.probeLimit.toNat
  writeback : 1 ≤ s.pu.wbLimit.toNat
  lock : 1 ≤ s.hp.lockLimit.toNat ∧ s.hp.lockLimit.toNat ≤ 1023

/-- R166: while the mode is PASS the presence directory holds no entry. -/
def State.PassIsEmpty (s : State) : Prop := s.msc.mode = .pass → ∀ k : SetIx, s.pd.sets[k.val] = []

end Sys2Proof.Machine
end

