-- ==== Sys2Proof/Certificates/Slice0/Obligations.lean ====
section
/-! DEFINITION. The statements about the bridge, one `def Obligations.<Name> : Prop` each. A statement that rests on a choice of
the model says so and names its log entry. -/

open Sys2Proof Sys2Proof.Machine

/-! ### Steps -/

/-- A step takes the command at the front of the queue and runs it with the queue's rest. The queue is the model's (log 27).
-/
def Obligations.StepRunsTheFrontCommand : Prop :=
  ∀ (s : State) (c : Instr) (rest : List Instr), s.pending = c :: rest →
    step s = exec c { s with pending := rest }

/-- On an empty queue one tick passes: every timer that counts loses 1 µs, and the expiry of each timer whose count was 1 is
taken as its command, with what it drives outward. Those that come together (R63, R179) are taken one after another in some
order, each that an earlier one has stopped not at all. Without one, and with no read of the management port under way,
nothing else that the manual names changes. That a tick is the step of an empty queue is the model's choice (log 5). -/
def Obligations.TickCountsTimersAndTakesExpiries : Prop :=
  ∀ s : State, s.pending = [] → ∃ (u t : State) (ks : List Timer), step s = .next t ∧ u.TakesExpiries ks t ∧
    u = { s with pu := u.pu, tt := u.tt, hp := u.hp, mg := u.mg, out := u.out, freeCount := u.freeCount } ∧
    (s.mg.bus ≠ .reading → u.mg = s.mg ∧ u.out = []) ∧
    u.pu = { s.pu with channel := u.pu.channel } ∧
    u.hp = { s.hp with lockTimer := s.hp.lockTimer.map fun n => n - 1 } ∧
    u.tt = { s.tt with entries := u.tt.entries } ∧
    (s.pu.channel = .idle → u.pu.channel = .idle) ∧
    (∀ i l m n, s.pu.channel = .outstanding i l m n → u.pu.channel = .outstanding i l m (n - 1)) ∧
    (∀ n, s.pu.channel = .quiet n → u.pu.channel = .quiet (n - 1)) ∧
    (∀ j, u.txn j = (s.txn j).map fun x => { x with wbTimer := x.wbTimer.map WbTimer.count }) ∧
    ks.Nodup ∧
    ∀ k, k ∈ ks ↔
      ((k = .answer ∧ ∃ i l m, s.pu.channel = .outstanding i l m 1) ∨
       (k = .quiet ∧ s.pu.channel = .quiet 1) ∨
       (∃ i x, k = .writeback i ∧ s.txn i = some x ∧
         (x.wbTimer = some (.running 1) ∨ x.wbTimer = some (.pendingCounting 1))) ∨
       (k = .lock ∧ s.hp.lockTimer = some 1))

/-! ### The reset inputs -/

/-- R198 with the rules it gathers: at the assertion of the RESET pin all work is dropped and every table and queue emptied,
with nothing driven outward. The release samples the straps and leaves the values the manual gives. Three clauses are the
model's and not the manual's: the level of HRST stays across the pin (log 3), what the manual gives after the pin stands from
the assertion on (log 28), and the waiting commands stay (log 27). -/
def Obligations.ResetPinDropsWorkAndGivesStartValues : Prop :=
  (∀ s : State, ∃ t, exec .resetPinAssert s = .next t ∧ t.Emptied ∧ t.out = [] ∧
    t.pins = { s.pins with resetAsserted := true } ∧ t.pending = s.pending) ∧
  ∀ (s : State) (ma1 ma0 start : Bool), s.pins.resetAsserted = true →
    ∃ t, exec (.resetPinRelease ma1 ma0 start) s = .next t ∧ t.Emptied ∧ t.StartValues start ∧ t.out = [] ∧
      t.pins = { s.pins with resetAsserted := false, ma1 := ma1, ma0 := ma0, start := start } ∧
      t.pending = s.pending

/-- The state after reset: the values of R198 and the rules it gathers, and the properties that every step keeps. That the
straps are low and HRST released there is the model's choice (logs 1 and 3). -/
def Obligations.ResetStateHasStartValuesAndProperties : Prop :=
  State.reset.Emptied ∧ State.reset.StartValues false ∧ State.reset.Running ∧ State.reset.pending = [] ∧
    State.reset.DirectoryKept ∧ State.reset.WithinCapacity ∧ State.reset.TagsAccounted ∧ State.reset.KindsInPlace ∧
    State.reset.LimitsInRange ∧ State.reset.PassIsEmpty

/-- R117, R50, R78, R162: the assertion of HRST drops the cycle, stops the lock timer, clears the mark and the last locked
kind, and sets HOST_RESET; it clears no flag, drives nothing outward but probes, and changes nothing that software wrote, no
outstanding memory request, no tag and no quarantined line. Of the host's transactions one in MEM_BUSY keeps its entry, marked
abandoned, and every other is freed. -/
def Obligations.HrstAssertDropsTheHostSide : Prop :=
  ∀ s : State, s.Running → s.pins.hrstAsserted = false →
    ∃ t, exec .hrstAssert s = .next t ∧
      t.pins = { s.pins with hrstAsserted := true } ∧
      t.hp.cycle = none ∧ t.hp.lockTimer = none ∧ t.hp.broken = false ∧ t.hp.lastLocked = none ∧
      t.hp.lockLimit = s.hp.lockLimit ∧
      t.ev.flags.getLsbD 10 = true ∧ (∀ k, s.ev.flags.getLsbD k = true → t.ev.flags.getLsbD k = true) ∧
      (∀ o ∈ t.out, ∃ l m, o = Output.probe l m) ∧
      t.rm = s.rm ∧ t.pd.admitPolicy = s.pd.admitPolicy ∧ t.pu.probeLimit = s.pu.probeLimit ∧
      t.pu.wbLimit = s.pu.wbLimit ∧ t.mp.outstanding = s.mp.outstanding ∧ t.tt.roundRobin = s.tt.roundRobin ∧
      (∀ p, (t.port p).tags = (s.port p).tags) ∧ t.ev.enables = s.ev.enables ∧
      t.msc.quarantine.map QuarRec.line = s.msc.quarantine.map QuarRec.line ∧
      (s.msc.sweep.phase = .stopped → t.msc.mode = s.msc.mode) ∧ t.pending = s.pending ∧
      ∀ i x, i ≠ recallEntry → s.txn i = some x → x.work.isHost = true →
        (x.phase ≠ .memBusy → t.txn i = none) ∧
        (x.phase = .memBusy → (∀ r ∈ s.tt.locks, i ∉ r.waiters) → i ∉ s.pu.queue →
          (∀ l m n, s.pu.channel ≠ .outstanding i l m n) →
          ∃ y, t.txn i = some y ∧ y = { x with abandoned := true, wbTimer := y.wbTimer })

/-- R26, R117: the assertion of HRST leaves the directory, the host lock set and the recall wait list empty, whoever holds the
lock a host transaction waits for. R50: a line of the set under which a locked transaction stands in MEM_BUSY comes to that
transaction, now abandoned, ahead of the wait list, whose members of the host's have left it. R38, R44: every other line of
the set is released: with no member left it is unlocked, and a request at the head that no check refuses becomes the holder
and, the directory being empty, waits for memory. The release of HRST changes its level alone, and while it is asserted the
host port takes no cycle. -/
def Obligations.HrstEmptiesTheDirectoryAndHoldsOffCycles : Prop :=
  (∀ s : State, s.Running → s.pins.hrstAsserted = false → (s.tt.locks.map LockRec.line).Nodup →
    (∀ r ∈ s.tt.locks, ∀ i ∈ r.waiters, ∀ x, s.txn i = some x → x.work.isHost = true →
      x.phase = .lockWait ∧ x.line = r.line) →
    ∃ t, exec .hrstAssert s = .next t ∧ (∀ k : SetIx, t.pd.sets[k.val] = []) ∧ t.hp.lockSet = [] ∧
      t.tt.recallWait = [] ∧
      ∀ l ws, l ∈ s.hp.lockSet → s.lockOf l = some { line := l, holder := .hostSet, waiters := ws } →
        (∀ i x, i ≠ recallEntry → s.LockedAtMemory i x → x.line = l →
          t.lockOf l = some { line := l, holder := .txn i, waiters := s.withoutHost ws } ∧
          ∃ y, t.txn i = some y ∧ y.work = x.work ∧ y.abandoned = true) ∧
        ((∀ i x, s.txn i = some x → x.work.isLocked = true → x.phase = .memBusy → x.line ≠ l) →
          (s.withoutHost ws = [] → t.lockOf l = none) ∧
          ∀ i y p rest, s.withoutHost ws = i :: rest → s.txn i = some y → y.line = l → y.work.port? = some p →
            s.checksResult y.work.kind p l = .ok →
            t.lockOf l = some { line := l, holder := .txn i, waiters := rest } ∧
            ∃ z, t.txn i = some z ∧ z.work = y.work ∧ z.phase = .memWait)) ∧
  (∀ s : State, s.pins.hrstAsserted = true →
    exec .hrstRelease s = .next { s with pins := { s.pins with hrstAsserted := false }, out := [] }) ∧
  ∀ (s : State) (c : Instr) (a : Addr) (m : BeatMask) (e : Bool) (k : SpecialCode),
    s.Running → s.pins.hrstAsserted = true →
    c ∈ [.hostRead a m, .hostWrite a m, .hostFill a, .hostEvict a, .hostProbeWb a, .hostLread a m, .hostLwrite a m e,
         .hostSpecial k] →
    exec c s = .next { s with out := [] }

/-- R78, R151, R26: with one transaction in the table, not of the host's, what the assertion of HRST does to it in a probe
phase. An outstanding probe counts as answered MISS, and its requester transaction goes to memory. With an eviction attached,
the four beats are its data, and with fewer the write-back is lost, with a WRITEBACK_LOST record under HOST_RESET; so is that
of one in WB_WAIT; a requester transaction then goes to memory, an R_WRITE with its own bytes (R30), and a RECALL ends. R177:
a running sweep ends with SWEEP_DONE and remaining 0, one of origin SET_MODE with the mode PASS and MODE_CHANGED. R78: the
members of the probe queue skip at the head, behind the transaction whose probe was outstanding, and stay while the channel is
QUIET. R187: of two write-backs lost, the record of the lower entry comes first. That the record shows the answer MISS is the
model's reading, and so is the place of the skips in the memory port's order (logs 9 and 8). -/
def Obligations.HrstSettlesAProbingTransaction : Prop :=
  (∀ (s : State) (i : EntryIx) (x : Txn) (out : Bool) (flags : BitVec 17), s.Running → s.pins.hrstAsserted = false →
    s.hp.lockSet = [] → s.tt.recallWait = [] → s.pu.queue = [] → (∀ p, (s.port p).state ≠ .draining) →
    s.txn i = some x → x.work.isHost = false → (∀ j, j ≠ i → s.txn j = none) →
    (∀ c, s.hp.cycle = some c → c.standing = .attached i) →
    (out = true → ∃ l m n, s.pu.channel = .outstanding i l m n) →
    (out = false → ∀ j l m n, s.pu.channel ≠ .outstanding j l m n) →
    (flags = 0x400#17 ||| if s.msc.sweep.phase = .stopped then 0#17
      else if s.msc.sweep.origin = .setMode then 0x2800#17 else 0x800#17) →
    ∃ t, exec .hrstAssert s = .next t ∧
      t = { s with
        pd := { s.pd with sets := Vector.replicate 256 [] }
        pu := t.pu
        tt := t.tt
        mp := t.mp
        hp := { s.hp with cycle := none, lockTimer := none, broken := false, lastLocked := none }
        msc := { s.msc with
          mode := if s.msc.sweep.phase ≠ .stopped ∧ s.msc.sweep.origin = .setMode then .pass else s.msc.mode
          sweep := s.msc.sweep.ended 0 }
        ev := t.ev
        mg := if s.msc.sweep.phase = .stopped then s.mg else s.mg.operationEnded
        pins := { s.pins with hrstAsserted := true }
        out := [] } ∧
      t.tt = { s.tt with entries := t.tt.entries, locks := t.tt.locks } ∧
      t.pu = (if out then { s.pu with channel := .idle } else s.pu) ∧
      (∀ lost : Bool, ((lost = false ∧ x.phase = .probing ∧
            ((x.wbData = true ∧ x.mask = BitVec.allOnes 32) ∨ (x.wbData = false ∧ out = true ∧ s.hp.cycle = none))) ∨
          (lost = true ∧ x.phase = .probing ∧ x.wbData = false ∧ s.hp.cycle.isSome = true) ∨
          (lost = true ∧ x.phase = .wbWait ∧ out = false)) →
        (lost = false → t.ev = { s.ev with flags := s.ev.flags ||| flags }) ∧
        (lost = true → EventUnit.Reported
          { kind := .writebackLost, issuer := x.work.issuer, line := x.line, txnKind := x.work.kind, tag := x.work.tag? }
          { s.ev with flags := s.ev.flags ||| flags } t.ev) ∧
        ((x.work.port?.isSome = true ∧ i ≠ recallEntry) ∨
            (x.work.isRecall = true ∧ i = recallEntry ∧ x.phase = .probing ∧ x.wbData = true) →
          t.tt.locks = s.tt.locks ∧ t.mp = { s.mp with waiting := joinTail s.mp.waiting i } ∧
          ∃ y, s.TxnBecomes t i (some y) ∧ y.work = x.work ∧ y.line = x.line ∧ y.phase = .memWait ∧
            y.wbData = x.wbData ∧ y.abandoned = x.abandoned ∧ (out = true → y.answer = some .miss) ∧
            y.link = (if i = recallEntry then none else x.link) ∧
            (x.wbData = false → { x with answer := y.answer, link := y.link, wbTimer := y.wbTimer }.EnteredMemWait y) ∧
            (x.phase = .probing → x.wbData = true →
              { x with answer := y.answer, link := y.link }.TookData y x.buf)) ∧
        (x.work.isRecall = true → i = recallEntry → x.wbData = false → s.HoldsAlone i x.line →
          t.mp = s.mp ∧ s.TxnBecomes t i none ∧ s.LockBecomes t x.line none))) ∧
  (∀ (s : State) (i : EntryIx) (x : Txn) (ks : List EntryIx), s.Running → s.pins.hrstAsserted = false →
    s.hp.cycle = none → s.hp.lockSet = [] → s.msc.sweep.phase = .stopped → s.tt.recallWait = [] →
    (∀ p, (s.port p).state ≠ .draining) → s.msc.mode ≠ .faulted → s.pu.queue = ks → ks.Nodup →
    (∀ k ∈ ks, k ≠ recallEntry ∧ ∃ y, s.txn k = some y ∧ y.work.port?.isSome = true ∧ y.phase = .probeQueued) →
    (∀ j y, s.txn j = some y → j ∉ ks → y.work.isHost = false ∧ y.phase ≠ .wbWait ∧ (y.phase = .probing → j = i)) →
    (∀ n, s.pu.channel = .quiet n → s.txn i = none → ∃ t, exec .hrstAssert s = .next t ∧ t.pu = s.pu ∧ t.mp = s.mp ∧
      ∀ j, j ≠ recallEntry → t.txn j = (s.txn j).map (Txn.timerStarted s.pu.wbLimit.toNat)) ∧
    ∀ l m n, s.pu.channel = .outstanding i l m n → s.txn i = some x → i ∉ ks → i ≠ recallEntry →
      x.work.port?.isSome = true → x.phase = .probing → x.wbData = false →
      ∃ t, exec .hrstAssert s = .next t ∧ t.pu = { s.pu with queue := [], channel := .idle } ∧
        t.mp = { s.mp with waiting := (i :: ks).foldl joinTail s.mp.waiting } ∧
        t.ev = { s.ev with flags := s.ev.flags ||| 0x400#17 } ∧ t.tt.locks = s.tt.locks ∧ t.out = [] ∧
        (∀ k ∈ i :: ks, ∃ y z, s.txn k = some y ∧ t.txn k = some z ∧ z.work = y.work ∧ z.line = y.line ∧
          z.phase = .memWait ∧ z.wbData = y.wbData ∧
          (y.wbData = false → { y with answer := z.answer, wbTimer := z.wbTimer }.EnteredMemWait z))) ∧
  ∀ (s : State) (i j : EntryIx) (x y : Txn), s.Running → s.pins.hrstAsserted = false → s.hp.cycle = none →
    (∀ p, (s.port p).state ≠ .draining) → s.hp.lockSet = [] → s.msc.sweep.phase = .stopped → i < j →
    s.txn i = some x → s.txn j = some y →
    (∀ k, k ≠ i → k ≠ j → s.txn k = none) → x.work.port?.isSome = true → y.work.port?.isSome = true →
    x.phase = .wbWait → y.phase = .wbWait → j ≠ recallEntry →
    ∃ t e, exec .hrstAssert s = .next t ∧
      EventUnit.Reported
        { kind := .writebackLost, issuer := x.work.issuer, line := x.line, txnKind := x.work.kind, tag := x.work.tag? }
        { s.ev with flags := s.ev.flags ||| 0x400#17 } e ∧
      e.Reported
        { kind := .writebackLost, issuer := y.work.issuer, line := y.line, txnKind := y.work.kind, tag := y.work.tag? } t.ev

/-! ### Cycles of the processor -/

/-- R95, R96: READ, WRITE and FILL are taken at their address and claim a general entry. R112: under the broken-sequence
mark a locked cycle is taken as a READ or WRITE, an LWRITE with END clearing the mark. R107 to R109: without the mark it
claims an entry when its line is in the host lock set or the set has room, and is answered with a bus error and LOCK_OVERRUN
otherwise. -/
def Obligations.HostCyclesClaimAnEntryOrOverrun : Prop :=
  (∀ (s : State) (a : Addr) (m : BeatMask), s.BusFree →
    exec (.hostRead a m) s = .next { s with
      hp := { s.hp with cycle := some (claimingCycle .read a (beatOf a) m false) }, out := [] } ∧
    exec (.hostWrite a m) s = .next { s with
      hp := { s.hp with cycle := some (claimingCycle .write a (beatOf a) m false) }, out := [] } ∧
    exec (.hostFill a) s = .next { s with
      hp := { s.hp with cycle := some (claimingCycle .fill a (beatOf a) 0#8 false) }, out := [] }) ∧
  ∀ (s : State) (a : Addr) (m : BeatMask) (e : Bool), s.BusFree →
    (s.hp.broken = true →
      exec (.hostLread a m) s = .next { s with
        hp := { s.hp with cycle := some (claimingCycle .read a (beatOf a) m false) }, out := [] } ∧
      exec (.hostLwrite a m e) s = .next { s with
        hp := { s.hp with cycle := some (claimingCycle .write a (beatOf a) m false), broken := !e }, out := [] }) ∧
    (s.hp.broken = false → (lineOf a ∈ s.hp.lockSet ∨ s.hp.lockSet.length < 2) →
      exec (.hostLread a m) s = .next { s with
        hp := { s.hp with cycle := some (claimingCycle .lread a (beatOf a) m false) }, out := [] } ∧
      exec (.hostLwrite a m e) s = .next { s with
        hp := { s.hp with cycle := some (claimingCycle .lwrite a (beatOf a) m e) }, out := [] }) ∧
    (s.hp.broken = false → lineOf a ∉ s.hp.lockSet → 2 ≤ s.hp.lockSet.length →
      (∃ t, exec (.hostLread a m) s = .next t ∧ t = { s with ev := t.ev, out := [.busError] } ∧
        s.ev.Reported { kind := .lockOverrun, issuer := .hp, line := lineOf a, txnKind := .hLread, tag := none } t.ev) ∧
      ∃ t, exec (.hostLwrite a m e) s = .next t ∧ t = { s with ev := t.ev, out := [.busError] } ∧
        s.ev.Reported { kind := .lockOverrun, issuer := .hp, line := lineOf a, txnKind := .hLwrite, tag := none } t.ev)

/-- R42, R67, R96, R103, R105: an EVICT or PROBE_WB claims a general entry when no transaction waits for a write-back of its
line, and attaches to the one that does; one in PROBE_QUEUED then leaves the queue and enters WB_WAIT. The same at a later
moment (R42): a line's lock, here released by an abandoned transaction's completion, comes to a requester transaction whose
lookup needs a probe, while an EVICT or PROBE_WB of the line claims an entry, its claim then withdrawn, or is in LOCK_WAIT,
its entry then freed and its place in the wait list left. No probe is issued; with all four beats the data has been
taken (R64, R65). That the beats a claiming cycle holds, since it was handed back (R68), are in the holder's buffer at once is
the model's reading (log 23). -/
def Obligations.WritebackCyclesClaimOrAttach : Prop :=
  (∀ (s : State) (a : Addr), s.BusFree →
    ((∀ i x, ¬ s.Awaits (lineOf a) i x) →
      exec (.hostEvict a) s = .next { s with
        hp := { s.hp with cycle := some (claimingCycle .evict a (beatOf a) 0#8 false) }, out := [] } ∧
      exec (.hostProbeWb a) s = .next { s with
        hp := { s.hp with cycle := some (claimingCycle .probeWb a 0 0#8 false) }, out := [] }) ∧
    ∀ i x, s.Awaits (lineOf a) i x → s.Quiet →
      ∀ c k b, (c, k, b) ∈ [(Instr.hostEvict a, CycleKind.evict, beatOf a), (.hostProbeWb a, .probeWb, 0)] →
        ∃ t, exec c s = .next t ∧
          t = { s with hp := t.hp, pu := t.pu, tt := { s.tt with entries := t.tt.entries }, out := [] } ∧
          t.hp = { s.hp with cycle := some { claimingCycle k a b 0#8 false with standing := .attached i } } ∧
          (x.phase ≠ .probeQueued → t.pu = s.pu ∧ ∀ j, t.txn j = s.txn j) ∧
          (x.phase = .probeQueued → t.pu = { s.pu with queue := s.pu.queue.filter fun j => j != i } ∧
            s.TxnBecomes t i (some { x with phase := .wbWait }))) ∧
  ∀ (s : State) (k : Completion) (q : MemReq) (outs : List MemReq) (x y : Txn) (i : EntryIx) (ws : List EntryIx) (p : PortIx)
      (m : ProbeMode) (c : Cycle) (d : Option EntryIx) (raw : LineData),
    s.Running → s.Quiet → s.mp.outstanding = q :: outs → s.txn q.txn = some x → q.txn ≠ recallEntry →
    x.abandoned = true → x.work.isHost = true →
    s.lockOf x.line = some { line := x.line, holder := .txn q.txn, waiters := i :: ws } → i ≠ q.txn → i ≠ recallEntry →
    s.txn i = some y → y.line = x.line → y.work.port? = some p → y.wbData = false → y.wbTimer = none → i ∉ s.pu.queue →
    s.checksResult y.work.kind p x.line = .ok → s.NeedsProbe y.work.kind x.line m →
    s.hp.cycle = some c → c.line = x.line → c.WritesBack →
    ((c.standing = .claiming ∧ d = none ∧ BeatsPlaced c.held y.buf raw) ∨
     (∃ j z, c.standing = .served j ∧ d = some j ∧ j ≠ recallEntry ∧ j ≠ i ∧ j ≠ q.txn ∧ s.txn j = some z ∧
        z.phase = .lockWait ∧ z.work.kind = .hEvict ∧ z.line = x.line ∧ c.taken.length = 4 ∧ c.taken.Nodup ∧ raw = z.buf)) →
    ∃ t z, exec (.memCompletion k) s = .next t ∧
      t = { s with pd := t.pd, hp := t.hp, tt := { s.tt with entries := t.tt.entries, locks := t.tt.locks }, mp := t.mp,
                   out := [] } ∧
      t.hp = { s.hp with cycle := some { c with standing := .attached i, held := [] } } ∧
      t.txn q.txn = none ∧ t.txn i = some z ∧ (∀ j, d = some j → t.txn j = none) ∧
      (∀ j, j ≠ q.txn → j ≠ i → d ≠ some j → t.txn j = s.txn j) ∧
      s.LockBecomes t x.line
        (some { line := x.line, holder := .txn i, waiters := ws.filter fun j => decide (d ≠ some j) }) ∧
      (c.taken.length ≠ 4 → t.pd = s.pd ∧ t.mp = { s.mp with outstanding := outs } ∧
        z = { y with phase := .wbWait, snapshot := some (s.rm.resolve x.line), dirResult := z.dirResult,
                     probeMode := some m, buf := raw }) ∧
      (c.taken.length = 4 → t.mp = { outstanding := outs, waiting := joinTail s.mp.waiting i } ∧
        { y with snapshot := some (s.rm.resolve x.line), dirResult := z.dirResult, probeMode := some m }.TookData z raw ∧
        (m = .invalidate →
          s.SetBecomes t (setOf x.line) ((s.dirSet x.line).filter fun e => e.line != x.line)) ∧
        (m ≠ .invalidate → t.pd = s.pd))

/-- R104, R25: a special cycle is acknowledged at its address and ends; a code other than FLUSH_ACK has no effect on any
state. FLUSH_ACK leaves no HELD entry, whatever the bridge was doing, and in a quiet bridge it removes the HELD entries
alone, the RESERVED ones keeping their order. -/
def Obligations.SpecialCyclesAndFlushAck : Prop :=
  (∀ s : State, s.BusFree →
    (∀ n, exec (.hostSpecial (.other n)) s = .next { s with out := [.specialAck] }) ∧
    (s.Quiet → ∃ t, exec (.hostSpecial .flushAck) s = .next t ∧
      t = { s with pd := { s.pd with sets := t.pd.sets }, out := [.specialAck] } ∧
      ∀ k : SetIx, t.pd.sets[k.val] = (s.pd.sets[k.val]).filter fun e => e.state = .reserved)) ∧
  ∀ s : State, s.BusFree → ∃ t, exec (.hostSpecial .flushAck) s = .next t ∧
    ∀ (k : SetIx), ∀ e ∈ t.pd.sets[k.val], e.state = .reserved

/-! ### Beats -/

/-- R33, R97, R100: the beat of a WRITE is taken under its mask and acknowledged; its transaction takes the lock of a line
that is unlocked and waits for memory, and joins the wait list of a locked line otherwise (R38). R107: so does that of an
LWRITE, whose line joins the host lock set with its lock; R108: an LWRITE of a line in the set takes no lock and waits for
memory. R97: with no cycle on the bus, or one that is CLAIMING, no beat is taken and none acknowledged. That a beat which
its cycle does not await, had already or other than the one a WRITE or LWRITE addresses among them, is not taken either is the
model's reading (log 4); so is that WRITEBACK_BEAT has no effect on a cycle SERVED otherwise than by an H_EVICT (log 42). -/
def Obligations.WriteBeatIsTakenUnderItsMask : Prop :=
  (∀ (s : State) (b : Beat) (d : BeatData), s.Running →
    ((∀ c, s.hp.cycle = some c → s.AwaitsNot c b) →
      exec (.hostWriteBeat b d) s = .next { s with out := [] } ∧
      exec (.writebackBeat b d) s = .next { s with out := [] }) ∧
    ∀ c i x, s.Carries c i x → x.work.kind ≠ .hEvict → exec (.writebackBeat b d) s = .next { s with out := [] }) ∧
  ∀ (s : State) (c : Cycle) (i : EntryIx) (x : Txn) (b : Beat) (m : BeatMask) (d : BeatData),
    s.Running → s.Quiet → s.Carries c i x → i ≠ recallEntry → x.phase = .dataIn → b ∉ c.taken →
    (x.work = .hWrite b m ∨ ∃ e, x.work = .hLwrite b m e) →
    ∃ t y, exec (.hostWriteBeat b d) s = .next t ∧
      t = { s with hp := t.hp, tt := t.tt, mp := t.mp, out := [.beatAck] } ∧
      t.hp = { s.hp with
        cycle := some { c with given := c.given + 1, taken := c.taken ++ [b] }, lockSet := t.hp.lockSet } ∧
      t.tt = { s.tt with entries := t.tt.entries, locks := t.tt.locks } ∧
      s.TxnBecomes t i (some y) ∧ y = { x with buf := y.buf, mask := y.mask, phase := y.phase } ∧ x.TookBeat y b m d ∧
      (s.lockOf x.line = none → x.work.isLocked = false →
        y.phase = .memWait ∧ t.mp = { s.mp with waiting := joinTail s.mp.waiting i } ∧ t.hp.lockSet = s.hp.lockSet ∧
        s.LockBecomes t x.line (some { line := x.line, holder := .txn i, waiters := [] })) ∧
      (∀ r, s.lockOf x.line = some r → (x.work.isLocked = false ∨ x.line ∉ s.hp.lockSet) →
        y.phase = .lockWait ∧ t.mp = s.mp ∧ t.hp.lockSet = s.hp.lockSet ∧
        s.LockBecomes t x.line (some { r with waiters := joinTail r.waiters i })) ∧
      (s.lockOf x.line = none → x.work.isLocked = true → x.line ∉ s.hp.lockSet → s.hp.lockSet.length < 2 →
        y.phase = .memWait ∧ t.mp = { s.mp with waiting := joinTail s.mp.waiting i } ∧
        t.hp.lockSet = s.hp.lockSet ++ [x.line] ∧
        s.LockBecomes t x.line (some { line := x.line, holder := .hostSet, waiters := [] })) ∧
      (x.work.isLocked = true → x.line ∈ s.hp.lockSet →
        y.phase = .memWait ∧ t.mp = { s.mp with waiting := joinTail s.mp.waiting i } ∧ t.hp.lockSet = s.hp.lockSet ∧
        t.tt.locks = s.tt.locks)

/-- R97, R103: each of the first three beats of an eviction is placed at its own position and acknowledged. R24, R77: at the
fourth, as when a cycle handed back with all four is admitted (R68), an eviction of an unlocked line looks up: it removes the
line's entry; without one it is counted in ORPHAN_EVICTS; on a quarantined line it sets the late-data flag and raises
LATE_WRITEBACK. It then waits for memory, its last beat not yet acknowledged. R38: behind the line's holder it joins the wait
list, unless (R42, R67) the holder still awaits a write-back: it then attaches with its four beats, its own entry freed. A
holder in PROBING keeps the data for its answer. R64, R65: for one in PROBE_QUEUED, which leaves the probe queue, or in
WB_WAIT, a requester transaction or a RECALL, the data has been taken: with INVALIDATE the line's entry is removed, with KEEP
the directory is as it was, and the transaction waits for memory. That the beats of a cycle handed back come with it, and so
are in the buffer of the holder it attaches to at once, is the model's reading (log 23). -/
def Obligations.EvictionTakesItsBeatsAndLooksUp : Prop :=
  (∀ (s : State) (c : Cycle) (i : EntryIx) (x : Txn) (start b : Beat) (d : BeatData),
    s.Running → s.Carries c i x → x.work = .hEvict start → x.phase = .dataIn → b ∉ c.taken → c.taken.length < 3 →
    ∃ t y, exec (.hostWriteBeat b d) s = .next t ∧
      t = { s with hp := t.hp, tt := { s.tt with entries := t.tt.entries }, out := [.beatAck] } ∧
      t.hp = { s.hp with cycle := some { c with given := c.given + 1, taken := c.taken ++ [b] } } ∧
      s.TxnBecomes t i (some y) ∧ y = { x with buf := y.buf, mask := y.mask } ∧
      x.TookBeat y b (BitVec.allOnes 8) d) ∧
  ∀ (s : State) (k : Instr) (c : Cycle) (i : EntryIx) (l : Line) (w : Work) (raw : LineData),
    s.Running → s.Quiet → i ≠ recallEntry → s.EvictionCompletes k c i l w raw →
    (s.lockOf l = none → ∃ t y, exec k s = .next t ∧
      t = { s with pd := t.pd, hp := t.hp, tt := t.tt, mp := t.mp, msc := t.msc, ev := t.ev, out := [] } ∧
      t.hp = { s.hp with cycle := some c } ∧
      t.tt = { s.tt with entries := t.tt.entries, locks := t.tt.locks } ∧
      t.mp = { s.mp with waiting := joinTail s.mp.waiting i } ∧
      s.TxnBecomes t i (some y) ∧ y.work = w ∧ y.line = l ∧ y.phase = .memWait ∧ y.buf = raw ∧
      s.LockBecomes t l (some { line := l, holder := .txn i, waiters := [] }) ∧ s.EvictionLooksUp t l) ∧
    (∀ r, s.lockOf l = some r → (∀ j z, ¬ s.Awaits l j z) → ∃ t y, exec k s = .next t ∧
      t = { s with hp := t.hp, tt := t.tt, out := [] } ∧
      t.hp = { s.hp with cycle := some c } ∧
      t.tt = { s.tt with entries := t.tt.entries, locks := t.tt.locks } ∧
      s.TxnBecomes t i (some y) ∧ y.work = w ∧ y.line = l ∧ y.phase = .lockWait ∧ y.buf = raw ∧
      s.LockBecomes t l (some { r with waiters := joinTail r.waiters i })) ∧
    ∀ j z, s.Awaits l j z → z.line = l → j ≠ i → c.taken.Nodup →
      ((z.phase = .probing ∧ z.answer = none) ∨ (z.phase ≠ .probing ∧
        ((j ≠ recallEntry ∧ z.work.port?.isSome = true) ∨
         (j = recallEntry ∧ z.work.isRecall = true ∧ z.link = none ∧ z.probeMode = some .invalidate)))) →
      ∃ t y, exec k s = .next t ∧
        t = { s with pd := t.pd, pu := t.pu, hp := t.hp, tt := { s.tt with entries := t.tt.entries }, mp := t.mp,
                     out := [] } ∧
        t.hp = { s.hp with cycle := some { c with standing := .attached j, held := [] } } ∧
        t.txn i = none ∧ t.txn j = some y ∧ (∀ k, k ≠ i → k ≠ j → t.txn k = s.txn k) ∧
        t.pu = (if z.phase = .probeQueued then { s.pu with queue := s.pu.queue.filter fun k => k != j } else s.pu) ∧
        (z.phase = .probing → t.pd = s.pd ∧ t.mp = s.mp ∧
          y = { z with buf := raw, mask := BitVec.allOnes 32, wbData := true,
                       wbTimer := z.wbTimer.map fun _ => .stopped }) ∧
        (z.phase ≠ .probing → t.mp = { s.mp with waiting := joinTail s.mp.waiting j } ∧ z.TookData y raw ∧
          (z.probeMode = some .invalidate →
            s.SetBecomes t (setOf l) ((s.dirSet l).filter fun e => e.line != l)) ∧
          (z.probeMode ≠ some .invalidate → t.pd = s.pd))

/-- R64, R66, R69: each of the first three beats of an attached write-back goes into the holder's buffer at its own position,
stops its write-back timer and is acknowledged. R65, R145: at the fourth the data of a requester transaction or a RECALL in
WB_WAIT has been taken: INVALIDATE removes the line's entry and KEEP leaves the directory as it is, the timer goes, an R_WRITE
overlays its bytes, an R_ATOMIC runs its operation, and the transaction waits for memory with every mask position set. A
RECALL whose link still names a fill hands the freed way to it; no run reaches that, since the fill is then on the bus (R16),
and no order of the two in the memory port's waiting order is said. R68: so is the data of a holder in PROBING taken once its
answer has been taken as well, by the fourth beat when that comes last; before its answer it keeps the data and stays in
PROBING. That the probe mode takes effect at the later of the two, and that HOST_WRITE_BEAT is the same beat on the bus, are
the model's readings (logs 31 and 42). -/
def Obligations.WritebackBeatsCompleteTheHoldersData : Prop :=
  (∀ (s : State) (c : Cycle) (i : EntryIx) (x : Txn) (b : Beat) (d : BeatData),
    s.Feeds c i x ∨ (s.Carries c i x ∧ x.work.kind = .hEvict) →
    exec (.hostWriteBeat b d) s = exec (.writebackBeat b d) s) ∧
  (∀ (s : State) (c : Cycle) (i : EntryIx) (x : Txn) (b : Beat) (d : BeatData),
    s.Running → s.Quiet → s.Feeds c i x → x.wbData = false → b ∉ c.taken → c.taken.length < 3 →
    ∃ t y, exec (.writebackBeat b d) s = .next t ∧
      t = { s with hp := t.hp, tt := { s.tt with entries := t.tt.entries }, out := [.beatAck] } ∧
      t.hp = { s.hp with cycle := some { c with given := c.given + 1, taken := c.taken ++ [b] } } ∧
      s.TxnBecomes t i (some y) ∧
      y = { x with buf := y.buf, wbTimer := x.wbTimer.map fun _ => .stopped } ∧ BeatPlaced b d x.buf y.buf) ∧
  (∀ (s : State) (c : Cycle) (i : EntryIx) (x : Txn) (b : Beat) (d : BeatData) (raw : LineData),
    s.Running → s.Quiet → s.Feeds c i x → x.phase = .probing → x.answer = none → x.wbData = false → b ∉ c.taken →
    c.taken.length = 3 → BeatPlaced b d x.buf raw →
    ∃ t, exec (.writebackBeat b d) s = .next t ∧
      t = { s with hp := t.hp, tt := { s.tt with entries := t.tt.entries }, out := [] } ∧
      t.hp = { s.hp with cycle := some { c with taken := c.taken ++ [b] } } ∧
      s.TxnBecomes t i (some { x with
        buf := raw, mask := BitVec.allOnes 32, wbData := true, wbTimer := x.wbTimer.map fun _ => .stopped })) ∧
  ∀ (s : State) (c : Cycle) (i : EntryIx) (x : Txn) (b : Beat) (d : BeatData) (raw : LineData),
    s.Running → s.Quiet → s.Feeds c i x → (x.phase = .wbWait ∨ (x.phase = .probing ∧ x.answer.isSome = true)) →
    x.wbData = false → b ∉ c.taken → c.taken.length = 3 → BeatPlaced b d x.buf raw →
    ((i ≠ recallEntry ∧ x.work.port?.isSome = true) ∨ (i = recallEntry ∧ x.work.isRecall = true ∧ x.link = none) →
      ∃ t y, exec (.writebackBeat b d) s = .next t ∧
        t = { s with pd := t.pd, hp := t.hp, tt := { s.tt with entries := t.tt.entries }, mp := t.mp, out := [] } ∧
        t.hp = { s.hp with cycle := some { c with taken := c.taken ++ [b] } } ∧
        t.mp = { s.mp with waiting := joinTail s.mp.waiting i } ∧
        s.TxnBecomes t i (some y) ∧ x.TookData y raw ∧
        (x.probeMode = some .invalidate →
          s.SetBecomes t (setOf x.line) ((s.dirSet x.line).filter fun e => e.line != x.line)) ∧
        (x.probeMode ≠ some .invalidate → t.pd = s.pd)) ∧
    ∀ e f z a p, i = recallEntry → x.work.isRecall = true → x.probeMode = some .invalidate →
      s.findEntry x.line = some e → x.link = some f → f ≠ recallEntry → s.txn f = some z → z.work.kind = .hFill →
      z.snapshot = some a → a.policy.entryPolicy = some p → s.msc.mode = .coherent → s.msc.sweep.phase = .stopped →
      setOf z.line = setOf x.line → s.findEntry z.line = none →
      (∀ e' ∈ s.dirSet x.line, e'.way = e.way → e'.line = x.line) →
      ∃ t, exec (.writebackBeat b d) s = .next t ∧
        t = { s with pd := t.pd, hp := t.hp, tt := { s.tt with entries := t.tt.entries }, mp := t.mp, out := [] } ∧
        t.hp = { s.hp with cycle := some { c with taken := c.taken ++ [b] } } ∧
        (t.mp = { s.mp with waiting := joinTail (joinTail s.mp.waiting f) recallEntry } ∨
          t.mp = { s.mp with waiting := joinTail (joinTail s.mp.waiting recallEntry) f }) ∧
        t.txn recallEntry = some { x with
          phase := .memWait, buf := raw, mask := BitVec.allOnes 32, wbData := true, wbTimer := none, link := none } ∧
        t.txn f = some { z with phase := .memWait } ∧ (∀ j, j ≠ f → j ≠ recallEntry → t.txn j = s.txn j) ∧
        s.SetBecomes t (setOf x.line) ({ way := e.way, line := z.line, state := .reserved, policy := p } ::
          (s.dirSet x.line).filter fun e' => e'.line != x.line)

/-- R36, R95, R98, R99, R107, R111: the beat of a READ or LREAD is delivered with NOCACHE, the error mark when memory
failed; the cycle ends, the entry is freed and PENDING write-back timers start. A READ's line is unlocked when nothing waits
for it; an LREAD's stays with the host lock set, whose lock timer starts. So do a WRITE, an eviction and an LWRITE end as the
processor takes their final acknowledgment; that of an LWRITE with END starts no timer. That a
write kind stands in DATA_OUT until its acknowledgment is taken, and that with nothing to take the command has no effect, are
the model's readings (log 10, and log 4 for the command with nothing to take). -/
def Obligations.TakenBeatsAndAcknowledgmentsEndCycles : Prop :=
  (∀ (s : State) (c : Cycle) (i : EntryIx) (x : Txn) (b : Beat) (m : BeatMask) (r : ResultCode) (os : List Output),
    s.Running → s.Quiet → s.Carries c i x → i ≠ recallEntry → x.phase = .dataOut → x.result = some r →
    (((x.work = .hRead b m ∨ x.work = .hLread b m) ∧
        os = [.beat b (if r = .ok then beatAt x.buf b else zeroBeat) .noCache (r != .ok)]) ∨
      ((x.work = .hWrite b m ∨ x.work = .hEvict b ∨ ∃ e, x.work = .hLwrite b m e) ∧ os = [])) →
    (x.work.isLocked = false → s.HoldsAlone i x.line → ∃ t, exec .hostBeatTaken s = .next t ∧
      t = { s with hp := { s.hp with cycle := none }, tt := t.tt, out := os } ∧
      t.tt = { s.tt with entries := t.tt.entries, locks := t.tt.locks } ∧
      s.TxnBecomesBusEmpty t i none ∧ s.LockBecomes t x.line none) ∧
    (∀ k, ((x.work = .hLread b m ∧ k = .hLread) ∨ (x.work = .hLwrite b m false ∧ k = .hLwrite)) →
      (∃ ws, s.lockOf x.line = some { line := x.line, holder := .hostSet, waiters := ws }) → s.hp.lockSet ≠ [] →
      ∃ t, exec .hostBeatTaken s = .next t ∧
        t = { s with
          hp := { s.hp with cycle := none, lockTimer := some s.hp.lockLimit.toNat, lastLocked := some k }
          tt := { s.tt with entries := t.tt.entries }
          out := os } ∧
        s.TxnBecomesBusEmpty t i none) ∧
    (x.work = .hLwrite b m true → (∀ r, s.lockOf x.line = some r → r.holder ≠ .txn i) →
      ∃ t, exec .hostBeatTaken s = .next t ∧
        t = { s with hp := { s.hp with cycle := none }, tt := { s.tt with entries := t.tt.entries }, out := [] } ∧
        s.TxnBecomesBusEmpty t i none)) ∧
  ∀ s : State, s.Running → (∀ c i x, s.Carries c i x → x.phase ≠ .dataOut) →
    exec .hostBeatTaken s = .next { s with out := [] }

/-- R20, R21, R98, R101: a fill delivers its beats in wrapped order, each with the policy of its RESERVED entry when memory
answered OK and NOCACHE otherwise; at the fourth the entry becomes HELD in its place, or is removed when memory failed, and
the fill ends. -/
def Obligations.FillBeatsCarryTheGrant : Prop :=
  ∀ (s : State) (c : Cycle) (i : EntryIx) (x : Txn) (start : Beat) (r : ResultCode),
    s.Running → s.Quiet → s.Carries c i x → i ≠ recallEntry → x.phase = .dataOut → x.result = some r →
    x.work = .hFill start → c.given ≤ 3 → s.HoldsAlone i x.line →
    ∃ t b g, exec .hostBeatTaken s = .next t ∧ b.val = (start.val + c.given) % 4 ∧
      t.out = [.beat b (if r = .ok then beatAt x.buf b else zeroBeat) g (r != .ok)] ∧
      (g = .wt ↔ r = .ok ∧ ∃ e, s.findEntry x.line = some e ∧ e.state = .reserved ∧ e.policy = .wt) ∧
      (g = .wb ↔ r = .ok ∧ ∃ e, s.findEntry x.line = some e ∧ e.state = .reserved ∧ e.policy = .wb) ∧
      (c.given < 3 → t = { s with hp := { s.hp with cycle := some { c with given := c.given + 1 } }, out := t.out }) ∧
      (c.given = 3 →
        t = { s with pd := t.pd, hp := { s.hp with cycle := none }, tt := t.tt, out := t.out } ∧
        t.tt = { s.tt with entries := t.tt.entries, locks := t.tt.locks } ∧
        s.TxnBecomesBusEmpty t i none ∧ s.LockBecomes t x.line none ∧
        (r = .ok → s.isReserved x.line = true → s.SetBecomes t (setOf x.line)
          ((s.dirSet x.line).map fun e => if e.line = x.line then { e with state := .held } else e)) ∧
        (r ≠ .ok → s.isReserved x.line = true → s.SetBecomes t (setOf x.line)
          ((s.dirSet x.line).filter fun e => e.line != x.line)) ∧
        (s.isReserved x.line = false → t.pd = s.pd))

/-! ### Admission and lookup -/

/-- R45 to R47, R96: the host cycle is admitted ahead of every port, into the lowest-numbered free general entry, as the kind
of work it is. R33, R103: a WRITE, LWRITE, EVICT or PROBE_WB takes its beats in DATA_IN first, those it holds standing in its
buffer (R68); one that holds all four is in EvictionTakesItsBeatsAndLooksUp. R44, R107: a READ or LREAD of an unlocked line
takes its lock, an LREAD's line joining the host lock set, and waits for memory; an LREAD of a line in the set takes no lock.
R111: a locked cycle's admission stops the lock timer; one that finds the broken-sequence mark set is served as a READ or
WRITE. That the mark is left as it is then, also by an LWRITE with END, is the model's reading (log 20). R45: while no general
entry is free, or nothing claims one, nothing is given. -/
def Obligations.HostCyclesAreAdmittedByKind : Prop :=
  (∀ s : State, s.Running →
    ((∀ i, i ≠ recallEntry → (s.txn i).isSome = true) ∨
     ((∀ c, ¬ s.Claims c) ∧ ∀ p, (s.port p).state ≠ .enabled ∨ (s.port p).ingress = [])) →
    exec .admissionGrant s = .next { s with out := [] }) ∧
  ∀ (s : State) (c : Cycle) (i : EntryIx), s.Running → s.Quiet → s.Claims c → s.LowestFree i → c.kind ≠ .fill →
    c.taken.length < 4 →
    ∃ t y, exec .admissionGrant s = .next t ∧
      t = { s with hp := t.hp, tt := t.tt, mp := t.mp, out := [] } ∧
      t.hp = { s.hp with
        cycle := some { c with standing := .served i, held := [] }
        lockSet := t.hp.lockSet
        lockTimer := if y.work.isLocked then none else s.hp.lockTimer } ∧
      t.tt = { s.tt with entries := t.tt.entries, locks := t.tt.locks } ∧ s.TxnBecomes t i (some y) ∧
      y = { Txn.fresh y.work c.line y.phase with buf := y.buf, mask := y.mask } ∧
      (c.kind = .read ∨ (c.kind = .lread ∧ s.hp.broken = true) → y.work = .hRead c.beat c.mask) ∧
      (c.kind = .lread → s.hp.broken = false → y.work = .hLread c.beat c.mask) ∧
      (c.kind = .write ∨ (c.kind = .lwrite ∧ s.hp.broken = true) → y.work = .hWrite c.beat c.mask) ∧
      (c.kind = .lwrite → s.hp.broken = false → y.work = .hLwrite c.beat c.mask c.endMark) ∧
      (c.kind = .evict ∨ c.kind = .probeWb → y.work = .hEvict c.beat) ∧
      (c.kind ≠ .read → c.kind ≠ .lread →
        y.phase = .dataIn ∧ t.mp = s.mp ∧ t.hp.lockSet = s.hp.lockSet ∧ t.tt.locks = s.tt.locks ∧
        (c.held = [] → y.mask = 0#32) ∧
        ((c.held.map Prod.fst).Nodup → ∀ b d, (b, d) ∈ c.held → beatAt y.buf b = d)) ∧
      (c.kind = .read ∨ c.kind = .lread →
        (y.work.isLocked = false → s.lockOf c.line = none →
          y.phase = .memWait ∧ t.mp = { s.mp with waiting := joinTail s.mp.waiting i } ∧ t.hp.lockSet = s.hp.lockSet ∧
          s.LockBecomes t c.line (some { line := c.line, holder := .txn i, waiters := [] })) ∧
        (y.work.isLocked = true → s.lockOf c.line = none → c.line ∉ s.hp.lockSet → s.hp.lockSet.length < 2 →
          y.phase = .memWait ∧ t.mp = { s.mp with waiting := joinTail s.mp.waiting i } ∧
          t.hp.lockSet = s.hp.lockSet ++ [c.line] ∧
          s.LockBecomes t c.line (some { line := c.line, holder := .hostSet, waiters := [] })) ∧
        (y.work.isLocked = true → c.line ∈ s.hp.lockSet →
          y.phase = .memWait ∧ t.mp = { s.mp with waiting := joinTail s.mp.waiting i } ∧ t.hp.lockSet = s.hp.lockSet ∧
          t.tt.locks = s.tt.locks))

/-- R33, R38: a READ, a FILL, an LREAD whose line is not in the host lock set, or a request, admitted on a locked line joins
the tail of the line's wait list in LOCK_WAIT, whoever holds the line; it makes no lookup, and nothing else changes but what
its admission does. Nothing is said of the bytes of its buffer. -/
def Obligations.ALockedLineIsWaitedFor : Prop :=
  (∀ (s : State) (c : Cycle) (i : EntryIx) (r : LockRec), s.Running → s.Quiet → s.Claims c → s.LowestFree i →
    c.held = [] → s.lockOf c.line = some r →
    (c.kind = .read ∨ c.kind = .fill ∨ (c.kind = .lread ∧ (s.hp.broken = true ∨ c.line ∉ s.hp.lockSet))) →
    ∃ t w y, exec .admissionGrant s = .next t ∧
      t = { s with hp := t.hp, tt := t.tt, out := [] } ∧
      t.hp = { s.hp with
        cycle := some { c with standing := .served i, held := [] }
        lockTimer := if w.isLocked then none else s.hp.lockTimer } ∧
      t.tt = { s.tt with entries := t.tt.entries, locks := t.tt.locks } ∧
      s.TxnBecomes t i (some y) ∧ y = { Txn.fresh w c.line .lockWait with buf := y.buf } ∧
      (c.kind = .read → w = .hRead c.beat c.mask) ∧ (c.kind = .fill → w = .hFill c.beat) ∧
      (c.kind = .lread → w = if s.hp.broken then .hRead c.beat c.mask else .hLread c.beat c.mask) ∧
      s.LockBecomes t c.line (some { r with waiters := joinTail r.waiters i })) ∧
  ∀ (s : State) (p : PortIx) (i : EntryIx) (r : Accepted) (rest : List Accepted) (k : LockRec), s.Running → s.Quiet →
    s.PortClaims p r rest → s.LowestFree i → s.lockOf r.line = some k →
    ∃ t y, exec .admissionGrant s = .next t ∧
      t = { s with rp := t.rp, tt := t.tt, out := [] } ∧
      s.PortBecomes t p { s.port p with ingress := rest } ∧
      t.tt = { s.tt with entries := t.tt.entries, locks := t.tt.locks, roundRobin := p } ∧
      s.TxnBecomes t i (some y) ∧ y = { Txn.fresh (r.toWork p) r.line .lockWait with buf := y.buf } ∧
      s.LockBecomes t r.line (some { k with waiters := joinTail k.waiters i })

/-- R8 to R12, R82, R90: a FILL of an unlocked line looks up as it is admitted. With no sweep running, a cacheable policy in
COHERENT mode and the line not quarantined, it re-reserves the line's entry at age 0, or makes one, RESERVED, at age 0 in the
lowest free way; on a full set it is declined under DECLINE, and under DISPLACE when no entry can be the victim. It is
declined too while a sweep runs, outside COHERENT mode, on a quarantined line and by the policy UNCACHED. A declined fill is
counted and changes no entry. In each case it waits for memory. -/
def Obligations.FillIsReservedOrDeclined : Prop :=
  ∀ (s : State) (c : Cycle) (i : EntryIx) (es : List DirEntry) (declined : BitVec 32), s.Running → s.Quiet →
    s.Claims c → c.kind = .fill → s.LowestFree i → s.lockOf c.line = none → s.FillDecides c.line es declined →
    ∃ t y, exec .admissionGrant s = .next t ∧
      t = { s with
        pd := t.pd, hp := t.hp, tt := t.tt, mp := { s.mp with waiting := joinTail s.mp.waiting i }, ev := t.ev, out := [] } ∧
      s.SetBecomes t (setOf c.line) es ∧
      t.hp = { s.hp with cycle := some { c with standing := .served i, held := [] } } ∧
      t.tt = { s.tt with entries := t.tt.entries, locks := t.tt.locks } ∧
      t.ev = { s.ev with counters := { s.ev.counters with
        declinedFills := s.ev.counters.declinedFills + declined } } ∧
      s.TxnBecomes t i (some y) ∧ y.work = .hFill c.beat ∧ y.line = c.line ∧ y.phase = .memWait ∧
      y.snapshot = some (s.rm.resolve c.line) ∧
      s.LockBecomes t c.line (some { line := c.line, holder := .txn i, waiters := [] })

/-- R12, R13, R58: an admissible FILL that meets a full set under DISPLACE chooses the oldest entry that is HELD, not locked
and not quarantined, and enters WAY_WAIT; with entry 11 free the recall starts there with the victim's lock, and its
INVALIDATE probe goes out at once on an idle channel and waits at the tail of the probe queue (R57) otherwise. R13, R14: with
entry 11 busy the fill joins the tail of the recall wait list, and no victim is held for it. -/
def Obligations.FullSetStartsADisplacementRecall : Prop :=
  ∀ (s : State) (c : Cycle) (i : EntryIx) (p : EntryPolicy) (v : DirEntry) (newer older : List DirEntry), s.Running →
    s.Quiet → s.msc.sweep.phase = .stopped → s.Claims c → c.kind = .fill → s.LowestFree i →
    s.lockOf c.line = none → s.msc.mode = .coherent → s.isQuarantined c.line = false →
    (s.rm.resolve c.line).policy.entryPolicy = some p → s.findEntry c.line = none →
    (∀ w : Way, ∃ e ∈ s.dirSet c.line, e.way = w) → s.pd.admitPolicy = .displace →
    s.dirSet c.line = newer ++ v :: older → setOf v.line = setOf c.line → s.Recallable v →
    (∀ e ∈ older, ¬ s.Recallable e) →
    (s.isHeld v.line = true → s.txn recallEntry = none →
      ∃ t y z, exec .admissionGrant s = .next t ∧
        t = { s with hp := t.hp, tt := t.tt, pu := t.pu, ev := t.ev, out := t.out } ∧
        t.hp = { s.hp with cycle := some { c with standing := .served i, held := [] } } ∧
        t.tt = { s.tt with entries := t.tt.entries, locks := t.tt.locks } ∧
        t.txn i = some y ∧ t.txn recallEntry = some z ∧
        (∀ j, j ≠ i → j ≠ recallEntry → t.txn j = s.txn j) ∧
        y.work = .hFill c.beat ∧ y.line = c.line ∧ y.phase = .wayWait ∧
        z.work = .recall .displace ∧ z.line = v.line ∧ z.probeMode = some .invalidate ∧ z.link = some i ∧
        t.lockOf c.line = some { line := c.line, holder := .txn i, waiters := [] } ∧
        t.lockOf v.line = some { line := v.line, holder := .txn recallEntry, waiters := [] } ∧
        (∀ l, l ≠ c.line → l ≠ v.line → t.lockOf l = s.lockOf l) ∧
        s.RecallAsksProbe t v.line z.phase [] []) ∧
    ((s.txn recallEntry).isSome = true → ∃ t y, exec .admissionGrant s = .next t ∧
      t = { s with hp := t.hp, tt := t.tt, out := [] } ∧
      t.hp = { s.hp with cycle := some { c with standing := .served i, held := [] } } ∧
      t.tt = { s.tt with
        entries := t.tt.entries, locks := t.tt.locks, recallWait := joinTail s.tt.recallWait i } ∧
      s.TxnBecomes t i (some y) ∧ y.work = .hFill c.beat ∧ y.line = c.line ∧ y.phase = .wayWait ∧
      y.snapshot = some (s.rm.resolve c.line) ∧
      s.LockBecomes t c.line (some { line := c.line, holder := .txn i, waiters := [] }))

/-- R45 to R47: with no host cycle claiming an entry, the ports are offered in turn from the one after the port granted last;
the head of the first that can claim gets the lowest free general entry and an unlocked line's lock. R91, R127: refused by no
check, it waits for memory when its region is not coherent, the mode is not COHERENT, or the directory calls for no probe;
R30: an R_WRITE then has its bytes under its mask in its buffer, with exactly those positions set. Nothing is said of the
buffer's other bytes. R55, R58: on a line it finds HELD in COHERENT mode a write or atomic is probed with INVALIDATE and a
read of a WB line with KEEP, at once when the channel is idle and from the tail of the probe queue (R57) otherwise. -/
def Obligations.RequesterIsAdmittedInTurnAndProbed : Prop :=
  ∀ (s : State) (p : PortIx) (i : EntryIx) (r : Accepted) (rest : List Accepted), s.Running → s.Quiet →
    s.PortClaims p r rest → s.LowestFree i → s.lockOf r.line = none →
    s.checksResult (r.toWork p).kind p r.line = .ok →
    (s.NeedsNoProbe (r.toWork p).kind r.line →
      ∃ (t : State) (x y : Txn), exec .admissionGrant s = .next t ∧
        t = { s with rp := t.rp, tt := t.tt, mp := { s.mp with waiting := joinTail s.mp.waiting i }, out := [] } ∧
        s.PortBecomes t p { s.port p with ingress := rest } ∧
        t.tt = { s.tt with entries := t.tt.entries, locks := t.tt.locks, roundRobin := p } ∧
        s.TxnBecomes t i (some y) ∧ x.EnteredMemWait y ∧
        x = { Txn.fresh (r.toWork p) r.line .memWait with
          buf := x.buf, snapshot := some (s.rm.resolve r.line), dirResult := x.dirResult } ∧
        s.LockBecomes t r.line (some { line := r.line, holder := .txn i, waiters := [] })) ∧
    ∀ m : ProbeMode, s.NeedsProbe (r.toWork p).kind r.line m → s.NoneAttaches r.line →
      ∃ t y, exec .admissionGrant s = .next t ∧
        t = { s with rp := t.rp, tt := t.tt, pu := t.pu, ev := t.ev, out := t.out } ∧
        s.PortBecomes t p { s.port p with ingress := rest } ∧
        t.tt = { s.tt with entries := t.tt.entries, locks := t.tt.locks, roundRobin := p } ∧
        s.TxnBecomes t i (some y) ∧
        y = { Txn.fresh (r.toWork p) r.line y.phase with
          buf := y.buf, snapshot := some (s.rm.resolve r.line), dirResult := y.dirResult, probeMode := some m } ∧
        s.LockBecomes t r.line (some { line := r.line, holder := .txn i, waiters := [] }) ∧
        (s.pu.channel = .idle →
          y.phase = .probing ∧ t.out = [.probe r.line m] ∧
          t.pu = { s.pu with channel := .outstanding i r.line m s.pu.probeLimit.toNat } ∧
          t.ev = { s.ev with counters := { s.ev.counters with probes := s.ev.counters.probes + 1#32 } }) ∧
        (s.pu.channel ≠ .idle →
          y.phase = .probeQueued ∧ t.out = [] ∧ t.pu = { s.pu with queue := joinTail s.pu.queue i } ∧ t.ev = s.ev)

/-- R92, R34, R36: a requester transaction refused at its lookup, by the first check that fails, is answered at once with
the check's result and no data; its entry and its line's lock are free again, no probe and no memory request is made, and
ACCESS_DENIED and ATOMIC_REFUSED raise their event with a record. -/
def Obligations.RefusalAtLookupAnswersAtOnce : Prop :=
  ∀ (s : State) (p : PortIx) (i : EntryIx) (r : Accepted) (rest : List Accepted) (code : ResultCode), s.Running →
    s.Quiet → s.PortClaims p r rest → s.LowestFree i → s.lockOf r.line = none →
    code = s.checksResult (r.toWork p).kind p r.line → code ≠ .ok →
    ∃ t, exec .admissionGrant s = .next t ∧
      t = { s with rp := t.rp, tt := t.tt, ev := t.ev, out := [] } ∧
      s.PortBecomes t p { s.port p with
        ingress := rest, responses := (s.port p).responses ++ [{ tag := r.tag, result := code, data := .none }] } ∧
      t.tt = { s.tt with entries := t.tt.entries, locks := t.tt.locks, roundRobin := p } ∧
      (∀ j, t.txn j = s.txn j) ∧ (∀ l, t.lockOf l = s.lockOf l) ∧
      (code = .accessDenied → s.ev.Reported
        { kind := .accessDenied, issuer := .rp p, line := r.line, txnKind := (r.toWork p).kind, tag := some r.tag } t.ev) ∧
      (code = .atomicRefused → s.ev.Reported
        { kind := .atomicRefused, issuer := .rp p, line := r.line, txnKind := (r.toWork p).kind, tag := some r.tag } t.ev) ∧
      (code = .quarantined ∨ code = .bridgeFaulted → t.ev = s.ev)

/-! ### Probe answers and timers -/

/-- R60, R61: on MISS the line's entry is removed in either mode, on CLEAN only with INVALIDATE; the channel is IDLE, the
answer is recorded, and a requester transaction waits for memory, an R_WRITE with its own bytes in its buffer (R30). R68: with
an eviction or PROBE_WB attached every answer is taken as DIRTY with the data taken, and PROBES_DIRTY counts a DIRTY alone.
With the four beats in, the data of a requester transaction or a RECALL has been taken: INVALIDATE removes the line's entry,
KEEP leaves the directory as it is, and the transaction waits for memory; with fewer it waits in PROBING on an idle channel.
That the record keeps the answer that was given is the model's reading (log 31). -/
def Obligations.MissAndCleanSettleTheEntry : Prop :=
  (∀ (s : State) (i : EntryIx) (x : Txn), s.Running → s.Quiet → s.Probes i x → i ≠ recallEntry →
    x.work.isRecall = false → s.NotAttached i →
    ∀ c a, (c, a) ∈ [(Instr.probeAnswerMiss, Answer.miss), (.probeAnswerClean, .clean)] →
      ∃ t y, exec c s = .next t ∧
        t = { s with pd := t.pd, pu := { s.pu with channel := .idle }, tt := { s.tt with entries := t.tt.entries },
                     mp := { s.mp with waiting := joinTail s.mp.waiting i }, out := [] } ∧
        s.TxnBecomes t i (some y) ∧ { x with answer := some a }.EnteredMemWait y ∧
        ((a = .miss ∨ x.probeMode = some .invalidate) →
          s.SetBecomes t (setOf x.line) ((s.dirSet x.line).filter fun e => e.line != x.line)) ∧
        (a = .clean → x.probeMode ≠ some .invalidate → t.pd = s.pd)) ∧
  ∀ (s : State) (i : EntryIx) (x : Txn) (c : Cycle), s.Running → s.Quiet → s.Feeds c i x →
    (∃ l m n, s.pu.channel = .outstanding i l m n) → s.pu.queue = [] → x.phase = .probing →
    ((i ≠ recallEntry ∧ x.work.port?.isSome = true) ∨ (i = recallEntry ∧ x.work.isRecall = true ∧ x.link = none)) →
    ∀ k a, (k, a) ∈ [(Instr.probeAnswerMiss, Answer.miss), (.probeAnswerClean, .clean), (.probeAnswerDirty, .dirty)] →
      ∃ t y, exec k s = .next t ∧
        t = { s with pd := t.pd, pu := { s.pu with channel := .idle }, tt := { s.tt with entries := t.tt.entries },
                     mp := t.mp, ev := t.ev, out := [] } ∧
        t.ev = { s.ev with counters := { s.ev.counters with
          probesDirty := s.ev.counters.probesDirty + (if a = .dirty then 1#32 else 0#32) } } ∧
        s.TxnBecomes t i (some y) ∧
        (x.wbData = false → y = { x with answer := some a } ∧ t.pd = s.pd ∧ t.mp = s.mp) ∧
        (x.wbData = true → x.mask = BitVec.allOnes 32 →
          t.mp = { s.mp with waiting := joinTail s.mp.waiting i } ∧ { x with answer := some a }.TookData y x.buf ∧
          (x.probeMode = some .invalidate →
            s.SetBecomes t (setOf x.line) ((s.dirSet x.line).filter fun e => e.line != x.line)) ∧
          (x.probeMode ≠ some .invalidate → t.pd = s.pd))

/-- R60, R61, R36: a RECALL answered MISS or CLEAN ends: its victim's entry is removed, entry 11 and the line are free. R16:
the fill its link names takes the freed way at that moment and waits for memory, or is declined, the way staying free, when
the mode is no longer COHERENT. R15, R48: with no link, entry 11 goes to the head of the recall wait list, which is decided
again: it takes a free way, or chooses a victim, whose recall starts in entry 11. -/
def Obligations.RecallEndsAndHandsOver : Prop :=
  ∀ (s : State) (x : Txn) (e : DirEntry) (left : List DirEntry), s.Running → s.Probes recallEntry x →
    x.work.isRecall = true → x.probeMode = some .invalidate → s.NotAttached recallEntry →
    s.HoldsAlone recallEntry x.line → s.msc.sweep.phase = .stopped → (∀ p, (s.port p).state ≠ .draining) →
    s.findEntry x.line = some e → left = (s.dirSet x.line).filter (fun e' => e'.line != x.line) →
    ∀ c ∈ [Instr.probeAnswerMiss, .probeAnswerClean],
    (x.link = none → s.tt.recallWait = [] → ∃ t, exec c s = .next t ∧
      t = { s with pd := t.pd, pu := { s.pu with channel := .idle }, tt := t.tt, out := [] } ∧
      t.tt = { s.tt with entries := t.tt.entries, locks := t.tt.locks } ∧ s.SetBecomes t (setOf x.line) left ∧
      s.TxnBecomes t recallEntry none ∧ s.LockBecomes t x.line none) ∧
    (∀ f z a p, x.link = some f → f ≠ recallEntry → s.tt.recallWait = [] → s.txn f = some z → z.work.kind = .hFill →
      z.snapshot = some a → a.policy.entryPolicy = some p → setOf z.line = setOf x.line → s.findEntry z.line = none →
      (∀ e' ∈ s.dirSet x.line, e'.way = e.way → e'.line = x.line) →
      ∃ t, exec c s = .next t ∧
        t = { s with pd := t.pd, pu := { s.pu with channel := .idle }, tt := t.tt, ev := t.ev,
                     mp := { s.mp with waiting := joinTail s.mp.waiting f }, out := [] } ∧
        t.tt = { s.tt with entries := t.tt.entries, locks := t.tt.locks } ∧
        t.txn recallEntry = none ∧ t.txn f = some { z with phase := .memWait } ∧
        (∀ j, j ≠ f → j ≠ recallEntry → t.txn j = s.txn j) ∧ s.LockBecomes t x.line none ∧
        (s.msc.mode = .coherent → t.ev = s.ev ∧ s.SetBecomes t (setOf x.line)
          ({ way := e.way, line := z.line, state := .reserved, policy := p } :: left)) ∧
        (s.msc.mode ≠ .coherent → s.SetBecomes t (setOf x.line) left ∧ t.ev = { s.ev with
          counters := { s.ev.counters with declinedFills := s.ev.counters.declinedFills + 1#32 } })) ∧
    ∀ f z a p, x.link = none → f ≠ recallEntry → s.txn f = some z → z.work.kind = .hFill → z.snapshot = some a →
      a.policy.entryPolicy = some p → s.msc.mode = .coherent → s.isQuarantined z.line = false →
      s.findEntry z.line = none →
      (∀ w, s.tt.recallWait = [f] → setOf z.line = setOf x.line → (∀ e' ∈ left, e'.way ≠ w) →
        (∀ v : Way, v < w → ∃ e' ∈ left, e'.way = v) →
        ∃ t, exec c s = .next t ∧
          t = { s with pd := t.pd, pu := { s.pu with channel := .idle }, tt := t.tt,
                       mp := { s.mp with waiting := joinTail s.mp.waiting f }, out := [] } ∧
          t.tt = { s.tt with entries := t.tt.entries, locks := t.tt.locks, recallWait := [] } ∧
          t.txn recallEntry = none ∧ t.txn f = some { z with phase := .memWait } ∧
          (∀ j, j ≠ f → j ≠ recallEntry → t.txn j = s.txn j) ∧ s.LockBecomes t x.line none ∧
          s.SetBecomes t (setOf x.line) ({ way := w, line := z.line, state := .reserved, policy := p } :: left)) ∧
      ∀ (rest : List EntryIx) (newer : List DirEntry) (v : DirEntry) (older : List DirEntry),
        s.DirectoryKept → s.tt.recallWait = f :: rest → setOf z.line ≠ setOf x.line →
        (∀ w : Way, ∃ e' ∈ s.dirSet z.line, e'.way = w) → s.pd.admitPolicy = .displace →
        s.dirSet z.line = newer ++ v :: older → setOf v.line = setOf z.line → s.Recallable v →
        (∀ e' ∈ older, ¬ s.Recallable e') → s.isHeld v.line = true → s.NoneAttaches v.line →
        ∃ t y, exec c s = .next t ∧
          t = { s with pd := t.pd, pu := t.pu, tt := t.tt, ev := t.ev, out := [.probe v.line .invalidate] } ∧
          t.pu = { s.pu with channel := .outstanding recallEntry v.line .invalidate s.pu.probeLimit.toNat } ∧
          t.tt = { s.tt with entries := t.tt.entries, locks := t.tt.locks, recallWait := rest } ∧
          t.ev = { s.ev with counters := { s.ev.counters with
            recalls := s.ev.counters.recalls + 1#32, probes := s.ev.counters.probes + 1#32 } } ∧
          s.SetBecomes t (setOf x.line) left ∧
          t.txn recallEntry = some y ∧ y.work = .recall .displace ∧ y.line = v.line ∧ y.phase = .probing ∧
          y.link = some f ∧ t.txn f = some { z with phase := .wayWait } ∧
          (∀ j, j ≠ f → j ≠ recallEntry → t.txn j = s.txn j) ∧ t.lockOf x.line = none ∧
          t.lockOf v.line = some { line := v.line, holder := .txn recallEntry, waiters := [] } ∧
          ∀ l, l ≠ x.line → l ≠ v.line → t.lockOf l = s.lockOf l

/-- R62, R75: on DIRTY with no cycle on the bus and no write-back attached, PROBES_DIRTY counts, the transaction enters
WB_WAIT and its write-back timer runs from WB_LIMIT; the line's entry is left as it is. R70, R115: a cycle that is still
CLAIMING is retracted: the processor is told, the bus carries no cycle, RETRACTS counts and the timer runs; the lock timer,
the host lock set and the mark are unchanged. -/
def Obligations.DirtyAwaitsTheWritebackAndRetracts : Prop :=
  ∀ (s : State) (i : EntryIx) (x : Txn), s.Running → s.Quiet → s.Probes i x →
    (s.hp.cycle = none → ∃ t, exec .probeAnswerDirty s = .next t ∧
      t = { s with tt := { s.tt with entries := t.tt.entries }, pu := { s.pu with channel := .idle }, ev := t.ev,
                   out := [] } ∧
      t.ev = { s.ev with counters := { s.ev.counters with probesDirty := s.ev.counters.probesDirty + 1#32 } } ∧
      s.TxnBecomesBusEmpty t i (some { x with
        phase := .wbWait, answer := some .dirty, wbTimer := some (.running s.pu.wbLimit.toNat) })) ∧
    ∀ c, s.Claims c → c.given = 0 → ∃ t, exec .probeAnswerDirty s = .next t ∧
      t = { s with
        tt := { s.tt with entries := t.tt.entries }
        pu := { s.pu with channel := .idle }
        hp := { s.hp with cycle := none }
        ev := t.ev
        out := [.retract] } ∧
      t.ev = { s.ev with counters := { s.ev.counters with
        probesDirty := s.ev.counters.probesDirty + 1#32, retracts := s.ev.counters.retracts + 1#32 } } ∧
      s.TxnBecomesBusEmpty t i (some { x with
        phase := .wbWait, answer := some .dirty, wbTimer := some (.running s.pu.wbLimit.toNat) })

/-- R49, R70, R115: a DIRTY answer retracts a SERVED cycle of which no beat is acknowledged or delivered, unless it is a locked
cycle working under the host lock set. Its transaction is withdrawn as its phase asks: one in DATA_IN is freed; one in
LOCK_WAIT leaves its wait list; one in WAY_WAIT, MEM_WAIT or DATA_OUT is freed, leaves the waiting order and gives up its
line; one in MEM_BUSY is marked abandoned and keeps entry and lock. R18: a fill's RESERVED entry, its place in the recall wait
list and the for-fill link to it go. R111: the lock timer starts with a locked kind and a set that is not empty. R71: the other
cycles stay, and the timer of the answered transaction stays PENDING, but counts behind a host write of its own line. That
an LWRITE of a line in the set is retracted while it has made no lookup is the model's reading (log 21). -/
def Obligations.RetractWithdrawsAServedCycle : Prop :=
  ∀ (s : State) (i j : EntryIx) (x z : Txn) (c : Cycle), s.Running → s.Quiet → s.Probes i x → j ≠ i →
    (s.Carries c j z → j ≠ recallEntry → z.work.isHost = true → c.given = 0 →
      (z.work.isLocked = true → z.line ∈ s.hp.lockSet → z.phase = .dataIn ∨ z.phase = .lockWait) →
      z.phase ∈ [.dataIn, .lockWait, .wayWait, .memWait, .memBusy, .dataOut] →
      (z.phase ∈ [.wayWait, .memWait, .dataOut] → s.HoldsAlone j z.line) →
      ∀ fill : Bool, fill = decide (z.work.kind = .hFill ∧ z.phase ≠ .dataIn ∧ z.phase ≠ .lockWait) →
      ∃ t, exec .probeAnswerDirty s = .next t ∧
        t = { s with pd := t.pd, tt := t.tt, pu := { s.pu with channel := .idle }, hp := t.hp, mp := t.mp, ev := t.ev,
                     out := [.retract] } ∧
        t.hp = { s.hp with
          cycle := none
          lockTimer := if z.work.isLocked = true ∧ s.hp.lockSet ≠ [] then some s.hp.lockLimit.toNat else s.hp.lockTimer } ∧
        t.ev = { s.ev with counters := { s.ev.counters with
          probesDirty := s.ev.counters.probesDirty + 1#32, retracts := s.ev.counters.retracts + 1#32 } } ∧
        t.tt = { s.tt with
          entries := t.tt.entries
          locks := t.tt.locks
          recallWait := if fill then s.tt.recallWait.filter fun k => k != j else s.tt.recallWait } ∧
        t.txn i = some { (if fill ∧ i = recallEntry then x.unlinked j else x) with
          phase := .wbWait, answer := some .dirty, wbTimer := some (.running s.pu.wbLimit.toNat) } ∧
        t.txn j = (if z.phase = .memBusy then
          some { (z.timerStarted s.pu.wbLimit.toNat) with abandoned := true } else none) ∧
        (∀ k, k ≠ i → k ≠ j → t.txn k = (s.txn k).map fun y =>
          if fill ∧ k = recallEntry then (y.timerStarted s.pu.wbLimit.toNat).unlinked j
          else y.timerStarted s.pu.wbLimit.toNat) ∧
        (fill = true → s.isReserved z.line = true →
          s.SetBecomes t (setOf z.line) ((s.dirSet z.line).filter fun e => e.line != z.line)) ∧
        (fill = false ∨ s.isReserved z.line = false → t.pd = s.pd) ∧
        (z.phase ∈ [.dataIn, .lockWait, .memBusy] → t.mp = s.mp) ∧
        (z.phase ∈ [.dataIn, .memBusy] → t.tt.locks = s.tt.locks) ∧
        (∀ r, z.phase = .lockWait → s.lockOf z.line = some r →
          s.LockBecomes t z.line (some { r with waiters := r.waiters.filter fun k => k != j })) ∧
        (z.phase ∈ [.wayWait, .memWait, .dataOut] →
          t.mp = { s.mp with waiting := s.mp.waiting.filter fun k => k != j } ∧ s.LockBecomes t z.line none)) ∧
    ((s.Carries c j z ∧ (c.given ≠ 0 ∨ (z.work.isLocked = true ∧ z.line ∈ s.hp.lockSet ∧
          z.phase ∈ [.memWait, .memBusy, .dataOut]))) ∨ s.Feeds c j z →
      ∃ t, exec .probeAnswerDirty s = .next t ∧
        t = { s with tt := { s.tt with entries := t.tt.entries }, pu := { s.pu with channel := .idle }, ev := t.ev,
                     out := [] } ∧
        t.ev = { s.ev with counters := { s.ev.counters with probesDirty := s.ev.counters.probesDirty + 1#32 } } ∧
        s.TxnBecomes t i (some { x with
          phase := .wbWait
          answer := some .dirty
          wbTimer := some (if c.standing = .served j ∧ z.phase = .lockWait ∧ z.line = x.line ∧
              z.work.kind ∈ [.hWrite, .hLwrite, .hEvict] then .pendingCounting s.pu.wbLimit.toNat else .pending) }))

/-- R63: an answer with no probe outstanding is discarded and raises LATE_ANSWER; nothing else changes, whether the channel
is QUIET or IDLE. That the expiry of a timer that does not count has no effect at all is the model's choice (log 5). -/
def Obligations.LateAnswersAndStaleExpiries : Prop :=
  (∀ (s : State) (c : Instr), s.Running → (∀ i l m n, s.pu.channel ≠ .outstanding i l m n) →
    c ∈ [.probeAnswerMiss, .probeAnswerClean, .probeAnswerDirty] →
    exec c s = .next { s with ev := { s.ev with flags := s.ev.flags ||| 0x8000#17 }, out := [] }) ∧
  ∀ s : State, s.Running →
    ((∀ i l m n, s.pu.channel ≠ .outstanding i l m n) → exec .answerTimerExpiry s = .next { s with out := [] }) ∧
    ((∀ n, s.pu.channel ≠ .quiet n) → exec .quietTimerExpiry s = .next { s with out := [] }) ∧
    (∀ i, (∀ x n, s.txn i = some x → x.wbTimer ≠ some (.running n) ∧ x.wbTimer ≠ some (.pendingCounting n)) →
      exec (.wbTimerExpiry i) s = .next { s with out := [] }) ∧
    (s.hp.lockTimer = none → exec .lockTimerExpiry s = .next { s with out := [] })

/-- R72, R76, R132, R179: when the answer timer expires the channel is QUIET for PROBE_LIMIT, PROBE_TIMEOUT is reported, the
line joins the end of a quarantine table with room, and a requester transaction is answered PROBE_TIMEOUT, its entry and
lock freed; the directory is unchanged. R38, R92: the requests that wait for the line become its holder in turn, and each is
refused QUARANTINED at its lookup, answered and freed, until the line is unlocked. R73: a write-back timer that counts does
the same with the cause WRITEBACK_TIMEOUT, the probe channel left as it is. R68: an eviction attached to the transaction is
handed back, holding the beats taken so far, and claims a general entry; that it is so at the write-back timer's expiry as
well is the model's reading (log 22). -/
def Obligations.TimeoutsQuarantineTheLine : Prop :=
  ∀ (s : State) (i : EntryIx) (x : Txn) (p : PortIx) (g : Tag) (ws : List EntryIx) (c : Instr) (cause : QuarCause)
      (channel : Channel),
    s.Running → s.Quiet → s.txn i = some x → i ≠ recallEntry → x.work.port? = some p → x.work.tag? = some g →
    s.lockOf x.line = some { line := x.line, holder := .txn i, waiters := ws } → ws.Nodup → i ∉ ws →
    (∀ j ∈ ws, j ≠ recallEntry ∧ ∃ y, s.txn j = some y ∧ y.line = x.line ∧ y.work.port?.isSome = true) →
    s.isQuarantined x.line = false → s.msc.quarantine.length < 8 →
    ((∃ l m n, s.pu.channel = .outstanding i l m n ∧ c = .answerTimerExpiry ∧ cause = .answerTimeout ∧
        channel = .quiet s.pu.probeLimit.toNat) ∨
     (∃ n, (x.wbTimer = some (.running n) ∨ x.wbTimer = some (.pendingCounting n)) ∧ c = .wbTimerExpiry i ∧
        cause = .writebackTimeout ∧ channel = s.pu.channel)) →
    ∃ t, exec c s = .next t ∧
      t = { s with
        tt := t.tt
        pu := { s.pu with channel := channel }
        rp := t.rp
        hp := t.hp
        msc := { s.msc with
          quarantine := s.msc.quarantine ++ [{ line := x.line, cause := cause, late := false }] }
        ev := t.ev
        out := [] } ∧
      t.tt = { s.tt with entries := t.tt.entries, locks := t.tt.locks } ∧
      (∀ j ∈ i :: ws, t.txn j = none) ∧ (∀ j, j ∉ i :: ws → t.txn j = s.txn j) ∧ s.LockBecomes t x.line none ∧
      (∀ q, t.port q = { s.port q with responses := (s.port q).responses ++
        (if q = p then [{ tag := g, result := .probeTimeout, data := .none }] else []) ++
        (s.answersOf q .quarantined ws) }) ∧
      s.ev.Reported
        { kind := .probeTimeout, issuer := .rp p, line := x.line, txnKind := x.work.kind, tag := some g } t.ev ∧
      (s.NotAttached i → t.hp = s.hp) ∧
      ∀ k, s.hp.cycle = some k → k.standing = .attached i → t.hp = { s.hp with cycle := some { k with
        standing := .claiming, held := k.taken.map fun b => (b, beatAt x.buf b) } }

/-- R17, R72: a RECALL whose probe times out ends as well, its line quarantined and its victim's entry left; the fill its link
names is declined, counted, and waits for memory. R76, R169, R179: with 8 records in the table the line is not recorded,
QUARANTINE_FULL is reported behind PROBE_TIMEOUT (R187), and a bridge that is COHERENT enters FAULTED: every member of the
probe queue leaves it, a requester transaction answered BRIDGE_FAULTED, a RECALL ended with the fill its link names declined;
a running sweep ends with SWEEP_DONE, remaining the number of entries, one of origin SET_MODE with SWEEP_INCOMPLETE as well
(R177). One that is in FAULTED already keeps its queue. That the members' responses stand before the timed-out transaction's
own on a shared port is the model's choice (log 38). -/
def Obligations.TimeoutOfARecallAndEntryIntoFaulted : Prop :=
  (∀ (s : State) (x : Txn) (l : Line) (m : ProbeMode) (n : Nat), s.Running →
    s.pu.channel = .outstanding recallEntry l m n → s.txn recallEntry = some x → x.work.isRecall = true →
    s.NotAttached recallEntry → s.HoldsAlone recallEntry x.line → s.isQuarantined x.line = false →
    s.msc.quarantine.length < 8 → s.msc.sweep.phase = .stopped → s.tt.recallWait = [] →
    (∀ p, (s.port p).state ≠ .draining) →
    ∃ t e, exec .answerTimerExpiry s = .next t ∧
      t = { s with
        tt := t.tt
        mp := t.mp
        pu := { s.pu with channel := .quiet s.pu.probeLimit.toNat }
        msc := { s.msc with
          quarantine := s.msc.quarantine ++ [{ line := x.line, cause := .answerTimeout, late := false }] }
        ev := t.ev
        out := [] } ∧
      t.tt = { s.tt with entries := t.tt.entries, locks := t.tt.locks } ∧ t.txn recallEntry = none ∧
      s.LockBecomes t x.line none ∧
      s.ev.Reported { kind := .probeTimeout, issuer := .internal, line := x.line, txnKind := .recall, tag := none } e ∧
      (x.link = none → t.ev = e ∧ t.mp = s.mp ∧ ∀ j, j ≠ recallEntry → t.txn j = s.txn j) ∧
      ∀ f z, x.link = some f → f ≠ recallEntry → s.txn f = some z → z.work.kind = .hFill →
        t.ev = { e with counters := { e.counters with declinedFills := e.counters.declinedFills + 1#32 } } ∧
        t.mp = { s.mp with waiting := joinTail s.mp.waiting f } ∧ t.txn f = some { z with phase := .memWait } ∧
        ∀ j, j ≠ recallEntry → j ≠ f → t.txn j = s.txn j) ∧
  ∀ (s : State) (i : EntryIx) (x : Txn) (p : PortIx) (g : Tag) (l : Line) (m : ProbeMode) (n : Nat), s.Running →
    s.pu.channel = .outstanding i l m n → s.txn i = some x → i ≠ recallEntry → x.work.port? = some p →
    x.work.tag? = some g → s.NotAttached i → s.HoldsAlone i x.line → s.isQuarantined x.line = false →
    8 ≤ s.msc.quarantine.length →
    ∀ r, r = { kind := .probeTimeout, issuer := .rp p, line := x.line, txnKind := x.work.kind, tag := some g } →
    (s.msc.mode = .faulted → s.Quiet → s.msc.sweep.phase = .stopped → ∃ t e, exec .answerTimerExpiry s = .next t ∧
      t = { s with tt := t.tt, rp := t.rp, pu := { s.pu with channel := .quiet s.pu.probeLimit.toNat }, ev := t.ev,
                   out := [] } ∧
      t.tt = { s.tt with entries := t.tt.entries, locks := t.tt.locks } ∧
      s.TxnBecomes t i none ∧ s.LockBecomes t x.line none ∧
      s.PortBecomes t p { s.port p with
        responses := (s.port p).responses ++ [{ tag := g, result := .probeTimeout, data := .none }] } ∧
      s.ev.Reported r e ∧ e.Reported { r with kind := .quarantineFull } t.ev) ∧
    ∀ (ks : List EntryIx) (d : Option EntryIx) (flags : BitVec 17), s.msc.mode = .coherent → s.tt.recallWait = [] →
      (∀ q, (s.port q).state ≠ .draining) → s.pu.queue = ks → ks.Nodup → i ∉ ks →
      (∀ k ∈ ks, ∃ y, s.txn k = some y ∧ s.HoldsAlone k y.line ∧
        ((k ≠ recallEntry ∧ y.work.port?.isSome = true) ∨ (k = recallEntry ∧ y.work.isRecall = true))) →
      d = (if recallEntry ∈ ks then (s.txn recallEntry).bind Txn.link else none) →
      (∀ f, d = some f → f ∉ i :: ks ∧ f ≠ recallEntry ∧ ∃ z, s.txn f = some z ∧ z.work.kind = .hFill) →
      (flags = if s.msc.sweep.phase = .stopped then 0#17
        else if s.msc.sweep.origin = .setMode then 0x1800#17 else 0x800#17) →
      ∃ t e e', exec .answerTimerExpiry s = .next t ∧
        t = { s with
          tt := t.tt
          rp := t.rp
          mp := { s.mp with waiting := d.elim s.mp.waiting (joinTail s.mp.waiting) }
          pu := { s.pu with queue := [], channel := .quiet s.pu.probeLimit.toNat }
          msc := { s.msc with mode := .faulted, sweep := s.msc.sweep.ended s.entryCount }
          mg := if s.msc.sweep.phase = .stopped then s.mg else s.mg.operationEnded
          ev := t.ev
          out := [] } ∧
        t.tt = { s.tt with entries := t.tt.entries, locks := t.tt.locks } ∧
        (∀ k ∈ i :: ks, t.txn k = none ∧ ∀ y, s.txn k = some y → t.lockOf y.line = none) ∧
        (∀ j, j ∉ i :: ks → t.txn j = if d = some j then (s.txn j).map fun z => { z with phase := .memWait }
          else s.txn j) ∧
        (∀ l', (∀ k ∈ i :: ks, ∀ y, s.txn k = some y → y.line ≠ l') → t.lockOf l' = s.lockOf l') ∧
        (∀ q, t.port q = { s.port q with responses := (s.port q).responses ++ s.answersOf q .bridgeFaulted ks ++
          (if q = p then [{ tag := g, result := .probeTimeout, data := .none }] else []) }) ∧
        s.ev.Reported r e ∧ e.Reported { r with kind := .quarantineFull } e' ∧
        t.ev = { e' with
          flags := e'.flags ||| flags
          counters := { e'.counters with
            declinedFills := e'.counters.declinedFills + (if d.isSome then 1#32 else 0#32) } }

/-- R74, R58: the end of the quiet period makes the channel IDLE; with an empty queue nothing else changes, and with a
transaction at the queue's head whose line is HELD, its probe goes out unless the mode is FAULTED. R58, R60: a head whose
entry has gone is skipped: no probe is counted, and a requester transaction waits for memory, an R_WRITE with its own bytes in
its buffer (R30). R59: a RECALL so skipped ends with no data and hands over no way: entry 11 is freed and its line unlocked,
and entry 11 goes to the fill that waits for it (R15, R48), which is decided again. R111: when the lock timer
expires, LOCK_TIMEOUT is reported with the first line of the set and the last locked kind, the set is given up, its lines
unlocked when nothing waits for them, and the broken-sequence mark is set. -/
def Obligations.QuietAndLockTimersExpire : Prop :=
  (∀ (s : State) (n : Nat), s.Running → s.Quiet → s.pu.channel = .quiet n →
    ((s.pu.queue = [] ∨ s.msc.mode = .faulted) →
      exec .quietTimerExpiry s = .next { s with pu := { s.pu with channel := .idle }, out := [] }) ∧
    (∀ (i : EntryIx) (x : Txn) (m : ProbeMode) (rest : List EntryIx), s.pu.queue = i :: rest → s.msc.mode ≠ .faulted →
      s.txn i = some x → x.probeMode = some m → s.isHeld x.line = true →
      ∃ t, exec .quietTimerExpiry s = .next t ∧
        t = { s with tt := { s.tt with entries := t.tt.entries }, pu := t.pu, ev := t.ev, out := [.probe x.line m] } ∧
        t.pu = { s.pu with queue := rest, channel := .outstanding i x.line m s.pu.probeLimit.toNat } ∧
        t.ev = { s.ev with counters := { s.ev.counters with probes := s.ev.counters.probes + 1#32 } } ∧
        s.TxnBecomes t i (some { x with phase := .probing })) ∧
    (∀ (i : EntryIx) (x : Txn), s.pu.queue = [i] → s.msc.mode ≠ .faulted → s.txn i = some x →
      x.work.port?.isSome = true → s.isHeld x.line = false →
      ∃ t y, exec .quietTimerExpiry s = .next t ∧
        t = { s with tt := { s.tt with entries := t.tt.entries }, pu := { s.pu with queue := [], channel := .idle },
                     mp := { s.mp with waiting := joinTail s.mp.waiting i }, out := [] } ∧
        s.TxnBecomes t i (some y) ∧ y.phase = .memWait ∧ y.work = x.work ∧ (x.wbData = false → x.EnteredMemWait y)) ∧
    ∀ (x : Txn), s.pu.queue = [recallEntry] → s.msc.mode ≠ .faulted → s.txn recallEntry = some x →
      x.work.isRecall = true → x.link = none → s.isHeld x.line = false → s.HoldsAlone recallEntry x.line →
      s.msc.sweep.phase = .stopped →
      (s.tt.recallWait = [] → ∃ t, exec .quietTimerExpiry s = .next t ∧
        t = { s with tt := t.tt, pu := { s.pu with queue := [], channel := .idle }, out := [] } ∧
        t.tt = { s.tt with entries := t.tt.entries, locks := t.tt.locks } ∧
        s.TxnBecomes t recallEntry none ∧ s.LockBecomes t x.line none) ∧
      ∀ f z a p w, s.tt.recallWait = [f] → f ≠ recallEntry → s.txn f = some z → z.work.kind = .hFill →
        z.snapshot = some a → a.policy.entryPolicy = some p → s.msc.mode = .coherent → s.isQuarantined z.line = false →
        s.findEntry z.line = none → (∀ e ∈ s.dirSet z.line, e.way ≠ w) →
        (∀ v : Way, v < w → ∃ e ∈ s.dirSet z.line, e.way = v) →
        ∃ t, exec .quietTimerExpiry s = .next t ∧
          t = { s with pd := t.pd, tt := t.tt, pu := { s.pu with queue := [], channel := .idle },
                       mp := { s.mp with waiting := joinTail s.mp.waiting f }, out := [] } ∧
          t.tt = { s.tt with entries := t.tt.entries, locks := t.tt.locks, recallWait := [] } ∧
          t.txn recallEntry = none ∧ t.txn f = some { z with phase := .memWait } ∧
          (∀ j, j ≠ f → j ≠ recallEntry → t.txn j = s.txn j) ∧ s.LockBecomes t x.line none ∧
          s.SetBecomes t (setOf z.line) ({ way := w, line := z.line, state := .reserved, policy := p } :: s.dirSet z.line)) ∧
  ∀ (s : State) (first : Line) (others : List Line) (k : LockedKind) (n : Nat), s.Running → s.Quiet →
    s.hp.lockTimer = some n → s.hp.lockSet = first :: others → s.hp.lastLocked = some k → (first :: others).Nodup →
    (∀ l ∈ first :: others, s.lockOf l = some { line := l, holder := .hostSet, waiters := [] }) →
    ∃ t, exec .lockTimerExpiry s = .next t ∧
      t = { s with hp := t.hp, tt := { s.tt with locks := t.tt.locks }, ev := t.ev, out := [] } ∧
      t.hp = { s.hp with lockSet := [], lockTimer := none, lastLocked := none, broken := true } ∧
      (∀ l, t.lockOf l = if l ∈ first :: others then none else s.lockOf l) ∧
      s.ev.Reported
        { kind := .lockTimeout, issuer := .hp, line := first,
          txnKind := (match k with
            | .hLread => .hLread
            | .hLwrite => .hLwrite), tag := none } t.ev

/-! ### Requester ports -/

/-- R121, R123, R126: an ENABLED port with fewer than 8 requests queued accepts a well-formed request whose tag is free: the
tag joins the tag set and the request the tail of the ingress queue; with 8 queued the port takes nothing. R133: the head of
a response queue leaves when the requester takes it, and its tag leaves the tag set, in every port state; that from an empty
queue nothing is taken, with no effect, is the model's choice (log 4). -/
def Obligations.RequestsAreQueuedAndResponsesTaken : Prop :=
  (∀ (s : State) (p : PortIx) (r : Request), s.Running → (s.port p).state = .enabled →
    (8 ≤ (s.port p).ingress.length → exec (.requestOffer p r) s = .next { s with out := [] }) ∧
    ((s.port p).ingress.length < 8 → (s.port p).tags[r.tag.val] = false →
      ∀ w : ReqWork,
        ((∃ n, r.body = .read n ∧ 1 ≤ n ∧ (offsetOf r.addr).val + n ≤ 32 ∧ w = .read (offsetOf r.addr) n) ∨
         (∃ m d, r.body = .write m d ∧ m ≠ 0#32 ∧ w = .write m d) ∨
         (∃ v, r.body = .atomic (some (.fetchAdd32 v)) ∧ (offsetOf r.addr).val % 4 = 0 ∧
           w = .atomic (offsetOf r.addr) (.fetchAdd32 v)) ∨
         (∃ v, r.body = .atomic (some (.swap64 v)) ∧ (offsetOf r.addr).val % 8 = 0 ∧
           w = .atomic (offsetOf r.addr) (.swap64 v)) ∨
         (∃ u v, r.body = .atomic (some (.compareSwap64 u v)) ∧ (offsetOf r.addr).val % 8 = 0 ∧
           w = .atomic (offsetOf r.addr) (.compareSwap64 u v))) →
        ∃ t, exec (.requestOffer p r) s = .next t ∧ t = { s with rp := t.rp, out := [] } ∧
          s.PortBecomes t p { s.port p with
            tags := (s.port p).tags.set r.tag.val true r.tag.isLt
            ingress := (s.port p).ingress ++ [{ tag := r.tag, line := lineOf r.addr, work := w }] })) ∧
  (∀ (s : State) (p : PortIx), s.Running → (s.port p).responses = [] →
    exec (.responseTaken p) s = .next { s with out := [] }) ∧
  ∀ (s : State) (p : PortIx) (r : Response) (rest : List Response), s.Running → (s.port p).responses = r :: rest →
    ∃ t, exec (.responseTaken p) s = .next t ∧ t = { s with rp := t.rp, out := [.response p r] } ∧
      s.PortBecomes t p { s.port p with
        tags := (s.port p).tags.set r.tag.val false r.tag.isLt
        responses := rest }

/-- R121 to R124: a request is refused on the handshake by the first check that fails: PORT_DISABLED by a port that is not
ENABLED, TAG_IN_USE for an outstanding tag, MALFORMED for a shape that is not well formed. The answer takes no place in any
queue, and only TAG_IN_USE and MALFORMED raise their event with a record. -/
def Obligations.RefusedRequestsAreAnsweredOnTheHandshake : Prop :=
  ∀ (s : State) (p : PortIx) (r : Request) (k : TxnKind), s.Running →
    (k = match r.body with
      | .read _ => .rRead
      | .write _ _ => .rWrite
      | .atomic _ => .rAtomic) →
    ((s.port p).state ≠ .enabled →
      exec (.requestOffer p r) s = .next { s with out := [.refusal p r.tag .portDisabled] }) ∧
    ((s.port p).state = .enabled → (s.port p).ingress.length < 8 → (s.port p).tags[r.tag.val] = true →
      ∃ t, exec (.requestOffer p r) s = .next t ∧ t = { s with ev := t.ev, out := [.refusal p r.tag .tagInUse] } ∧
        s.ev.Reported
          { kind := .tagInUse, issuer := .rp p, line := lineOf r.addr, txnKind := k, tag := some r.tag } t.ev) ∧
    ((s.port p).state = .enabled → (s.port p).ingress.length < 8 → (s.port p).tags[r.tag.val] = false →
      ((∃ n, r.body = .read n ∧ (n = 0 ∨ 32 < n ∨ 32 < (offsetOf r.addr).val + n)) ∨
       (∃ d, r.body = .write 0#32 d) ∨ r.body = .atomic none ∨
       (∃ v, r.body = .atomic (some (.fetchAdd32 v)) ∧ (offsetOf r.addr).val % 4 ≠ 0) ∨
       (∃ v, r.body = .atomic (some (.swap64 v)) ∧ (offsetOf r.addr).val % 8 ≠ 0) ∨
       (∃ u v, r.body = .atomic (some (.compareSwap64 u v)) ∧ (offsetOf r.addr).val % 8 ≠ 0)) →
      ∃ t, exec (.requestOffer p r) s = .next t ∧ t = { s with ev := t.ev, out := [.refusal p r.tag .malformed] } ∧
        s.ev.Reported
          { kind := .malformed, issuer := .rp p, line := lineOf r.addr, txnKind := k, tag := some r.tag } t.ev)

/-! ### The memory port -/

/-- R153 to R155: the head of the waiting order is issued when the controller accepts it: it leaves the order, its record
joins the tail of the outstanding queue, its transaction enters MEM_BUSY, and the request carries the line, and its data
under its mask, by the transaction's kind and by whether it has write-back data. R146, R148: an R_ATOMIC reads its line first,
and writes the bytes of its word once its operation has run. While nothing waits, or 8 requests are outstanding, no request is
offered; that nothing is then accepted, with no effect, is the model's reading (log 4). -/
def Obligations.AcceptedRequestBecomesOutstanding : Prop :=
  (∀ s : State, s.Running → (s.mp.waiting = [] ∨ 8 ≤ s.mp.outstanding.length) →
    exec .memRequestAccept s = .next { s with out := [] }) ∧
  ∀ (s : State) (i : EntryIx) (rest : List EntryIx) (x : Txn), s.Running → s.mp.waiting = i :: rest →
    s.mp.outstanding.length < 8 → s.txn i = some x →
    ∃ t o q, exec .memRequestAccept s = .next t ∧
      t = { s with tt := { s.tt with entries := t.tt.entries }, mp := { outstanding := s.mp.outstanding ++ [q],
                                                                        waiting := rest }, out := [o] } ∧
      s.TxnBecomes t i (some { x with phase := .memBusy }) ∧ q.txn = i ∧ q.line = x.line ∧
      (x.work.kind = .hRead ∨ x.work.kind = .hFill ∨ x.work.kind = .hLread →
        q.kind = .lineRead ∧ o = .lineRead x.line x.work.startBeat) ∧
      (x.work.kind = .hEvict ∨ x.work.kind = .recall ∨ (x.work.port?.isSome = true ∧ x.wbData = true) →
        q.kind = .lineWrite ∧ o = .lineWrite x.line x.buf) ∧
      (∀ b m, (x.work = .hWrite b m ∨ ∃ e, x.work = .hLwrite b m e) → q.kind = .maskedWrite ∧ q.mask = placeMask b m ∧
        o = .maskedWrite x.line (placeMask b m) (overlay zeroLine x.buf (placeMask b m))) ∧
      (∀ p g m d, x.work = .rWrite p g m d → x.wbData = false →
        q.kind = .maskedWrite ∧ q.mask = m ∧ o = .maskedWrite x.line m (overlay zeroLine x.buf m)) ∧
      (∀ p g f n, x.work = .rRead p g f n → x.wbData = false →
        q.kind = .lineRead ∧ o = .lineRead x.line (offsetBeat f)) ∧
      ∀ p g f op, x.work = .rAtomic p g f op → x.wbData = false →
        (x.outcome = none → q.kind = .lineRead ∧ o = .lineRead x.line (offsetBeat f)) ∧
        (x.outcome ≠ none → q.kind = .maskedWrite ∧
          (∀ k : Fin 32, q.mask.getLsbD k.val = decide (f.val ≤ k.val ∧ k.val < f.val + atomicWidth op)) ∧
          o = .maskedWrite x.line q.mask (overlay zeroLine x.buf q.mask))

/-- R157 to R160: the completion of the oldest request frees its slot and puts a host transaction in DATA_OUT with its result.
A read kind's LINE_READ: OK with the 32 bytes in its buffer, MEM_ERROR with MEM_READ_ERR reported and the buffer as it was. A
write kind's request gives the final acknowledgment, with the error mark only for a WRITE or LWRITE whose request failed; a
failure is reported. R110: that of an LWRITE with END, OK or ERROR, gives up every line of the set and stops the timer. That
the acknowledgment is given here, and the cycle ends and the entry is freed only when the processor has taken it, is the
model's reading (log 10). -/
def Obligations.HostCompletionsReachDataOut : Prop :=
  ∀ (s : State) (q : MemReq) (rest : List MemReq) (x : Txn) (d : LineData), s.Running → s.Quiet →
    s.mp.outstanding = q :: rest → s.txn q.txn = some x → x.abandoned = false →
    (q.kind = .lineRead → (x.work.kind = .hRead ∨ x.work.kind = .hFill ∨ x.work.kind = .hLread) →
      (∃ t, exec (.memCompletion (.ok d)) s = .next t ∧
        t = { s with tt := { s.tt with entries := t.tt.entries }, mp := { s.mp with outstanding := rest }, out := [] } ∧
        s.TxnBecomes t q.txn (some { x with
          phase := .dataOut, result := some .ok, buf := d, mask := BitVec.allOnes 32 })) ∧
      ∃ t, exec (.memCompletion .error) s = .next t ∧
        t = { s with
          tt := { s.tt with entries := t.tt.entries }
          mp := { s.mp with outstanding := rest }
          ev := t.ev
          out := [] } ∧
        s.TxnBecomes t q.txn (some { x with phase := .dataOut, result := some .memError }) ∧
        s.ev.Reported
          { kind := .memReadErr, issuer := .hp, line := x.line, txnKind := x.work.kind, tag := none } t.ev) ∧
    (q.kind ≠ .lineRead → (x.work.kind = .hWrite ∨ x.work.kind = .hEvict ∨ x.work.kind = .hLwrite) →
      (∀ b m, x.work = .hLwrite b m true → s.hp.lockSet.Nodup ∧
        ∀ l ∈ s.hp.lockSet, s.lockOf l = some { line := l, holder := .hostSet, waiters := [] }) →
      ∀ k r, (∃ d, k = .ok d ∧ r = .ok) ∨ (k = .error ∧ r = if x.work.kind = .hEvict then .ok else .memError) →
      ∃ t, exec (.memCompletion k) s = .next t ∧
        t = { s with
          tt := { s.tt with entries := t.tt.entries, locks := t.tt.locks }
          mp := { s.mp with outstanding := rest }
          hp := t.hp
          ev := t.ev
          out := [.finalAck (r != .ok)] } ∧
        s.TxnBecomes t q.txn (some { x with phase := .dataOut, result := some r }) ∧
        (k ≠ .error → t.ev = s.ev) ∧
        (k = .error → s.ev.Reported
          { kind := .memWriteErr, issuer := .hp, line := x.line, txnKind := x.work.kind, tag := none } t.ev) ∧
        ((∀ b m, x.work ≠ .hLwrite b m true) → t.tt.locks = s.tt.locks ∧ t.hp = { s.hp with
          cycle := if x.work.kind = .hEvict then s.hp.cycle.map fun c => { c with given := c.given + 1 }
            else s.hp.cycle }) ∧
        (∀ b m, x.work = .hLwrite b m true →
          t.hp = { s.hp with lockSet := [], lockTimer := none, lastLocked := none } ∧
          ∀ l, t.lockOf l = if l ∈ s.hp.lockSet then none else s.lockOf l))

/-- R128 to R130, R133, R149: the completion of an R_READ's LINE_READ, or of an R_WRITE's or R_ATOMIC's MASKED_WRITE, answers
the requester: OK, with a read's bytes in address order from its offset or an atomic's old value, or MEM_ERROR with no data and
the failure reported; entry and line are freed. So does the ERROR of an R_ATOMIC's LINE_READ, with no write made. R144 to
R146, R148: at its OK the operation runs on the line: CHANGED, it waits for memory again, now with its MASKED_WRITE;
UNCHANGED, it is answered at once with the old value. -/
def Obligations.RequesterCompletionsAreAnswered : Prop :=
  ∀ (s : State) (q : MemReq) (rest : List MemReq) (x : Txn) (d : LineData) (p : PortIx) (g : Tag), s.Running → s.Quiet →
    s.mp.outstanding = q :: rest → s.txn q.txn = some x → q.txn ≠ recallEntry → x.abandoned = false →
    s.NotAttached q.txn → s.HoldsAlone q.txn x.line →
    (((∃ f n, x.work = .rRead p g f n ∧ q.kind = .lineRead) ∨
        (∃ m w, x.work = .rWrite p g m w ∧ q.kind = .maskedWrite) ∨
        (∃ f op, x.work = .rAtomic p g f op ∧ q.kind = .maskedWrite)) →
      ∃ t v, exec (.memCompletion (.ok d)) s = .next t ∧
        t = { s with
          rp := t.rp
          tt := { s.tt with entries := t.tt.entries, locks := t.tt.locks }
          mp := { s.mp with outstanding := rest }
          out := [] } ∧
        s.TxnBecomes t q.txn none ∧ s.LockBecomes t x.line none ∧
        s.PortBecomes t p { s.port p with
          responses := (s.port p).responses ++ [{ tag := g, result := .ok, data := v }] } ∧
        (∀ f n, x.work = .rRead p g f n → v = .read ((d.toList.drop f.val).take n)) ∧
        (∀ m w, x.work = .rWrite p g m w → v = .none) ∧
        (∀ f op w, x.work = .rAtomic p g f op → x.oldValue = some w → v = .old w)) ∧
    (((∃ f n, x.work = .rRead p g f n ∧ q.kind = .lineRead) ∨
        (∃ m w, x.work = .rWrite p g m w ∧ q.kind = .maskedWrite) ∨
        (∃ f op, x.work = .rAtomic p g f op ∧ (q.kind = .lineRead ∨ q.kind = .maskedWrite))) →
      ∃ t, exec (.memCompletion .error) s = .next t ∧
        t = { s with
          rp := t.rp
          tt := { s.tt with entries := t.tt.entries, locks := t.tt.locks }
          mp := { s.mp with outstanding := rest }
          ev := t.ev
          out := [] } ∧
        s.TxnBecomes t q.txn none ∧ s.LockBecomes t x.line none ∧
        s.PortBecomes t p { s.port p with
          responses := (s.port p).responses ++ [{ tag := g, result := .memError, data := .none }] } ∧
        s.ev.Reported
          { kind := if q.kind = .lineRead then .memReadErr else .memWriteErr, issuer := .rp p, line := x.line,
            txnKind := x.work.kind, tag := some g } t.ev) ∧
    ∀ f op, x.work = .rAtomic p g f op → q.kind = .lineRead → x.wbData = false →
      ((runAtomic op f d).outcome = .changed → ∃ t, exec (.memCompletion (.ok d)) s = .next t ∧
        t = { s with
          tt := { s.tt with entries := t.tt.entries }
          mp := { outstanding := rest, waiting := joinTail s.mp.waiting q.txn }
          out := [] } ∧
        s.TxnBecomes t q.txn (some { x with
          phase := .memWait, buf := (runAtomic op f d).buf, mask := BitVec.allOnes 32,
          oldValue := some (runAtomic op f d).old, outcome := some .changed })) ∧
      ((runAtomic op f d).outcome = .unchanged → ∃ t, exec (.memCompletion (.ok d)) s = .next t ∧
        t = { s with
          rp := t.rp
          tt := { s.tt with entries := t.tt.entries, locks := t.tt.locks }
          mp := { s.mp with outstanding := rest }
          out := [] } ∧
        s.TxnBecomes t q.txn none ∧ s.LockBecomes t x.line none ∧
        s.PortBecomes t p { s.port p with
          responses := (s.port p).responses ++ [{ tag := g, result := .ok, data := .old (runAtomic op f d).old }] })

/-- R65, R66, R131, R146, R160: the LINE_WRITE that carries a transaction's write-back data completes, OK or ERROR: the
write-back's last beat is acknowledged without the error mark, its cycle ends, and PENDING write-back timers start; with its
cycle gone from the bus, dropped at HRST (R94, R117), nothing is acknowledged and the bus is as it was. In both cases entry and
line are freed. An R_READ is answered OK with its bytes from the buffer even when the write failed; an R_WRITE and an
R_ATOMIC are answered OK, the atomic with its old value, or MEM_ERROR with no data; a RECALL ends with no response. A
failure is reported. That the cycle of an attached write-back ends here, and a host transaction's only as its acknowledgment
is taken, is the model's reading (log 10). -/
def Obligations.WritebackCompletionsEndTheirCycle : Prop :=
  ∀ (s : State) (q : MemReq) (rest : List MemReq) (x : Txn) (k : Completion) (fed : Bool), s.Running → s.Quiet →
    s.mp.outstanding = q :: rest → q.kind = .lineWrite → s.txn q.txn = some x → x.abandoned = false →
    s.HoldsAlone q.txn x.line → (fed = true → ∃ c, s.Feeds c q.txn x) → (fed = false → s.NotAttached q.txn) →
    (∀ p g, q.txn ≠ recallEntry → x.work.port? = some p → x.work.tag? = some g →
      ∃ t r v, exec (.memCompletion k) s = .next t ∧
        t = { s with
          rp := t.rp
          hp := { s.hp with cycle := if fed then none else s.hp.cycle }
          tt := { s.tt with entries := t.tt.entries, locks := t.tt.locks }
          mp := { s.mp with outstanding := rest }
          ev := t.ev
          out := if fed then [.finalAck false] else [] } ∧
        (if fed then s.TxnBecomesBusEmpty t q.txn none else s.TxnBecomes t q.txn none) ∧ s.LockBecomes t x.line none ∧
        s.PortBecomes t p { s.port p with
          responses := (s.port p).responses ++ [{ tag := g, result := r, data := v }] } ∧
        (r = if k ≠ .error ∨ x.work.kind = .rRead then .ok else .memError) ∧
        (∀ f n, x.work = .rRead p g f n → v = .read ((x.buf.toList.drop f.val).take n)) ∧
        (∀ m w, x.work = .rWrite p g m w → v = .none) ∧
        (∀ f op w, x.work = .rAtomic p g f op → x.oldValue = some w → v = if k = .error then .none else .old w) ∧
        (k ≠ .error → t.ev = s.ev) ∧
        (k = .error → s.ev.Reported
          { kind := .memWriteErr, issuer := .rp p, line := x.line, txnKind := x.work.kind, tag := some g } t.ev)) ∧
    (q.txn = recallEntry → x.work.isRecall = true → s.msc.sweep.phase = .stopped → s.tt.recallWait = [] →
      ∃ t, exec (.memCompletion k) s = .next t ∧
        t = { s with
          hp := { s.hp with cycle := if fed then none else s.hp.cycle }
          tt := { s.tt with entries := t.tt.entries, locks := t.tt.locks }
          mp := { s.mp with outstanding := rest }
          ev := t.ev
          out := if fed then [.finalAck false] else [] } ∧
        (if fed then s.TxnBecomesBusEmpty t q.txn none else s.TxnBecomes t q.txn none) ∧ s.LockBecomes t x.line none ∧
        (k ≠ .error → t.ev = s.ev) ∧
        (k = .error → s.ev.Reported
          { kind := .memWriteErr, issuer := .internal, line := x.line, txnKind := .recall, tag := none } t.ev))

/-- R157: a completion with nothing outstanding is discarded. R51, R38: that of an abandoned host transaction, OK or ERROR,
frees its entry and has no other effect but the release of its line: with no waiter the line is unlocked, and otherwise the
head of its wait list becomes the holder and makes its lookup, the members behind it keeping their order. R44, R107: a READ or
WRITE waits for memory, and so does an LREAD or LWRITE, whose line joins the host lock set. R24, R77: an eviction removes the
line's entry, or is counted, or is late, and waits for memory. R8 to R12: a FILL that starts no recall is reserved or
declined. R92: a request that a check refuses is answered at once, and the line, for which no other waits, is unlocked. R55,
R58, R30: one that no check refuses waits for memory, an R_WRITE with its own bytes in its buffer, or joins the probe queue,
its probe going out at once on an idle channel; while an EVICT or PROBE_WB of the line waits to attach to it (R42), see
WritebackCyclesClaimOrAttach. -/
def Obligations.AbandonedCompletionFreesEntryAndPassesTheLock : Prop :=
  ∀ (s : State) (k : Completion), s.Running →
    (s.mp.outstanding = [] → exec (.memCompletion k) s = .next { s with out := [] }) ∧
    ∀ q outs x, s.Quiet → s.mp.outstanding = q :: outs → s.txn q.txn = some x → q.txn ≠ recallEntry →
      x.abandoned = true → x.work.isHost = true →
      (s.HoldsAlone q.txn x.line → ∃ t, exec (.memCompletion k) s = .next t ∧
        t = { s with
          tt := { s.tt with entries := t.tt.entries, locks := t.tt.locks }
          mp := { s.mp with outstanding := outs }
          out := [] } ∧
        s.TxnBecomes t q.txn none ∧ s.LockBecomes t x.line none) ∧
      ∀ i y ws waiting r, s.lockOf x.line = some { line := x.line, holder := .txn q.txn, waiters := i :: ws } →
        i ≠ q.txn → i ≠ recallEntry → s.txn i = some y → y.line = x.line → waiting = joinTail s.mp.waiting i →
        r = { line := x.line, holder := .txn i, waiters := ws } →
        ((y.work.kind = .hRead ∨ y.work.kind = .hWrite) → ∃ t, exec (.memCompletion k) s = .next t ∧
          t = { s with tt := { s.tt with entries := t.tt.entries, locks := t.tt.locks },
                       mp := { outstanding := outs, waiting := waiting }, out := [] } ∧
          s.TxnPasses t q.txn i (some { y with phase := .memWait }) ∧ s.LockBecomes t x.line (some r)) ∧
        (y.work.isLocked = true → x.line ∉ s.hp.lockSet → s.hp.lockSet.length < 2 →
          ∃ t, exec (.memCompletion k) s = .next t ∧
            t = { s with tt := { s.tt with entries := t.tt.entries, locks := t.tt.locks },
                         mp := { outstanding := outs, waiting := waiting },
                         hp := { s.hp with lockSet := s.hp.lockSet ++ [x.line] }, out := [] } ∧
            s.TxnPasses t q.txn i (some { y with phase := .memWait }) ∧
            s.LockBecomes t x.line (some { r with holder := .hostSet })) ∧
        (y.work.kind = .hEvict → ∃ t z, exec (.memCompletion k) s = .next t ∧
          t = { s with pd := t.pd, tt := { s.tt with entries := t.tt.entries, locks := t.tt.locks },
                       mp := { outstanding := outs, waiting := waiting }, msc := t.msc, ev := t.ev, out := [] } ∧
          s.TxnPasses t q.txn i (some z) ∧ z = { y with phase := .memWait, dirResult := z.dirResult } ∧
          s.EvictionLooksUp t x.line ∧ s.LockBecomes t x.line (some r)) ∧
        (∀ es declined, y.work.kind = .hFill → s.FillDecides x.line es declined →
          ∃ t z, exec (.memCompletion k) s = .next t ∧
            t = { s with pd := t.pd, tt := { s.tt with entries := t.tt.entries, locks := t.tt.locks },
                         mp := { outstanding := outs, waiting := waiting }, ev := t.ev, out := [] } ∧
            s.TxnPasses t q.txn i (some z) ∧
            z = { y with phase := .memWait, snapshot := some (s.rm.resolve x.line), dirResult := z.dirResult } ∧
            s.SetBecomes t (setOf x.line) es ∧
            t.ev = { s.ev with counters := { s.ev.counters with
              declinedFills := s.ev.counters.declinedFills + declined } } ∧
            s.LockBecomes t x.line (some r)) ∧
        ∀ p g code, y.work.port? = some p → y.work.tag? = some g → code = s.checksResult y.work.kind p x.line →
          (code ≠ .ok → ws = [] → ∃ t, exec (.memCompletion k) s = .next t ∧
            t = { s with rp := t.rp, tt := { s.tt with entries := t.tt.entries, locks := t.tt.locks },
                         mp := { s.mp with outstanding := outs }, ev := t.ev, out := [] } ∧
            s.TxnPasses t q.txn i none ∧ s.LockBecomes t x.line none ∧
            s.PortBecomes t p { s.port p with
              responses := (s.port p).responses ++ [{ tag := g, result := code, data := .none }] } ∧
            (code = .accessDenied → s.ev.Reported
              { kind := .accessDenied, issuer := .rp p, line := x.line, txnKind := y.work.kind, tag := some g } t.ev) ∧
            (code = .atomicRefused → s.ev.Reported
              { kind := .atomicRefused, issuer := .rp p, line := x.line, txnKind := y.work.kind, tag := some g } t.ev) ∧
            (code = .quarantined ∨ code = .bridgeFaulted → t.ev = s.ev)) ∧
          (code = .ok → s.NeedsNoProbe y.work.kind x.line → ∃ t z, exec (.memCompletion k) s = .next t ∧
            t = { s with tt := { s.tt with entries := t.tt.entries, locks := t.tt.locks },
                         mp := { outstanding := outs, waiting := waiting }, out := [] } ∧
            s.TxnPasses t q.txn i (some z) ∧ z.work = y.work ∧ z.line = x.line ∧ z.phase = .memWait ∧
            z.snapshot = some (s.rm.resolve x.line) ∧
            (y.wbData = false → { y with snapshot := z.snapshot, dirResult := z.dirResult }.EnteredMemWait z) ∧
            s.LockBecomes t x.line (some r)) ∧
          ∀ m, code = .ok → s.NeedsProbe y.work.kind x.line m → s.NoneAttaches x.line →
            ∃ t z, exec (.memCompletion k) s = .next t ∧
            t = { s with tt := { s.tt with entries := t.tt.entries, locks := t.tt.locks },
                         mp := { s.mp with outstanding := outs }, pu := t.pu, ev := t.ev, out := t.out } ∧
            s.TxnPasses t q.txn i (some z) ∧ z.work = y.work ∧ z.line = x.line ∧ z.probeMode = some m ∧
            s.LockBecomes t x.line (some r) ∧
            (s.pu.channel = .idle →
              z.phase = .probing ∧ t.out = [.probe x.line m] ∧
              t.pu = { s.pu with channel := .outstanding i x.line m s.pu.probeLimit.toNat } ∧
              t.ev = { s.ev with counters := { s.ev.counters with probes := s.ev.counters.probes + 1#32 } }) ∧
            (s.pu.channel ≠ .idle →
              z.phase = .probeQueued ∧ t.out = [] ∧ t.pu = { s.pu with queue := joinTail s.pu.queue i } ∧ t.ev = s.ev)

/-! ### The management port -/

/-- R192, R198: a start condition ends a transaction under way, its staged bytes dropped; the port acknowledges its own
address, 1011 0 and the straps, and ignores every other; in a write the first byte sets the pointer. R193: a byte below a
register's highest is staged at its offset, and the end of a transaction drops what is staged. That a repeated start drops
staged bytes is the model's reading (log 15). R193, R195: the byte at offset 3 of a register takes it, at COMMAND the command
whose code was staged, and every lower byte is staged. -/
def Obligations.ManagementBytesReachTheirRegisters : Prop :=
  (∀ (s : State) (a : BitVec 7) (b : Byte) (d : Direction), s.Running →
    (a = (0b10110#5 ++ BitVec.ofBool s.pins.ma1) ++ BitVec.ofBool s.pins.ma0 →
      exec (.startCondition a .write) s = .next { s with
        mg := { s.mg with bus := .pointerNext, staged := { b0 := none, b1 := none, b2 := none }, captures := [] }
        out := [.mgAck] }) ∧
    (a ≠ (0b10110#5 ++ BitVec.ofBool s.pins.ma1) ++ BitVec.ofBool s.pins.ma0 →
      exec (.startCondition a d) s = .next { s with
        mg := { s.mg with bus := .ignoring, staged := { b0 := none, b1 := none, b2 := none }, captures := [] }
        out := [] }) ∧
    (s.mg.bus = .pointerNext →
      exec (.mgPointerWrite b) s = .next { s with mg := { s.mg with pointer := b, bus := .writing }, out := [.mgAck] }) ∧
    exec .mgTransactionEnd s = .next { s with
      mg := { s.mg with bus := .ignoring, staged := { b0 := none, b1 := none, b2 := none }, captures := [] }
      out := [] }) ∧
  (∀ (s : State) (b : Byte), s.AtByte .stage →
    ∃ t, exec (.mgByteStage b) s = .next t ∧ t = { s with mg := t.mg, out := [.mgAck] } ∧
      t.mg = { s.mg with staged := t.mg.staged, pointer := s.mg.pointer + 1#8 } ∧
      (s.mg.pointer.toNat % 4 = 0 → t.mg.staged = { s.mg.staged with b0 := some b }) ∧
      (s.mg.pointer.toNat % 4 = 1 → t.mg.staged = { s.mg.staged with b1 := some b }) ∧
      (s.mg.pointer.toNat % 4 = 2 → t.mg.staged = { s.mg.staged with b2 := some b })) ∧
  ∀ m : Management,
    (m.pointer.toNat % 4 ≠ 3 → m.byteRow = .stage) ∧
    (m.pointer = 0x0B#8 → ∀ c : Byte, m.staged.b0 = some c →
      (c = 0x01#8 → m.byteRow = .command .writeRegion) ∧ (c = 0x02#8 → m.byteRow = .command .setMode) ∧
      (c = 0x03#8 → m.byteRow = .command .sweep) ∧ (c = 0x04#8 → m.byteRow = .command .resume) ∧
      (c = 0x05#8 → m.byteRow = .command .release) ∧ (c = 0x06#8 → m.byteRow = .command .portDisable) ∧
      (c = 0x07#8 → m.byteRow = .command .portEnable) ∧ (c = 0x08#8 → m.byteRow = .command .popFault) ∧
      (c = 0x09#8 → m.byteRow = .command .clearCounters) ∧ (c = 0x0A#8 → m.byteRow = .command .readDir) ∧
      (c = 0x0B#8 → m.byteRow = .command .readTt) ∧
      (c = 0x00#8 ∨ 0x0B#8 < c → m.byteRow = .command .unknown)) ∧
    (m.pointer = 0x17#8 → m.byteRow = .cmdStatus) ∧ (m.pointer = 0x1B#8 → m.byteRow = .eventFlags) ∧
    (m.pointer = 0x1F#8 → m.byteRow = .eventEnable) ∧ (m.pointer = 0x23#8 → m.byteRow = .defaultAttr) ∧
    (m.pointer = 0x27#8 → m.byteRow = .probeTimes) ∧ (m.pointer = 0x2B#8 → m.byteRow = .lockLimit) ∧
    (m.pointer = 0x2F#8 → m.byteRow = .admitPolicy) ∧
    (m.pointer = 0x0F#8 ∨ m.pointer = 0x13#8 → m.byteRow = .register)

/-- R192: a start condition with read direction and the port's own address is acknowledged, and the read begins at the
pointer. Each byte of it is taken from the capture of its register, made when the transaction reads the register's first byte
and kept to its end, little-endian, and the pointer moves on by 1; nothing else of the management port changes. That the bytes
come at ticks of the clock, at most one a tick and ahead of the tick's expiries, is the model's form (log 13), and that the
capture serves bytes read a second time too is its reading (log 40). -/
def Obligations.ReadTransactionReturnsTheRegister : Prop :=
  (∀ (s : State) (a : BitVec 7), s.Running →
    a = (0b10110#5 ++ BitVec.ofBool s.pins.ma1) ++ BitVec.ofBool s.pins.ma0 →
    exec (.startCondition a .read) s = .next { s with
      mg := { s.mg with bus := .reading, staged := { b0 := none, b1 := none, b2 := none }, captures := [] }
      out := [.mgAck] }) ∧
  ∀ (s : State) (v : Reg) (kept : List Capture), s.Running → s.pending = [] → s.mg.bus = .reading →
    ((∃ k, s.mg.captures.find? (fun k => k.word.toNat == s.mg.pointer.toNat / 4) = some k ∧ v = k.value ∧
        kept = s.mg.captures) ∨
     ((∀ k ∈ s.mg.captures, k.word.toNat ≠ s.mg.pointer.toNat / 4) ∧ v = s.readRegister (s.mg.pointer.toNat / 4) ∧
        kept = s.mg.captures ++ [{ word := s.mg.pointer.extractLsb' 2 6, value := v }])) →
    ∃ (u t : State) (ks : List Timer), step s = .next t ∧ u.TakesExpiries ks t ∧
      (∀ k ∈ ks, s.timerLeft k = some 1) ∧
      ((u.mg = s.mg ∧ u.out = []) ∨
       (u.mg = { s.mg with captures := kept, pointer := s.mg.pointer + 1#8 } ∧
        u.out = [.mgByte (v.extractLsb' (8 * (s.mg.pointer.toNat % 4)) 8)]))

/-- R194 and section 11.2: what every register of the window reads as at its offset, each field in its place with the codes of
R194, and the positions that no field names as 0; a FAULTn or QUARn register with no record reads as 0, and so does an offset
that holds no register (R192). R183, R185: ALERT is asserted exactly while some event flag is set together with its enable,
and not while the RESET pin is asserted. -/
def Obligations.RegistersAndAlertShowTheState : Prop :=
  (∀ s : State,
    s.readRegister (0x00 / 4) = 0x47431024#32 ∧
    (s.msc.mode, (s.readRegister (0x04 / 4)).toNat) ∈ [(Mode.pass, 0), (.coherent, 1), (.faulted, 2)] ∧
    s.readRegister (0x08 / 4) = 0#32 ∧
    s.readRegister (0x0C / 4) = s.mg.arg0 ∧ s.readRegister (0x10 / 4) = s.mg.arg1 ∧
    (s.mg.status.state, ((s.readRegister (0x14 / 4)).extractLsb' 0 2).toNat) ∈
      [(CmdState.done, 0), (.busy, 1), (.refused, 2)] ∧
    (s.mg.status.reason, ((s.readRegister (0x14 / 4)).extractLsb' 4 3).toNat) ∈ reasonCodes ∧
    (s.readRegister (0x14 / 4)).extractLsb' 8 8 = s.mg.status.code ∧
    ((s.readRegister (0x14 / 4)).getLsbD 16 = true ↔ s.mg.status.mark = true) ∧
    s.readRegister (0x14 / 4) &&& 0xFFFE008C#32 = 0#32 ∧
    (∀ k : Fin 17, (s.readRegister (0x18 / 4)).getLsbD k.val = s.ev.flags.getLsbD k.val) ∧
    s.readRegister (0x18 / 4) &&& 0xFFFE0000#32 = 0#32 ∧
    (∀ k : Fin 17, (s.readRegister (0x1C / 4)).getLsbD k.val = s.ev.enables.getLsbD k.val) ∧
    s.readRegister (0x1C / 4) &&& 0xFFFE0000#32 = 0#32 ∧
    (s.rm.defaults.policy, ((s.readRegister (0x20 / 4)).extractLsb' 0 2).toNat) ∈ policyCodes ∧
    (s.readRegister (0x20 / 4)).getLsbD 2 = s.rm.defaults.coherent ∧
    (s.readRegister (0x20 / 4)).extractLsb' 3 4 = s.rm.defaults.writers ∧
    (s.readRegister (0x20 / 4)).getLsbD 7 = s.rm.defaults.atomics ∧
    s.readRegister (0x20 / 4) &&& 0xFFFFFF00#32 = 0#32 ∧
    (s.readRegister (0x24 / 4)).extractLsb' 0 8 = s.pu.probeLimit ∧
    (s.readRegister (0x24 / 4)).extractLsb' 8 8 = s.pu.wbLimit ∧
    s.readRegister (0x24 / 4) &&& 0xFFFF0000#32 = 0#32 ∧
    (s.readRegister (0x28 / 4)).extractLsb' 0 16 = s.hp.lockLimit ∧
    s.readRegister (0x28 / 4) &&& 0xFFFF0000#32 = 0#32 ∧
    (s.pd.admitPolicy, (s.readRegister (0x2C / 4)).toNat) ∈ [(AdmitPolicy.displace, 0), (.decline, 1)] ∧
    (∀ p : PortIx, ((s.port p).state, ((s.readRegister (0x30 / 4)).extractLsb' (2 * p.val) 2).toNat) ∈
      [(PortState.enabled, 0), (.draining, 1), (.disabled, 2)]) ∧
    s.readRegister (0x30 / 4) &&& 0xFFFFFF00#32 = 0#32 ∧
    ((s.readRegister (0x34 / 4)).getLsbD 0 = true ↔ s.msc.sweep.phase ≠ .stopped) ∧
    (s.msc.sweep.origin, ((s.readRegister (0x34 / 4)).extractLsb' 1 2).toNat) ∈
      [(SweepOrigin.none, 0), (.sweep, 1), (.setMode, 2)] ∧
    ((s.readRegister (0x34 / 4)).extractLsb' 8 8).toNat = s.msc.sweep.cursor.val / 4 ∧
    ((s.readRegister (0x34 / 4)).extractLsb' 16 2).toNat = s.msc.sweep.cursor.val % 4 ∧
    (s.readRegister (0x34 / 4)).extractLsb' 24 8 = s.msc.sweep.pass ∧
    s.readRegister (0x34 / 4) &&& 0x00FC00F8#32 = 0#32 ∧
    (s.msc.sweep.passedOver ≤ 1024 → s.msc.sweep.remaining ≤ 1024 →
      ((s.readRegister (0x38 / 4)).extractLsb' 0 11).toNat = s.msc.sweep.passedOver ∧
      ((s.readRegister (0x38 / 4)).extractLsb' 16 11).toNat = s.msc.sweep.remaining ∧
      s.readRegister (0x38 / 4) &&& 0xF800F800#32 = 0#32) ∧
    (s.ev.faults.length ≤ 4 → ((s.readRegister (0x3C / 4)).extractLsb' 0 3).toNat = s.ev.faults.length ∧
      (s.readRegister (0x3C / 4)).extractLsb' 8 8 = s.ev.overflow ∧
      s.readRegister (0x3C / 4) &&& 0xFFFF00F8#32 = 0#32) ∧
    s.readRegister (0x40 / 4) = s.ev.counters.probes ∧ s.readRegister (0x44 / 4) = s.ev.counters.probesDirty ∧
    s.readRegister (0x48 / 4) = s.ev.counters.recalls ∧ s.readRegister (0x4C / 4) = s.ev.counters.declinedFills ∧
    s.readRegister (0x50 / 4) = s.ev.counters.retracts ∧ s.readRegister (0x54 / 4) = s.ev.counters.orphanEvicts ∧
    (∀ n : Fin 4, (s.ev.faults[n.val]? = none →
        s.readRegister ((0x58 + 8 * n.val) / 4) = 0#32 ∧ s.readRegister ((0x5C + 8 * n.val) / 4) = 0#32) ∧
      ∀ r, s.ev.faults[n.val]? = some r → ∀ v, v = s.readRegister ((0x58 + 8 * n.val) / 4) →
        (r.kind, (v.extractLsb' 0 4).toNat) ∈ faultCodes ∧ (r.issuer, (v.extractLsb' 4 3).toNat) ∈ issuerCodes ∧
        v.getLsbD 7 = r.tag.isSome ∧ (∀ g, r.tag = some g → (v.extractLsb' 8 4).toNat = g.val) ∧
        (r.tag = none → v.extractLsb' 8 4 = 0#4) ∧
        (r.txnKind, (v.extractLsb' 12 4).toNat) ∈ kindCodes ∧ v &&& 0xFFFF0000#32 = 0#32 ∧
        (s.readRegister ((0x5C + 8 * n.val) / 4)).toNat = r.line.toNat) ∧
    (∀ n : Fin 8, (s.msc.quarantine[n.val]? = none → s.readRegister ((0x78 + 4 * n.val) / 4) = 0#32) ∧
      ∀ r, s.msc.quarantine[n.val]? = some r → ∀ v, v = s.readRegister ((0x78 + 4 * n.val) / 4) →
        v.extractLsb' 0 27 = r.line ∧ v.getLsbD 29 = r.late ∧ v &&& 0xC0000000#32 = 0#32 ∧
        (r.cause, (v.extractLsb' 27 2).toNat) ∈ [(QuarCause.answerTimeout, 1), (.writebackTimeout, 2)]) ∧
    s.readRegister (0x98 / 4) = s.mg.snap0 ∧ s.readRegister (0x9C / 4) = s.mg.snap1 ∧
    s.readRegister (0xA0 / 4) = s.mg.snap2 ∧ s.readRegister (0xA4 / 4) = s.mg.snap3 ∧
    (∀ (n : Fin 8) (r : Region) (v : Reg), r = s.rm.regions[n.val] → v = s.readRegister ((0xA8 + 8 * n.val) / 4) →
      v.getLsbD 0 = r.valid ∧ v.extractLsb' 1 6 = r.exponent ∧
      (r.attr.policy, (v.extractLsb' 7 2).toNat) ∈ policyCodes ∧ v.getLsbD 9 = r.attr.coherent ∧
      v.extractLsb' 10 4 = r.attr.writers ∧ v.getLsbD 14 = r.attr.atomics ∧ v &&& 0xFFFF8000#32 = 0#32 ∧
      s.readRegister ((0xAC + 8 * n.val) / 4) = r.base) ∧
    ∀ w, 0xE8 / 4 ≤ w → w ≤ 0xFF / 4 → s.readRegister w = 0#32) ∧
  ∀ s : State, s.alert = true ↔
    s.Running ∧ ∃ k : Fin 17, s.ev.flags.getLsbD k.val = true ∧ s.ev.enables.getLsbD k.val = true

/-- R193: CMD_ARG0 and CMD_ARG1 are stored as written, their current value standing for the bytes not written, and a byte
for a read-only register is discarded. R183: a write of all of EVENT_ENABLE replaces every enable. R195: CMD_STATUS written
with 1 in position 16 clears the refused-while-busy mark and changes nothing else. R11, R75, R80, R113: a write of all four
bytes to DEFAULT_ATTR is taken unless its policy is 3, one to PROBE_TIMES takes each field that is not 0, one to LOCK_LIMIT is
taken for the values 1 to 1023 and one to ADMIT_POLICY for 0 and 1; timers that run keep their count. -/
def Obligations.RegisterWritesAreTaken : Prop :=
  (∀ (s : State) (b : Byte) (v : Reg), s.AtByte .register →
    v.extractLsb' 24 8 = b →
    (v.extractLsb' 16 8 = s.mg.staged.b2.getD ((s.readRegister (s.mg.pointer.toNat / 4)).extractLsb' 16 8)) →
    (v.extractLsb' 8 8 = s.mg.staged.b1.getD ((s.readRegister (s.mg.pointer.toNat / 4)).extractLsb' 8 8)) →
    (v.extractLsb' 0 8 = s.mg.staged.b0.getD ((s.readRegister (s.mg.pointer.toNat / 4)).extractLsb' 0 8)) →
    (s.mg.pointer = 0x0F#8 → exec (.registerWrite b) s = .next { s with
      mg := { s.mg.afterByte with arg0 := v }, out := [.mgAck] }) ∧
    (s.mg.pointer = 0x13#8 → exec (.registerWrite b) s = .next { s with
      mg := { s.mg.afterByte with arg1 := v }, out := [.mgAck] }) ∧
    (s.mg.pointer ≠ 0x0F#8 → s.mg.pointer ≠ 0x13#8 →
      exec (.registerWrite b) s = .next { s with mg := s.mg.afterByte, out := [.mgAck] })) ∧
  ∀ (s : State) (b b2 b1 b0 : Byte), s.mg.staged = { b0 := some b0, b1 := some b1, b2 := some b2 } →
    (s.AtByte .eventEnable → ∃ t, exec (.eventEnableWrite b) s = .next t ∧
      t = { s with ev := { s.ev with enables := t.ev.enables }, mg := s.mg.afterByte, out := [.mgAck] } ∧
      ∀ k : Fin 17, t.ev.enables.getLsbD k.val = (b ++ b2 ++ b1 ++ b0).getLsbD k.val) ∧
    (s.AtByte .cmdStatus → exec (.cmdStatusWrite b) s = .next { s with
      mg := { s.mg.afterByte with status := { s.mg.status with mark := s.mg.status.mark && !b2.getLsbD 0 } }
      out := [.mgAck] }) ∧
    (s.AtByte .defaultAttr → ∃ t, exec (.defaultAttrWrite b) s = .next t ∧
      t = { s with rm := { s.rm with defaults := t.rm.defaults }, mg := s.mg.afterByte, out := [.mgAck] } ∧
      (b0.extractLsb' 0 2 = 3#2 → t.rm.defaults = s.rm.defaults) ∧
      (b0.extractLsb' 0 2 ≠ 3#2 → t.rm.defaults =
        { policy := if b0.extractLsb' 0 2 = 0#2 then .uncached else if b0.extractLsb' 0 2 = 1#2 then .wt else .wb,
          coherent := b0.getLsbD 2, writers := b0.extractLsb' 3 4, atomics := b0.getLsbD 7 })) ∧
    (s.AtByte .probeTimes → exec (.probeTimesWrite b) s = .next { s with
      pu := { s.pu with
        probeLimit := if b0 = 0#8 then s.pu.probeLimit else b0
        wbLimit := if b1 = 0#8 then s.pu.wbLimit else b1 }
      mg := s.mg.afterByte
      out := [.mgAck] }) ∧
    (s.AtByte .lockLimit → exec (.lockLimitWrite b) s = .next { s with
      hp := { s.hp with
        lockLimit := if 1 ≤ (b ++ b2 ++ b1 ++ b0).toNat ∧ (b ++ b2 ++ b1 ++ b0).toNat ≤ 1023 then b1 ++ b0
          else s.hp.lockLimit }
      mg := s.mg.afterByte
      out := [.mgAck] }) ∧
    (s.AtByte .admitPolicy → exec (.admitPolicyWrite b) s = .next { s with
      pd := { s.pd with
        admitPolicy := if (b ++ b2 ++ b1 ++ b0).toNat = 0 then .displace
          else if (b ++ b2 ++ b1 ++ b0).toNat = 1 then .decline else s.pd.admitPolicy }
      mg := s.mg.afterByte
      out := [.mgAck] })

/-- R184: a write to EVENT_FLAGS clears each flag whose position is written with 1 and leaves the others; the fault list,
the overflow count, the counters and the enables stay. -/
def Obligations.EventFlagsAreWriteOneToClear : Prop :=
  ∀ (s : State) (b : Byte) (v : Reg), s.AtByte .eventFlags →
    v = b ++ s.mg.staged.b2.getD 0#8 ++ s.mg.staged.b1.getD 0#8 ++ s.mg.staged.b0.getD 0#8 →
    ∃ t, exec (.eventFlagsWrite b) s = .next t ∧
      t = { s with ev := { s.ev with flags := t.ev.flags }, mg := s.mg.afterByte, out := [.mgAck] } ∧
      ∀ k : Fin 17, t.ev.flags.getLsbD k.val = (s.ev.flags.getLsbD k.val && !v.getLsbD k.val)

/-! ### Commands -/

/-- R84 to R86: WRITE_REGION replaces every field of the named entry when the new values are well formed, makes it invalid
with every field 0 when valid is 0, and is refused with the entry as it was otherwise: BAD_INDEX above 7, BAD_REGION for a
size outside 4 KiB to 4 GiB, a base that is not a multiple of the size, or policy 3. -/
def Obligations.WriteRegionReplacesOrRefuses : Prop :=
  ∀ (s : State) (b : Byte) (n k p : Nat), s.AtCommand .writeRegion → n = (s.mg.arg0.extractLsb' 0 4).toNat →
    k = (s.mg.arg0.extractLsb' 5 6).toNat → p = (s.mg.arg0.extractLsb' 11 2).toNat →
    (7 < n → exec (.writeRegion b) s = .next { s with
      mg := s.mg.afterCommand 1#8 .refused .badIndex, out := [.mgAck] }) ∧
    ∀ h : n < 8,
      (s.mg.arg0.getLsbD 4 = false → exec (.writeRegion b) s = .next { s with
        rm := { s.rm with
          regions := s.rm.regions.set n
            { valid := false, base := 0#32, exponent := 0#6,
              attr := { policy := .uncached, coherent := false, writers := 0#4, atomics := false } } h }
        mg := s.mg.afterCommand 1#8 .done .none
        out := [.mgAck] }) ∧
      (s.mg.arg0.getLsbD 4 = true → (k < 12 ∨ 32 < k ∨ s.mg.arg1.toNat % 2 ^ k ≠ 0 ∨ p = 3) →
        exec (.writeRegion b) s = .next { s with
          mg := s.mg.afterCommand 1#8 .refused .badRegion, out := [.mgAck] }) ∧
      (s.mg.arg0.getLsbD 4 = true → 12 ≤ k → k ≤ 32 → s.mg.arg1.toNat % 2 ^ k = 0 → p ≠ 3 →
        exec (.writeRegion b) s = .next { s with
          rm := { s.rm with
            regions := s.rm.regions.set n
              { valid := true, base := s.mg.arg1, exponent := s.mg.arg0.extractLsb' 5 6,
                attr :=
                  { policy := if p = 0 then .uncached else if p = 1 then .wt else .wb,
                    coherent := s.mg.arg0.getLsbD 13, writers := s.mg.arg0.extractLsb' 14 4,
                    atomics := s.mg.arg0.getLsbD 18 } } h }
          mg := s.mg.afterCommand 1#8 .done .none
          out := [.mgAck] })

/-- R167, R176: SET_MODE by the mode it meets and its argument: PASS to COHERENT at once with MODE_CHANGED; no change to the
mode it is in; WRONG_MODE in FAULTED and for a value naming neither. SET_MODE(PASS) in COHERENT, with entry 11 free, no sweep
running and no entry but of quarantined lines, sweeps to its end at once, with SWEEP_DONE: with an empty directory the mode is
PASS, with MODE_CHANGED, and otherwise it stays COHERENT, with SWEEP_INCOMPLETE. -/
def Obligations.SetModeByModeAndArgument : Prop :=
  ∀ (s : State) (b : Byte) (v : Nat), s.AtCommand .setMode → v = (s.mg.arg0.extractLsb' 0 2).toNat →
    (s.msc.mode = .faulted ∨ 2 ≤ v → exec (.setMode b) s = .next { s with
      mg := s.mg.afterCommand 2#8 .refused .wrongMode, out := [.mgAck] }) ∧
    ((s.msc.mode = .pass ∧ v = 0) ∨ (s.msc.mode = .coherent ∧ v = 1) → exec (.setMode b) s = .next { s with
      mg := s.mg.afterCommand 2#8 .done .none, out := [.mgAck] }) ∧
    (s.msc.mode = .pass → v = 1 → exec (.setMode b) s = .next { s with
      msc := { s.msc with mode := .coherent }
      ev := { s.ev with flags := s.ev.flags ||| 0x2000#17 }
      mg := s.mg.afterCommand 2#8 .done .none
      out := [.mgAck] }) ∧
    (s.msc.mode = .coherent → v = 0 → s.Quiet → s.msc.sweep.phase = .stopped → s.txn recallEntry = none →
      (∀ k, s.MovesOver k) → exec (.setMode b) s = .next { s with
        msc := { s.msc with
          mode := if s.entryCount = 0 then .pass else .coherent
          sweep := { phase := .stopped, origin := .setMode, cursor := 0, pass := 1#8, passedOver := 0,
                     remaining := s.entryCount, stirred := false } }
        ev := { s.ev with flags := s.ev.flags ||| (if s.entryCount = 0 then 0x2800#17 else 0x1800#17) }
        mg := s.mg.afterCommand 2#8 .done .none
        out := [.mgAck] })

/-- R171 to R173, R58: SWEEP is refused in FAULTED and is DONE at once in PASS. SWEEP and, with its own origin, SET_MODE(PASS)
in COHERENT with no sweep running start a sweep, and CMD_STATUS reads BUSY. With entry 11 free the first way it may not move
over, when it holds the entry of an unlocked, unquarantined HELD line, is recalled: entry 11 takes its lock, and its
INVALIDATE probe goes out at once on an idle channel and waits at the tail of the probe queue (R57) otherwise. R42, R67, R68:
an EVICT or PROBE_WB of the line that claims an entry, fewer than four beats taken, attaches to the RECALL, which is in
WB_WAIT, and no probe is issued; that the beats it holds, since it was handed back, are in the RECALL's buffer at once is the
model's reading (log 23). R19: with entry 11 busy its first recall waits for it; the fill that the
recall's link names, or that waits for entry 11, is declined, and link and recall wait list are empty. -/
def Obligations.SweepStartsWithItsFirstRecall : Prop :=
  (∀ (s : State) (b : Byte), s.AtCommand .sweep →
    (s.msc.mode = .faulted → exec (.sweep b) s = .next { s with
      mg := s.mg.afterCommand 3#8 .refused .wrongMode, out := [.mgAck] }) ∧
    (s.msc.mode = .pass → exec (.sweep b) s = .next { s with
      msc := { s.msc with sweep := { s.msc.sweep with remaining := 0 } }
      ev := { s.ev with flags := s.ev.flags ||| 0x800#17 }
      mg := s.mg.afterCommand 3#8 .done .none
      out := [.mgAck] })) ∧
  ∀ (s : State) (b code : Byte) (c : Instr) (origin : SweepOrigin),
    ((s.AtCommand .sweep ∧ c = .sweep b ∧ code = 3#8 ∧ origin = .sweep) ∨
     (s.AtCommand .setMode ∧ s.mg.arg0.extractLsb' 0 2 = 0#2 ∧ c = .setMode b ∧ code = 2#8 ∧ origin = .setMode)) →
    s.msc.mode = .coherent → s.Quiet → s.msc.sweep.phase = .stopped →
    (∀ (n : Fin 1024) (e : DirEntry), s.DirectoryKept → s.txn recallEntry = none →
      (∀ k, k < n → s.MovesOver k) → s.atWay n = some e → s.Recallable e →
      (s.NoneAttaches e.line ∨ ∃ k, s.hp.cycle = some k ∧ k.line = e.line ∧ k.WritesBack ∧ k.standing = .claiming ∧
        k.taken.length ≠ 4) →
      ∃ t z, exec c s = .next t ∧
        t = { s with tt := t.tt, pu := t.pu, hp := t.hp, msc := t.msc, ev := t.ev, mg := t.mg, out := t.out } ∧
        t.mg = s.mg.afterCommand code .busy .none ∧
        t.msc = { s.msc with
          sweep := { phase := .recalling, origin := origin, cursor := n, pass := 1#8, passedOver := 0,
                     remaining := s.msc.sweep.remaining, stirred := false } } ∧
        t.tt = { s.tt with entries := t.tt.entries, locks := t.tt.locks } ∧
        s.TxnBecomes t recallEntry (some z) ∧ z.work = .recall .sweep ∧ z.line = e.line ∧
        z.probeMode = some .invalidate ∧ z.link = none ∧
        s.LockBecomes t e.line (some { line := e.line, holder := .txn recallEntry, waiters := [] }) ∧
        (s.NoneAttaches e.line → t.hp = s.hp ∧ s.RecallAsksProbe t e.line z.phase [] [.mgAck]) ∧
        ∀ k, s.hp.cycle = some k → k.line = e.line → k.WritesBack → k.standing = .claiming →
          z.phase = .wbWait ∧ z.wbTimer = none ∧ z.wbData = false ∧ t.out = [.mgAck] ∧
          ((k.held.map Prod.fst).Nodup → ∀ p ∈ k.held, beatAt z.buf p.1 = p.2) ∧
          t.pu = { s.pu with queue := s.pu.queue.filter fun j => j != recallEntry } ∧
          t.hp = { s.hp with cycle := some { k with standing := .attached recallEntry, held := [] } } ∧
          t.ev = { s.ev with counters := { s.ev.counters with recalls := s.ev.counters.recalls + 1#32 } }) ∧
    ∀ (y : Txn) (d : Option EntryIx), s.txn recallEntry = some y →
      ((s.tt.recallWait = [] ∧ y.link = d) ∨ (y.link = none ∧ ∃ f, d = some f ∧ s.tt.recallWait = [f])) →
      (∀ f, d = some f → f ≠ recallEntry ∧ ∃ z, s.txn f = some z ∧ z.work.kind = .hFill) →
      ∃ t, exec c s = .next t ∧
        t = { s with
          tt := { s.tt with entries := t.tt.entries, recallWait := [] }
          mp := { s.mp with waiting := d.elim s.mp.waiting (joinTail s.mp.waiting) }
          msc := { s.msc with
            sweep := { phase := .examining, origin := origin, cursor := 0, pass := 1#8, passedOver := 0,
                       remaining := s.msc.sweep.remaining, stirred := false } }
          ev := { s.ev with counters := { s.ev.counters with
            declinedFills := s.ev.counters.declinedFills + (if d.isSome then 1#32 else 0#32) } }
          mg := s.mg.afterCommand code .busy .none
          out := [.mgAck] } ∧
        t.txn recallEntry = some { y with link := none } ∧
        ∀ j, j ≠ recallEntry → t.txn j = if d = some j then (s.txn j).map fun z => { z with phase := .memWait }
          else s.txn j

/-- R173 to R176: the sweep's recall ends, answered MISS or CLEAN with its entry removed, by the completion of its LINE_WRITE,
or by a timeout, its line then quarantined, or by the skip of its probe (R58, R59), and the sweep goes on from the next way.
At the first way that holds an entry it may recall, it moving over free ways and quarantined lines, the next RECALL starts in
entry 11, its probe going out at once on an idle channel and waiting at the tail of the probe queue otherwise. Past the last
way, with nothing passed over, the sweep ends: remaining is the number of entries left, SWEEP_DONE is raised and CMD_STATUS is
DONE; one begun by SET_MODE brings PASS with MODE_CHANGED when the directory is empty, and raises SWEEP_INCOMPLETE in COHERENT
otherwise. -/
def Obligations.SweepGoesOnToItsEnd : Prop :=
  ∀ (s u : State) (c : Instr) (x : Txn), s.Running → s.DirectoryKept → s.SweepRecallEnds u c x →
    x.work = .recall .sweep → x.link = none → s.HoldsAlone recallEntry x.line → s.msc.mode = .coherent →
    s.msc.sweep.phase = .recalling → s.tt.recallWait = [] → (∀ p, (s.port p).state ≠ .draining) →
    (u.pu.channel ≠ .idle ∨ u.pu.queue = []) →
    (∀ n e, s.msc.sweep.cursor < n → (∀ k, s.msc.sweep.cursor < k → k < n → u.MovesOver k) → u.atWay n = some e →
      u.Recallable e → u.NoneAttaches e.line →
      ∃ t y, exec c s = .next t ∧
        t = { u with
          tt := t.tt, pu := t.pu, msc := { u.msc with sweep := { s.msc.sweep with cursor := n } }, ev := t.ev,
          out := t.out } ∧
        t.tt = { s.tt with entries := t.tt.entries, locks := t.tt.locks } ∧
        u.TxnBecomes t recallEntry (some y) ∧ y.work = .recall .sweep ∧ y.line = e.line ∧
        y.probeMode = some .invalidate ∧ y.link = none ∧
        u.LockBecomes t e.line (some { line := e.line, holder := .txn recallEntry, waiters := [] }) ∧
        u.RecallAsksProbe t e.line y.phase u.out []) ∧
    ((∀ k, s.msc.sweep.cursor < k → u.MovesOver k) → s.msc.sweep.passedOver = 0 →
      ∃ t n, exec c s = .next t ∧ n = u.entryCount ∧
        t = { u with
          tt := t.tt
          mg := s.mg.operationEnded
          msc := { u.msc with
            mode := if s.msc.sweep.origin = .setMode ∧ n = 0 then .pass else .coherent
            sweep := s.msc.sweep.ended n }
          ev := { u.ev with flags := u.ev.flags |||
            (if s.msc.sweep.origin ≠ .setMode then 0x800#17 else if n = 0 then 0x2800#17 else 0x1800#17) } } ∧
        t.tt = { s.tt with entries := t.tt.entries, locks := t.tt.locks } ∧
        (∀ i, t.txn i = u.txn i) ∧ ∀ l, t.lockOf l = u.lockOf l)

/-- R173, R175: a sweep that meets nothing but an entry it may not recall yet, RESERVED or of a locked line, passes it over and
waits, CMD_STATUS reading BUSY. The release of a line's lock, here by an abandoned transaction's completion, begins a new
pass, which recalls the entry that has come free. A release in the middle of a pass that has passed an entry over is kept for
the end of the pass, which then begins a new pass at once; without one the sweep waits. The manual gives no cursor for the
wait (log 11), and no word for a release in the middle of a pass (log 12): both are the model's choice. -/
def Obligations.SweepPassesOverAndComesBack : Prop :=
  (∀ (s : State) (b : Byte) (k : SetIx) (e : DirEntry), s.AtCommand .sweep → s.msc.mode = .coherent → s.Quiet →
    s.msc.sweep.phase = .stopped → s.txn recallEntry = none → (∀ j : SetIx, j ≠ k → s.pd.sets[j.val] = []) →
    s.pd.sets[k.val] = [e] → (e.state = .reserved ∨ s.isLocked e.line = true) → s.isQuarantined e.line = false →
    ∃ t, exec (.sweep b) s = .next t ∧
      t = { s with msc := t.msc, mg := s.mg.afterCommand 3#8 .busy .none, out := [.mgAck],
                   freeCount := t.freeCount } ∧
      t.msc = { s.msc with sweep := { phase := .waiting, origin := .sweep, cursor := t.msc.sweep.cursor, pass := 1#8,
                                      passedOver := 1, remaining := s.msc.sweep.remaining, stirred := false } }) ∧
  (∀ (s : State) (q : MemReq) (outs : List MemReq) (x : Txn) (k : Completion), s.Running →
    (∀ p, (s.port p).state ≠ .draining) → s.mp.outstanding = q :: outs → s.txn q.txn = some x → q.txn ≠ recallEntry →
    x.abandoned = true → x.work.isHost = true → s.HoldsAlone q.txn x.line → s.pu.queue = [] →
    s.msc.mode = .coherent →
    (∀ (j : SetIx) (e : DirEntry) (p : BitVec 8), s.msc.sweep.phase = .waiting → s.txn recallEntry = none →
      s.pu.channel = .idle → (∀ j' : SetIx, j' ≠ j → s.pd.sets[j'.val] = []) → s.pd.sets[j.val] = [e] →
      setOf e.line = j → e.state = .held → e.line = x.line → s.isQuarantined e.line = false → s.NoneAttaches e.line →
      p.toNat = min 255 (s.msc.sweep.pass.toNat + 1) →
      ∃ t y, exec (.memCompletion k) s = .next t ∧
        t = { s with
          tt := { s.tt with entries := t.tt.entries, locks := t.tt.locks }
          mp := { s.mp with outstanding := outs }
          pu := { s.pu with channel := .outstanding recallEntry e.line .invalidate s.pu.probeLimit.toNat }
          msc := { s.msc with sweep := { s.msc.sweep with
            phase := .recalling, cursor := t.msc.sweep.cursor, pass := p, passedOver := 0, stirred := false } }
          ev := { s.ev with counters := { s.ev.counters with
            recalls := s.ev.counters.recalls + 1#32, probes := s.ev.counters.probes + 1#32 } }
          out := [.probe e.line .invalidate] } ∧
        t.msc.sweep.cursor.val = 4 * j.val + e.way.val ∧
        t.txn q.txn = none ∧ t.txn recallEntry = some y ∧ y.work = .recall .sweep ∧ y.line = e.line ∧
        (∀ i, i ≠ q.txn → i ≠ recallEntry → t.txn i = s.txn i) ∧
        s.LockBecomes t e.line (some { line := e.line, holder := .txn recallEntry, waiters := [] })) ∧
    ((s.msc.sweep.phase = .recalling ∨ s.msc.sweep.phase = .examining) → s.msc.sweep.passedOver ≠ 0 →
      (s.txn recallEntry).isSome = true →
      ∃ t, exec (.memCompletion k) s = .next t ∧
        t = { s with
          tt := { s.tt with entries := t.tt.entries, locks := t.tt.locks }
          mp := { s.mp with outstanding := outs }
          msc := { s.msc with sweep := { s.msc.sweep with stirred := true } }
          out := [] } ∧
        s.TxnBecomes t q.txn none ∧ s.LockBecomes t x.line none)) ∧
  ∀ (s : State) (x : Txn) (e : DirEntry), s.Running → s.DirectoryKept → s.Probes recallEntry x →
    x.work = .recall .sweep → x.link = none → s.NotAttached recallEntry → s.HoldsAlone recallEntry x.line →
    s.msc.mode = .coherent → s.msc.sweep.phase = .recalling → s.msc.sweep.passedOver ≠ 0 → s.tt.recallWait = [] →
    (∀ p, (s.port p).state ≠ .draining) → s.atWay s.msc.sweep.cursor = some e → e.line = x.line →
    (∀ k, s.msc.sweep.cursor < k → s.MovesOver k) →
    (s.msc.sweep.stirred = false → ∃ t, exec .probeAnswerMiss s = .next t ∧
      t.msc = { s.msc with sweep := { s.msc.sweep with phase := .waiting, cursor := t.msc.sweep.cursor } } ∧
      s.TxnBecomes t recallEntry none ∧ t.out = []) ∧
    ∀ (n : Fin 1024) (e' : DirEntry) (p : BitVec 8), s.msc.sweep.stirred = true → n < s.msc.sweep.cursor →
      (∀ k, k < n → s.MovesOver k) → s.atWay n = some e' → s.Recallable e' → s.NoneAttaches e'.line →
      p.toNat = min 255 (s.msc.sweep.pass.toNat + 1) →
      ∃ t y, exec .probeAnswerMiss s = .next t ∧
        t.msc = { s.msc with sweep := { s.msc.sweep with
          phase := .recalling, cursor := n, pass := p, passedOver := 0, stirred := false } } ∧
        s.TxnBecomes t recallEntry (some y) ∧ y.work = .recall .sweep ∧ y.line = e'.line ∧
        t.out = [.probe e'.line .invalidate]

/-- R170: RESUME returns the bridge from FAULTED to COHERENT when the quarantine table holds fewer than 8 records; it is
refused with BUSY when it holds 8, and with WRONG_MODE in PASS and COHERENT. R181: RELEASE removes the record at its index and
moves those behind it forward; it is refused, with the table unchanged, with BAD_INDEX above 7, EMPTY with no record in the
table, and BAD_INDEX where the index holds none. -/
def Obligations.ResumeAndRelease : Prop :=
  ∀ (s : State) (b : Byte),
    (s.AtCommand .resume →
      (s.msc.mode = .faulted → s.msc.quarantine.length < 8 → exec (.resume b) s = .next { s with
        msc := { s.msc with mode := .coherent }
        ev := { s.ev with flags := s.ev.flags ||| 0x2000#17 }
        mg := s.mg.afterCommand 4#8 .done .none
        out := [.mgAck] }) ∧
      (s.msc.mode = .faulted → 8 ≤ s.msc.quarantine.length → exec (.resume b) s = .next { s with
        mg := s.mg.afterCommand 4#8 .refused .busy, out := [.mgAck] }) ∧
      (s.msc.mode = .pass ∨ s.msc.mode = .coherent → exec (.resume b) s = .next { s with
        mg := s.mg.afterCommand 4#8 .refused .wrongMode, out := [.mgAck] })) ∧
    (s.AtCommand .release → ∀ n, n = (s.mg.arg0.extractLsb' 0 4).toNat →
      (7 < n → exec (.release b) s = .next { s with
        mg := s.mg.afterCommand 5#8 .refused .badIndex, out := [.mgAck] }) ∧
      (n ≤ 7 → s.msc.quarantine = [] → exec (.release b) s = .next { s with
        mg := s.mg.afterCommand 5#8 .refused .empty, out := [.mgAck] }) ∧
      (n ≤ 7 → s.msc.quarantine ≠ [] → s.msc.quarantine.length ≤ n → exec (.release b) s = .next { s with
        mg := s.mg.afterCommand 5#8 .refused .badIndex, out := [.mgAck] }) ∧
      ∀ before r after, n ≤ 7 → s.msc.quarantine = before ++ r :: after → before.length = n →
        exec (.release b) s = .next { s with
          msc := { s.msc with quarantine := before ++ after }
          mg := s.mg.afterCommand 5#8 .done .none
          out := [.mgAck] })

/-- R135, R137, R138: PORT_DISABLE of an ENABLED port answers PORT_DISABLED, in their order, the queued requests up to the
first whose line a transaction of the port in the table has. With the queue empty and no transaction of the port left the port
is DISABLED at once, with PORT_DRAINED, and the command is DONE; otherwise it is DRAINING and CMD_STATUS reads BUSY. The drain
goes on, and may end, as a transaction of the port completes: here an R_READ, whose response is placed first. A DISABLED port
is DONE with no event. R139: PORT_ENABLE makes a DISABLED port ENABLED at once and leaves an ENABLED one. A number above 3 is
refused. -/
def Obligations.PortDisableAndPortEnable : Prop :=
  (∀ (s : State) (b : Byte) (n : Nat), s.AtCommand .portDisable → n = (s.mg.arg0.extractLsb' 0 4).toNat →
    (3 < n → exec (.portDisable b) s = .next { s with
      mg := s.mg.afterCommand 6#8 .refused .badIndex, out := [.mgAck] }) ∧
    ∀ (p : PortIx), p.val = n →
      ((s.port p).state = .disabled → exec (.portDisable b) s = .next { s with
        mg := s.mg.afterCommand 6#8 .done .none, out := [.mgAck] }) ∧
      ∀ answered kept, (s.port p).state = .enabled → s.Quiet → (s.port p).ingress = answered ++ kept →
        (∀ r ∈ answered, ∀ i x, s.txn i = some x → x.work.port? = some p → x.line ≠ r.line) →
        (∀ r rest, kept = r :: rest → ∃ i x, s.txn i = some x ∧ x.work.port? = some p ∧ x.line = r.line) →
        ∃ t, exec (.portDisable b) s = .next t ∧
          ((kept = [] ∧ ∀ i x, s.txn i = some x → x.work.port? ≠ some p) →
            t = { s with
              rp := t.rp
              ev := { s.ev with flags := s.ev.flags ||| 0x4000#17 }
              mg := s.mg.afterCommand 6#8 .done .none
              out := [.mgAck] } ∧
            s.PortBecomes t p { s.port p with
              state := .disabled
              ingress := []
              responses := (s.port p).responses ++ answered.map fun r =>
                { tag := r.tag, result := .portDisabled, data := .none } }) ∧
          ((∃ i x, s.txn i = some x ∧ x.work.port? = some p) →
            t = { s with rp := t.rp, mg := s.mg.afterCommand 6#8 .busy .none, out := [.mgAck] } ∧
            s.PortBecomes t p { s.port p with
              state := .draining
              ingress := kept
              responses := (s.port p).responses ++ answered.map fun r =>
                { tag := r.tag, result := .portDisabled, data := .none } })) ∧
  (∀ (s : State) (q : MemReq) (outs : List MemReq) (x : Txn) (d : LineData) (p : PortIx) (g : Tag) (f : Fin 32) (n : Nat)
      (answered kept : List Accepted), s.Running →
    ((s.txn recallEntry).isSome ∨ (s.msc.sweep.phase = .stopped ∧ s.tt.recallWait = [])) →
    (s.pu.channel ≠ .idle ∨ s.msc.mode = .faulted ∨ s.pu.queue = []) →
    (s.msc.sweep.phase = .stopped ∨ (s.msc.sweep.phase ≠ .waiting ∧ s.msc.sweep.passedOver = 0)) →
    (s.port p).state = .draining → (∀ p', p' ≠ p → (s.port p').state ≠ .draining) →
    s.mp.outstanding = q :: outs → q.kind = .lineRead → s.txn q.txn = some x → q.txn ≠ recallEntry →
    x.work = .rRead p g f n → x.abandoned = false → s.HoldsAlone q.txn x.line →
    (s.port p).ingress = answered ++ kept →
    (∀ r ∈ answered, ∀ i y, i ≠ q.txn → s.txn i = some y → y.work.port? = some p → y.line ≠ r.line) →
    (∀ r rest, kept = r :: rest →
      ∃ i y, i ≠ q.txn ∧ s.txn i = some y ∧ y.work.port? = some p ∧ y.line = r.line) →
    ∃ t, exec (.memCompletion (.ok d)) s = .next t ∧
      t = { s with
        rp := t.rp
        tt := { s.tt with entries := t.tt.entries, locks := t.tt.locks }
        mp := { s.mp with outstanding := outs }
        ev := t.ev
        mg := t.mg
        out := [] } ∧
      s.TxnBecomes t q.txn none ∧ s.LockBecomes t x.line none ∧
      s.PortBecomes t p { s.port p with
        state := (t.port p).state
        ingress := kept
        responses := (s.port p).responses ++
          [{ tag := g, result := .ok, data := .read ((d.toList.drop f.val).take n) }] ++
          answered.map fun r => { tag := r.tag, result := .portDisabled, data := .none } } ∧
      ((∀ i y, i ≠ q.txn → s.txn i = some y → y.work.port? ≠ some p) → kept = [] →
        (t.port p).state = .disabled ∧ t.ev = { s.ev with flags := s.ev.flags ||| 0x4000#17 } ∧
        t.mg = s.mg.operationEnded) ∧
      ((∃ i y, i ≠ q.txn ∧ s.txn i = some y ∧ y.work.port? = some p) →
        (t.port p).state = .draining ∧ t.ev = s.ev ∧ t.mg = s.mg)) ∧
  ∀ (s : State) (b : Byte) (n : Nat), s.AtCommand .portEnable → n = (s.mg.arg0.extractLsb' 0 4).toNat →
    (3 < n → exec (.portEnable b) s = .next { s with
      mg := s.mg.afterCommand 7#8 .refused .badIndex, out := [.mgAck] }) ∧
    ∀ (p : PortIx), p.val = n →
      ((s.port p).state = .enabled → exec (.portEnable b) s = .next { s with
        mg := s.mg.afterCommand 7#8 .done .none, out := [.mgAck] }) ∧
      ((s.port p).state = .disabled → ∃ t, exec (.portEnable b) s = .next t ∧
        t = { s with rp := t.rp, mg := s.mg.afterCommand 7#8 .done .none, out := [.mgAck] } ∧
        s.PortBecomes t p { s.port p with state := .enabled })

/-- R188: POP_FAULT removes the oldest record, setting FAULT_OVERFLOW to 0 with the last one; with an empty list it is
refused with EMPTY; while CMD_STATUS reads BUSY it is refused with the mark. No flag, enable or counter changes, in any
mode. -/
def Obligations.PopFaultRemovesTheOldestRecord : Prop :=
  ∀ (s : State) (b : Byte), s.AtByte (.command .popFault) →
    (s.mg.status.state ≠ .busy →
      (∀ r rest, s.ev.faults = r :: rest → exec (.popFault b) s = .next { s with
        ev := { s.ev with faults := rest, overflow := if rest = [] then 0#8 else s.ev.overflow }
        mg := s.mg.afterCommand 8#8 .done .none
        out := [.mgAck] }) ∧
      (s.ev.faults = [] → exec (.popFault b) s = .next { s with
        mg := s.mg.afterCommand 8#8 .refused .empty, out := [.mgAck] })) ∧
    (s.mg.status.state = .busy → exec (.popFault b) s = .next { s with
      mg := { s.mg.afterByte with status := { s.mg.status with mark := true } }
      out := [.mgAck] })

/-- R27, R52, R197: READ_DIR copies a way and READ_TT a transaction entry into the four snapshot registers, each item in its
field with the codes of R194 and the positions that no field names 0, and is DONE; a free way or entry reads valid 0, an absent
field 0; an index out of range is
refused with BAD_INDEX and the snapshot as it was. -/
def Obligations.InspectionCommandsFillTheSnapshot : Prop :=
  ∀ (s : State) (b : Byte),
    (s.AtCommand .readDir →
      (255 < s.mg.arg0.toNat ∨ 3 < (s.mg.arg1.extractLsb' 0 4).toNat → exec (.readDir b) s = .next { s with
        mg := s.mg.afterCommand 0x0A#8 .refused .badIndex, out := [.mgAck] }) ∧
      ∀ (k : SetIx) (w : Way), k.val = s.mg.arg0.toNat → w.val = (s.mg.arg1.extractLsb' 0 4).toNat →
        ∃ t, exec (.readDir b) s = .next t ∧
          t = { s with
            mg := { s.mg.afterCommand 0x0A#8 .done .none with
              snap0 := t.mg.snap0, snap1 := t.mg.snap1, snap2 := 0#32,
              snap3 := BitVec.ofNat 32 (k.val + 256 * w.val) }
            out := [.mgAck] } ∧
          ((∀ e ∈ s.pd.sets[k.val], e.way ≠ w) → t.mg.snap0 = 0#32 ∧ t.mg.snap1 = 0#32) ∧
          ∀ e before after, s.pd.sets[k.val] = before ++ e :: after → (∀ e' ∈ before, e'.way ≠ w) → e.way = w →
            before.length ≤ 3 →
            t.mg.snap1.toNat = e.line.toNat ∧ t.mg.snap0.getLsbD 0 = true ∧ t.mg.snap0.getLsbD 31 = false ∧
            (t.mg.snap0.extractLsb' 1 2).toNat = (if e.state = .reserved then 1 else 2) ∧
            (t.mg.snap0.extractLsb' 3 2).toNat = (if e.policy = .wt then 1 else 2) ∧
            (t.mg.snap0.extractLsb' 5 2).toNat = before.length ∧ t.mg.snap0.getLsbD 7 = s.isLocked e.line ∧
            t.mg.snap0 &&& 0xFFFFFF00#32 = 0#32) ∧
    (s.AtCommand .readTt → ∀ n, n = (s.mg.arg0.extractLsb' 0 4).toNat →
      (11 < n → exec (.readTt b) s = .next { s with
        mg := s.mg.afterCommand 0x0B#8 .refused .badIndex, out := [.mgAck] }) ∧
      ∀ i : EntryIx, i.val = n → ∃ t, exec (.readTt b) s = .next t ∧
        t = { s with
          mg := { s.mg.afterCommand 0x0B#8 .done .none with
            snap0 := t.mg.snap0, snap1 := t.mg.snap1, snap2 := t.mg.snap2, snap3 := BitVec.ofNat 32 n }
          out := [.mgAck] } ∧
        t.mg.snap0.getLsbD 31 = true ∧
        (s.txn i = none → t.mg.snap0 = 0x80000000#32 ∧ t.mg.snap1 = 0#32 ∧ t.mg.snap2 = 0#32) ∧
        ∀ x v, s.txn i = some x → v = t.mg.snap0 → v.getLsbD 0 = true ∧ v &&& 0x7C000000#32 = 0#32 ∧
          t.mg.snap1.toNat = x.line.toNat ∧
          (x.work.kind, (v.extractLsb' 1 4).toNat) ∈ kindCodes ∧
          (x.work ≠ .recall .sweep → (x.work.issuer, (v.extractLsb' 5 3).toNat) ∈ issuerCodes) ∧
          (x.work = .recall .sweep → (v.extractLsb' 5 3).toNat = 7) ∧
          (∀ g, x.work.tag? = some g → (v.extractLsb' 8 4).toNat = g.val) ∧
          (x.work.tag? = none → v.extractLsb' 8 4 = 0#4) ∧
          (x.phase, (v.extractLsb' 12 4).toNat) ∈ phaseCodes ∧
          (x.probeMode, (v.extractLsb' 16 2).toNat) ∈ [(none, 0), (some ProbeMode.invalidate, 1), (some .keep, 2)] ∧
          (x.answer ≠ some .timeout → (x.answer, (v.extractLsb' 18 3).toNat) ∈
            [(none, 0), (some Answer.miss, 1), (some .clean, 2), (some .dirty, 3)]) ∧
          (x.result = none ∨ x.result = some .ok ∨ x.result = some .memError →
            (x.result, (v.extractLsb' 21 3).toNat) ∈ [(none, 0), (some ResultCode.ok, 1), (some .memError, 4)]) ∧
          v.getLsbD 24 = x.abandoned ∧
          (v.getLsbD 25 = true ↔ ∃ r, s.lockOf x.line = some r ∧ r.holder = .txn i) ∧
          t.mg.snap2.getLsbD 4 = x.link.isSome ∧
          (∀ f, x.link = some f → (t.mg.snap2.extractLsb' 0 4).toNat = f.val) ∧
          (x.link = none → t.mg.snap2.extractLsb' 0 4 = 0#4) ∧
          (∀ r, s.lockOf x.line = some r → r.waiters.length ≤ 11 →
            (t.mg.snap2.extractLsb' 8 4).toNat = r.waiters.length ∧ t.mg.snap2 &&& 0xFFFFF0E0#32 = 0#32) ∧
          (s.lockOf x.line = none →
            t.mg.snap2.extractLsb' 8 4 = 0#4 ∧ t.mg.snap2 &&& 0xFFFFF0E0#32 = 0#32))

/-- R191: CLEAR_COUNTERS sets all six counters to 0 and is DONE. R195: a code that names no command is refused with
BAD_INDEX and has no other effect; any command written while CMD_STATUS reads BUSY is refused with the mark, nothing else
changes, and the running command goes on. -/
def Obligations.ClearCountersUnknownAndBusyCommands : Prop :=
  (∀ (s : State) (b : Byte),
    (s.AtCommand .clearCounters → exec (.clearCounters b) s = .next { s with
      ev := { s.ev with counters :=
        { probes := 0#32, probesDirty := 0#32, recalls := 0#32, declinedFills := 0#32, retracts := 0#32,
          orphanEvicts := 0#32 } }
      mg := s.mg.afterCommand 9#8 .done .none
      out := [.mgAck] }) ∧
    (s.AtCommand .unknown → exec (.unknownCommand b) s = .next { s with
      mg := s.mg.afterCommand (s.mg.staged.b0.getD 0#8) .refused .badIndex, out := [.mgAck] })) ∧
  ∀ (s : State) (b : Byte) (i : Instr) (c : Cmd),
    (i, c) ∈ [(.writeRegion b, Cmd.writeRegion), (.setMode b, .setMode), (.sweep b, .sweep), (.resume b, .resume),
      (.release b, .release), (.portDisable b, .portDisable), (.portEnable b, .portEnable), (.popFault b, .popFault),
      (.clearCounters b, .clearCounters), (.readDir b, .readDir), (.readTt b, .readTt),
      (.unknownCommand b, .unknown)] →
    s.AtByte (.command c) → s.mg.status.state = .busy →
    exec i s = .next { s with
      mg := { s.mg.afterByte with status := { s.mg.status with mark := true } }
      out := [.mgAck] }

/-! ### Operations -/

/-- R82, R81: the attributes of a line are those of the first region entry that is valid and covers it, base/32 to (base +
2^k)/32 − 1, and the default attributes when there is none. -/
def Obligations.FirstCoveringRegionSuppliesTheAttributes : Prop :=
  ∀ (rm : RegionMap) (l : Line),
    let covers := fun n : Fin 8 => (rm.regions[n.val]).valid = true ∧
      (rm.regions[n.val]).base.toNat / 32 ≤ l.toNat ∧
      l.toNat + 1 ≤ ((rm.regions[n.val]).base.toNat + 2 ^ (rm.regions[n.val]).exponent.toNat) / 32
    (∀ n : Fin 8, covers n → (∀ m : Fin 8, m < n → ¬ covers m) → rm.resolve l = (rm.regions[n.val]).attr) ∧
      ((∀ n : Fin 8, ¬ covers n) → rm.resolve l = rm.defaults)

/-- R143: what each atomic operation does to the word at its offset: the new word in ascending address order, the old word
as the record's value, no byte outside the word touched, and CHANGED exactly when the new word differs from the old. -/
def Obligations.AtomicOperationsRewriteTheirWord : Prop :=
  ∀ (f : Fin 32) (d : LineData),
    (∀ (v : Vector Byte 4) (old new sum : Nat), f.val % 4 = 0 →
      (∀ _h : f.val + 3 < 32, old = (d[f.val]).toNat + 256 * (d[f.val + 1]).toNat + 65536 * (d[f.val + 2]).toNat +
        16777216 * (d[f.val + 3]).toNat) →
      new = v[0].toNat + 256 * v[1].toNat + 65536 * v[2].toNat + 16777216 * v[3].toNat →
      sum = (old + new) % 4294967296 →
      let r := runAtomic (.fetchAdd32 v) f d
      (∀ k : Fin 32, r.buf[k.val] =
        if f.val ≤ k.val ∧ k.val < f.val + 4 then BitVec.ofNat 8 (sum / 256 ^ (k.val - f.val)) else d[k.val]) ∧
      (∃ w : Vector Byte 4, r.old = .w4 w ∧ ∀ (j : Fin 4) (_h : f.val + j.val < 32), w[j.val] = d[f.val + j.val]) ∧
      (r.outcome = .changed ↔ new ≠ 0)) ∧
    (∀ v : Vector Byte 8, f.val % 8 = 0 →
      let r := runAtomic (.swap64 v) f d
      (∀ k : Fin 32, r.buf[k.val] =
        if h : f.val ≤ k.val ∧ k.val < f.val + 8 then v[k.val - f.val]'(by omega) else d[k.val]) ∧
      (∃ w : Vector Byte 8, r.old = .w8 w ∧ (∀ (j : Fin 8) (_h : f.val + j.val < 32), w[j.val] = d[f.val + j.val]) ∧
        (r.outcome = .changed ↔ v ≠ w))) ∧
    ∀ u v : Vector Byte 8, f.val % 8 = 0 →
      let r := runAtomic (.compareSwap64 u v) f d
      ∃ w : Vector Byte 8, r.old = .w8 w ∧ (∀ (j : Fin 8) (_h : f.val + j.val < 32), w[j.val] = d[f.val + j.val]) ∧
        (w = u → (∀ k : Fin 32, r.buf[k.val] =
          if h : f.val ≤ k.val ∧ k.val < f.val + 8 then v[k.val - f.val]'(by omega) else d[k.val]) ∧
          (r.outcome = .changed ↔ v ≠ w)) ∧
        (w ≠ u → r.buf = d ∧ r.outcome = .unchanged)

/-- Section 10.2 (R187): a record handed to the fault list joins its tail while it holds fewer than 4; with 4 it is not stored,
the older records stay, and FAULT_OVERFLOW rises by 1 up to 255. The flag is set in both cases, and the list never passes 4.
-/
def Obligations.FaultListKeepsTheOldestFour : Prop :=
  ∀ (s : State) (r : FaultRec), s.ev.faults.length ≤ 4 →
    ∃ e, s.reportError r = { s with ev := e } ∧ s.ev.Reported r e ∧ e.faults.length ≤ 4

/-! ### Rules of the whole machine -/

/-- R11, R46, R75, R79, R80, R113, R157, R183: what only named commands change. The region entries change by WRITE_REGION,
the default attributes by DEFAULT_ATTR, the limits and the admission policy by their registers, the enables by EVENT_ENABLE,
the round-robin position by a grant, a tag set by an accepted request or a taken response, and the outstanding requests by
an acceptance or a completion. R182, R184, R187 to R189, R178, R181: no command but a write of EVENT_FLAGS clears a flag,
none but POP_FAULT takes a record out of the fault list, and none but RELEASE takes a line out of the quarantine table. The
RESET pin apart. -/
def Obligations.OnlyTheirCommandsChangeSettingsAndRecords : Prop :=
  ∀ (c : Instr) (s t : State), exec c s = .next t → c ≠ .resetPinAssert → (∀ a b d, c ≠ .resetPinRelease a b d) →
    ((∀ b, c ≠ .writeRegion b) → t.rm.regions = s.rm.regions) ∧
    ((∀ b, c ≠ .defaultAttrWrite b) → t.rm.defaults = s.rm.defaults) ∧
    ((∀ b, c ≠ .probeTimesWrite b) → t.pu.probeLimit = s.pu.probeLimit ∧ t.pu.wbLimit = s.pu.wbLimit) ∧
    ((∀ b, c ≠ .lockLimitWrite b) → t.hp.lockLimit = s.hp.lockLimit) ∧
    ((∀ b, c ≠ .admitPolicyWrite b) → t.pd.admitPolicy = s.pd.admitPolicy) ∧
    ((∀ b, c ≠ .eventEnableWrite b) → t.ev.enables = s.ev.enables) ∧
    (c ≠ .admissionGrant → t.tt.roundRobin = s.tt.roundRobin) ∧
    ((∀ p r, c ≠ .requestOffer p r) → (∀ p, c ≠ .responseTaken p) → ∀ p, (t.port p).tags = (s.port p).tags) ∧
    (c ≠ .memRequestAccept → (∀ k, c ≠ .memCompletion k) → t.mp.outstanding = s.mp.outstanding) ∧
    ((∀ b, c ≠ .eventFlagsWrite b) → ∀ k, s.ev.flags.getLsbD k = true → t.ev.flags.getLsbD k = true) ∧
    ((∀ b, c ≠ .popFault b) → s.ev.faults <+: t.ev.faults) ∧
    ((∀ b, c ≠ .release b) → s.msc.quarantine.map QuarRec.line <+: t.msc.quarantine.map QuarRec.line)

/-- R2, R20: an entry becomes HELD only as a beat of a fill is delivered: every HELD entry after any other command stood
HELD before it, in the same set, way and policy. R98, R109, R115, R124, R133, R154: memory requests leave only as the
controller accepts one, beats only as the processor takes one, responses only as a requester takes one, refusals only at an
offer, a retract only at a DIRTY answer, a bus error only at a locked cycle. R58: a probe goes out only of a line that is
HELD, in a mode other than FAULTED, and the channel then holds it as outstanding with its answer timer at PROBE_LIMIT. -/
def Obligations.HeldEntriesAndOutputsComeFromTheirCommands : Prop :=
  (∀ (c : Instr) (s t : State), exec c s = .next t → c ≠ .hostBeatTaken →
    ∀ (k : SetIx), ∀ e ∈ t.pd.sets[k.val], e.state = .held → e ∈ s.pd.sets[k.val]) ∧
  (∀ (c : Instr) (s t : State), exec c s = .next t →
    (∀ l b, .lineRead l b ∈ t.out → c = .memRequestAccept) ∧
    (∀ l d, .lineWrite l d ∈ t.out → c = .memRequestAccept) ∧
    (∀ l m d, .maskedWrite l m d ∈ t.out → c = .memRequestAccept) ∧
    (∀ b d g e, .beat b d g e ∈ t.out → c = .hostBeatTaken) ∧
    (∀ p r, .response p r ∈ t.out → c = .responseTaken p) ∧
    (∀ p g k, .refusal p g k ∈ t.out → ∃ r, c = .requestOffer p r) ∧
    (.retract ∈ t.out → c = .probeAnswerDirty) ∧
    (.busError ∈ t.out → (∃ a m, c = .hostLread a m) ∨ ∃ a m e, c = .hostLwrite a m e)) ∧
  ∀ (c : Instr) (s t : State) (l : Line) (m : ProbeMode), exec c s = .next t → Output.probe l m ∈ t.out →
    t.isHeld l = true ∧ t.msc.mode ≠ .faulted ∧
      ∃ i, t.pu.channel = .outstanding i l m s.pu.probeLimit.toNat

/-! ### Properties every step keeps -/

/-- R1, R3: at every step no set comes to hold more than 4 entries, two entries in one way, two entries of one line, or an
entry of another set's line. -/
def Obligations.EveryStepKeepsTheDirectory : Prop :=
  ∀ s t : State, s.DirectoryKept → step s = .next t → t.DirectoryKept

/-- R37, R107, R125, R155, R178, R187: at every step the quarantine table, the fault list, the outstanding requests, the host
lock set and the ingress queues stay within their bounds, with no line twice in the quarantine table, in the host lock set or
among the lock records. R14, R38, R57, R153: so do the lock wait lists and the recall wait list (11, general entries alone),
the probe queue (12) and the memory port's waiting order (12), with no transaction twice in one of them. In states that no run
reaches these last bounds rest on the model's guards (log 19). -/
def Obligations.EveryStepKeepsTablesAndQueuesBounded : Prop :=
  ∀ s t : State, s.WithinCapacity → step s = .next t → t.WithinCapacity

/-- R119, R121, R125, R133: at every step each tag of a port stands at most once among its queued requests, its transactions in
the table and its responses, and the port's tag set holds exactly the tags that stand there. A response queue so holds at most
16. -/
def Obligations.EveryStepKeepsTheTags : Prop :=
  (∀ s t : State, s.TagsAccounted → step s = .next t → t.TagsAccounted) ∧
  ∀ s : State, s.TagsAccounted → ∀ p, (s.port p).responses.length ≤ 16

/-- R28, R75, R113: at every step entry 11 holds only a RECALL and no general entry one, and the limits stay in their
ranges. R166: while the mode is PASS the directory holds no entry. -/
def Obligations.EveryStepKeepsKindsLimitsAndPass : Prop :=
  (∀ s t : State, s.KindsInPlace → step s = .next t → t.KindsInPlace) ∧
  (∀ s t : State, s.LimitsInRange → step s = .next t → t.LimitsInRange) ∧
  ∀ s t : State, s.PassIsEmpty → step s = .next t → t.PassIsEmpty
end

