-- ==== Sys2Proof/Laws/State.lean ====
section
/-! SUPPORT. One lemma per part of State per update, each true by rfl: an operation leaves every block it does not own, and
gives the part it writes the value named. -/

namespace Sys2Proof.Machine

@[simp] theorem State.emit_pd (s : State) (o : Output) : (s.emit o).pd = s.pd := rfl
@[simp] theorem State.emit_tt (s : State) (o : Output) : (s.emit o).tt = s.tt := rfl
@[simp] theorem State.emit_pu (s : State) (o : Output) : (s.emit o).pu = s.pu := rfl
@[simp] theorem State.emit_rm (s : State) (o : Output) : (s.emit o).rm = s.rm := rfl
@[simp] theorem State.emit_hp (s : State) (o : Output) : (s.emit o).hp = s.hp := rfl
@[simp] theorem State.emit_rp (s : State) (o : Output) : (s.emit o).rp = s.rp := rfl
@[simp] theorem State.emit_mp (s : State) (o : Output) : (s.emit o).mp = s.mp := rfl
@[simp] theorem State.emit_msc (s : State) (o : Output) : (s.emit o).msc = s.msc := rfl
@[simp] theorem State.emit_ev (s : State) (o : Output) : (s.emit o).ev = s.ev := rfl
@[simp] theorem State.emit_mg (s : State) (o : Output) : (s.emit o).mg = s.mg := rfl
@[simp] theorem State.emit_pins (s : State) (o : Output) : (s.emit o).pins = s.pins := rfl
@[simp] theorem State.emit_pending (s : State) (o : Output) : (s.emit o).pending = s.pending := rfl
@[simp] theorem State.emit_out (s : State) (o : Output) : (s.emit o).out = s.out ++ [o] := rfl
@[simp] theorem State.emit_freeCount (s : State) (o : Output) : (s.emit o).freeCount = s.freeCount := rfl
@[simp] theorem State.clearOut_pd (s : State) : (s.clearOut).pd = s.pd := rfl
@[simp] theorem State.clearOut_tt (s : State) : (s.clearOut).tt = s.tt := rfl
@[simp] theorem State.clearOut_pu (s : State) : (s.clearOut).pu = s.pu := rfl
@[simp] theorem State.clearOut_rm (s : State) : (s.clearOut).rm = s.rm := rfl
@[simp] theorem State.clearOut_hp (s : State) : (s.clearOut).hp = s.hp := rfl
@[simp] theorem State.clearOut_rp (s : State) : (s.clearOut).rp = s.rp := rfl
@[simp] theorem State.clearOut_mp (s : State) : (s.clearOut).mp = s.mp := rfl
@[simp] theorem State.clearOut_msc (s : State) : (s.clearOut).msc = s.msc := rfl
@[simp] theorem State.clearOut_ev (s : State) : (s.clearOut).ev = s.ev := rfl
@[simp] theorem State.clearOut_mg (s : State) : (s.clearOut).mg = s.mg := rfl
@[simp] theorem State.clearOut_pins (s : State) : (s.clearOut).pins = s.pins := rfl
@[simp] theorem State.clearOut_pending (s : State) : (s.clearOut).pending = s.pending := rfl
@[simp] theorem State.clearOut_out (s : State) : (s.clearOut).out = [] := rfl
@[simp] theorem State.clearOut_freeCount (s : State) : (s.clearOut).freeCount = s.freeCount := rfl
@[simp] theorem State.raise_pd (s : State) (e : Event) : (s.raise e).pd = s.pd := rfl
@[simp] theorem State.raise_tt (s : State) (e : Event) : (s.raise e).tt = s.tt := rfl
@[simp] theorem State.raise_pu (s : State) (e : Event) : (s.raise e).pu = s.pu := rfl
@[simp] theorem State.raise_rm (s : State) (e : Event) : (s.raise e).rm = s.rm := rfl
@[simp] theorem State.raise_hp (s : State) (e : Event) : (s.raise e).hp = s.hp := rfl
@[simp] theorem State.raise_rp (s : State) (e : Event) : (s.raise e).rp = s.rp := rfl
@[simp] theorem State.raise_mp (s : State) (e : Event) : (s.raise e).mp = s.mp := rfl
@[simp] theorem State.raise_msc (s : State) (e : Event) : (s.raise e).msc = s.msc := rfl
@[simp] theorem State.raise_ev_flags (s : State) (e : Event) :
    (s.raise e).ev.flags = s.ev.flags ||| (1#17 <<< e.bit) := rfl
@[simp] theorem State.raise_ev_enables (s : State) (e : Event) : (s.raise e).ev.enables = s.ev.enables := rfl
@[simp] theorem State.raise_ev_faults (s : State) (e : Event) : (s.raise e).ev.faults = s.ev.faults := rfl
@[simp] theorem State.raise_ev_overflow (s : State) (e : Event) : (s.raise e).ev.overflow = s.ev.overflow := rfl
@[simp] theorem State.raise_ev_counters (s : State) (e : Event) : (s.raise e).ev.counters = s.ev.counters := rfl
@[simp] theorem State.raise_mg (s : State) (e : Event) : (s.raise e).mg = s.mg := rfl
@[simp] theorem State.raise_pins (s : State) (e : Event) : (s.raise e).pins = s.pins := rfl
@[simp] theorem State.raise_pending (s : State) (e : Event) : (s.raise e).pending = s.pending := rfl
@[simp] theorem State.raise_out (s : State) (e : Event) : (s.raise e).out = s.out := rfl
@[simp] theorem State.raise_freeCount (s : State) (e : Event) : (s.raise e).freeCount = s.freeCount := rfl
@[simp] theorem State.bump_pd (s : State) (k : Counter) : (s.bump k).pd = s.pd := rfl
@[simp] theorem State.bump_tt (s : State) (k : Counter) : (s.bump k).tt = s.tt := rfl
@[simp] theorem State.bump_pu (s : State) (k : Counter) : (s.bump k).pu = s.pu := rfl
@[simp] theorem State.bump_rm (s : State) (k : Counter) : (s.bump k).rm = s.rm := rfl
@[simp] theorem State.bump_hp (s : State) (k : Counter) : (s.bump k).hp = s.hp := rfl
@[simp] theorem State.bump_rp (s : State) (k : Counter) : (s.bump k).rp = s.rp := rfl
@[simp] theorem State.bump_mp (s : State) (k : Counter) : (s.bump k).mp = s.mp := rfl
@[simp] theorem State.bump_msc (s : State) (k : Counter) : (s.bump k).msc = s.msc := rfl
@[simp] theorem State.bump_ev_flags (s : State) (k : Counter) : (s.bump k).ev.flags = s.ev.flags := rfl
@[simp] theorem State.bump_ev_enables (s : State) (k : Counter) : (s.bump k).ev.enables = s.ev.enables := rfl
@[simp] theorem State.bump_ev_faults (s : State) (k : Counter) : (s.bump k).ev.faults = s.ev.faults := rfl
@[simp] theorem State.bump_ev_overflow (s : State) (k : Counter) : (s.bump k).ev.overflow = s.ev.overflow := rfl
@[simp] theorem State.bump_ev_counters (s : State) (k : Counter) : (s.bump k).ev.counters = s.ev.counters.bump k := rfl
@[simp] theorem State.bump_mg (s : State) (k : Counter) : (s.bump k).mg = s.mg := rfl
@[simp] theorem State.bump_pins (s : State) (k : Counter) : (s.bump k).pins = s.pins := rfl
@[simp] theorem State.bump_pending (s : State) (k : Counter) : (s.bump k).pending = s.pending := rfl
@[simp] theorem State.bump_out (s : State) (k : Counter) : (s.bump k).out = s.out := rfl
@[simp] theorem State.bump_freeCount (s : State) (k : Counter) : (s.bump k).freeCount = s.freeCount := rfl
@[simp] theorem State.putSet_pd_admitPolicy (s : State) (l : Line) (es : List DirEntry) :
    (s.putSet l es).pd.admitPolicy = s.pd.admitPolicy := rfl
@[simp] theorem State.putSet_tt (s : State) (l : Line) (es : List DirEntry) : (s.putSet l es).tt = s.tt := rfl
@[simp] theorem State.putSet_pu (s : State) (l : Line) (es : List DirEntry) : (s.putSet l es).pu = s.pu := rfl
@[simp] theorem State.putSet_rm (s : State) (l : Line) (es : List DirEntry) : (s.putSet l es).rm = s.rm := rfl
@[simp] theorem State.putSet_hp (s : State) (l : Line) (es : List DirEntry) : (s.putSet l es).hp = s.hp := rfl
@[simp] theorem State.putSet_rp (s : State) (l : Line) (es : List DirEntry) : (s.putSet l es).rp = s.rp := rfl
@[simp] theorem State.putSet_mp (s : State) (l : Line) (es : List DirEntry) : (s.putSet l es).mp = s.mp := rfl
@[simp] theorem State.putSet_msc (s : State) (l : Line) (es : List DirEntry) : (s.putSet l es).msc = s.msc := rfl
@[simp] theorem State.putSet_ev (s : State) (l : Line) (es : List DirEntry) : (s.putSet l es).ev = s.ev := rfl
@[simp] theorem State.putSet_mg (s : State) (l : Line) (es : List DirEntry) : (s.putSet l es).mg = s.mg := rfl
@[simp] theorem State.putSet_pins (s : State) (l : Line) (es : List DirEntry) : (s.putSet l es).pins = s.pins := rfl
@[simp] theorem State.putSet_pending (s : State) (l : Line) (es : List DirEntry) :
    (s.putSet l es).pending = s.pending := rfl
@[simp] theorem State.putSet_out (s : State) (l : Line) (es : List DirEntry) : (s.putSet l es).out = s.out := rfl
@[simp] theorem State.putSet_freeCount (s : State) (l : Line) (es : List DirEntry) :
    (s.putSet l es).freeCount = s.freeCount := rfl
@[simp] theorem State.clearDirectory_pd_sets (s : State) : (s.clearDirectory).pd.sets = Vector.replicate 256 [] := rfl
@[simp] theorem State.clearDirectory_pd_admitPolicy (s : State) :
    (s.clearDirectory).pd.admitPolicy = s.pd.admitPolicy := rfl
@[simp] theorem State.clearDirectory_tt (s : State) : (s.clearDirectory).tt = s.tt := rfl
@[simp] theorem State.clearDirectory_pu (s : State) : (s.clearDirectory).pu = s.pu := rfl
@[simp] theorem State.clearDirectory_rm (s : State) : (s.clearDirectory).rm = s.rm := rfl
@[simp] theorem State.clearDirectory_hp (s : State) : (s.clearDirectory).hp = s.hp := rfl
@[simp] theorem State.clearDirectory_rp (s : State) : (s.clearDirectory).rp = s.rp := rfl
@[simp] theorem State.clearDirectory_mp (s : State) : (s.clearDirectory).mp = s.mp := rfl
@[simp] theorem State.clearDirectory_msc (s : State) : (s.clearDirectory).msc = s.msc := rfl
@[simp] theorem State.clearDirectory_ev (s : State) : (s.clearDirectory).ev = s.ev := rfl
@[simp] theorem State.clearDirectory_mg (s : State) : (s.clearDirectory).mg = s.mg := rfl
@[simp] theorem State.clearDirectory_pins (s : State) : (s.clearDirectory).pins = s.pins := rfl
@[simp] theorem State.clearDirectory_pending (s : State) : (s.clearDirectory).pending = s.pending := rfl
@[simp] theorem State.clearDirectory_out (s : State) : (s.clearDirectory).out = s.out := rfl
@[simp] theorem State.clearDirectory_freeCount (s : State) : (s.clearDirectory).freeCount = s.freeCount := rfl
@[simp] theorem State.putTxn_pd (s : State) (i : EntryIx) (t : Option Txn) : (s.putTxn i t).pd = s.pd := rfl
@[simp] theorem State.putTxn_tt_entries (s : State) (i : EntryIx) (t : Option Txn) :
    (s.putTxn i t).tt.entries = s.tt.entries.set i.val t i.isLt := rfl
@[simp] theorem State.putTxn_tt_locks (s : State) (i : EntryIx) (t : Option Txn) :
    (s.putTxn i t).tt.locks = s.tt.locks := rfl
@[simp] theorem State.putTxn_tt_recallWait (s : State) (i : EntryIx) (t : Option Txn) :
    (s.putTxn i t).tt.recallWait = s.tt.recallWait := rfl
@[simp] theorem State.putTxn_tt_roundRobin (s : State) (i : EntryIx) (t : Option Txn) :
    (s.putTxn i t).tt.roundRobin = s.tt.roundRobin := rfl
@[simp] theorem State.putTxn_pu (s : State) (i : EntryIx) (t : Option Txn) : (s.putTxn i t).pu = s.pu := rfl
@[simp] theorem State.putTxn_rm (s : State) (i : EntryIx) (t : Option Txn) : (s.putTxn i t).rm = s.rm := rfl
@[simp] theorem State.putTxn_hp (s : State) (i : EntryIx) (t : Option Txn) : (s.putTxn i t).hp = s.hp := rfl
@[simp] theorem State.putTxn_rp (s : State) (i : EntryIx) (t : Option Txn) : (s.putTxn i t).rp = s.rp := rfl
@[simp] theorem State.putTxn_mp (s : State) (i : EntryIx) (t : Option Txn) : (s.putTxn i t).mp = s.mp := rfl
@[simp] theorem State.putTxn_msc (s : State) (i : EntryIx) (t : Option Txn) : (s.putTxn i t).msc = s.msc := rfl
@[simp] theorem State.putTxn_ev (s : State) (i : EntryIx) (t : Option Txn) : (s.putTxn i t).ev = s.ev := rfl
@[simp] theorem State.putTxn_mg (s : State) (i : EntryIx) (t : Option Txn) : (s.putTxn i t).mg = s.mg := rfl
@[simp] theorem State.putTxn_pins (s : State) (i : EntryIx) (t : Option Txn) : (s.putTxn i t).pins = s.pins := rfl
@[simp] theorem State.putTxn_pending (s : State) (i : EntryIx) (t : Option Txn) :
    (s.putTxn i t).pending = s.pending := rfl
@[simp] theorem State.putTxn_out (s : State) (i : EntryIx) (t : Option Txn) : (s.putTxn i t).out = s.out := rfl
@[simp] theorem State.putTxn_freeCount (s : State) (i : EntryIx) (t : Option Txn) :
    (s.putTxn i t).freeCount = s.freeCount := rfl
@[simp] theorem State.modTxn_pd (s : State) (i : EntryIx) (f : Txn → Txn) : (s.modTxn i f).pd = s.pd := rfl
@[simp] theorem State.modTxn_tt_locks (s : State) (i : EntryIx) (f : Txn → Txn) :
    (s.modTxn i f).tt.locks = s.tt.locks := rfl
@[simp] theorem State.modTxn_tt_recallWait (s : State) (i : EntryIx) (f : Txn → Txn) :
    (s.modTxn i f).tt.recallWait = s.tt.recallWait := rfl
@[simp] theorem State.modTxn_tt_roundRobin (s : State) (i : EntryIx) (f : Txn → Txn) :
    (s.modTxn i f).tt.roundRobin = s.tt.roundRobin := rfl
@[simp] theorem State.modTxn_pu (s : State) (i : EntryIx) (f : Txn → Txn) : (s.modTxn i f).pu = s.pu := rfl
@[simp] theorem State.modTxn_rm (s : State) (i : EntryIx) (f : Txn → Txn) : (s.modTxn i f).rm = s.rm := rfl
@[simp] theorem State.modTxn_hp (s : State) (i : EntryIx) (f : Txn → Txn) : (s.modTxn i f).hp = s.hp := rfl
@[simp] theorem State.modTxn_rp (s : State) (i : EntryIx) (f : Txn → Txn) : (s.modTxn i f).rp = s.rp := rfl
@[simp] theorem State.modTxn_mp (s : State) (i : EntryIx) (f : Txn → Txn) : (s.modTxn i f).mp = s.mp := rfl
@[simp] theorem State.modTxn_msc (s : State) (i : EntryIx) (f : Txn → Txn) : (s.modTxn i f).msc = s.msc := rfl
@[simp] theorem State.modTxn_ev (s : State) (i : EntryIx) (f : Txn → Txn) : (s.modTxn i f).ev = s.ev := rfl
@[simp] theorem State.modTxn_mg (s : State) (i : EntryIx) (f : Txn → Txn) : (s.modTxn i f).mg = s.mg := rfl
@[simp] theorem State.modTxn_pins (s : State) (i : EntryIx) (f : Txn → Txn) : (s.modTxn i f).pins = s.pins := rfl
@[simp] theorem State.modTxn_pending (s : State) (i : EntryIx) (f : Txn → Txn) :
    (s.modTxn i f).pending = s.pending := rfl
@[simp] theorem State.modTxn_out (s : State) (i : EntryIx) (f : Txn → Txn) : (s.modTxn i f).out = s.out := rfl
@[simp] theorem State.modTxn_freeCount (s : State) (i : EntryIx) (f : Txn → Txn) :
    (s.modTxn i f).freeCount = s.freeCount := rfl
@[simp] theorem State.freeEntry_pd (s : State) (i : EntryIx) : (s.freeEntry i).pd = s.pd := rfl
@[simp] theorem State.freeEntry_tt_locks (s : State) (i : EntryIx) : (s.freeEntry i).tt.locks = s.tt.locks := rfl
@[simp] theorem State.freeEntry_tt_recallWait (s : State) (i : EntryIx) :
    (s.freeEntry i).tt.recallWait = s.tt.recallWait := rfl
@[simp] theorem State.freeEntry_tt_roundRobin (s : State) (i : EntryIx) :
    (s.freeEntry i).tt.roundRobin = s.tt.roundRobin := rfl
@[simp] theorem State.freeEntry_pu (s : State) (i : EntryIx) : (s.freeEntry i).pu = s.pu := rfl
@[simp] theorem State.freeEntry_rm (s : State) (i : EntryIx) : (s.freeEntry i).rm = s.rm := rfl
@[simp] theorem State.freeEntry_hp (s : State) (i : EntryIx) : (s.freeEntry i).hp = s.hp := rfl
@[simp] theorem State.freeEntry_rp (s : State) (i : EntryIx) : (s.freeEntry i).rp = s.rp := rfl
@[simp] theorem State.freeEntry_mp (s : State) (i : EntryIx) : (s.freeEntry i).mp = s.mp := rfl
@[simp] theorem State.freeEntry_msc (s : State) (i : EntryIx) : (s.freeEntry i).msc = s.msc := rfl
@[simp] theorem State.freeEntry_ev (s : State) (i : EntryIx) : (s.freeEntry i).ev = s.ev := rfl
@[simp] theorem State.freeEntry_mg (s : State) (i : EntryIx) : (s.freeEntry i).mg = s.mg := rfl
@[simp] theorem State.freeEntry_pins (s : State) (i : EntryIx) : (s.freeEntry i).pins = s.pins := rfl
@[simp] theorem State.freeEntry_pending (s : State) (i : EntryIx) : (s.freeEntry i).pending = s.pending := rfl
@[simp] theorem State.freeEntry_out (s : State) (i : EntryIx) : (s.freeEntry i).out = s.out := rfl
@[simp] theorem State.freeEntry_freeCount (s : State) (i : EntryIx) : (s.freeEntry i).freeCount = s.freeCount := rfl
@[simp] theorem State.setPhase_pd (s : State) (i : EntryIx) (p : Phase) : (s.setPhase i p).pd = s.pd := rfl
@[simp] theorem State.setPhase_tt_locks (s : State) (i : EntryIx) (p : Phase) :
    (s.setPhase i p).tt.locks = s.tt.locks := rfl
@[simp] theorem State.setPhase_tt_recallWait (s : State) (i : EntryIx) (p : Phase) :
    (s.setPhase i p).tt.recallWait = s.tt.recallWait := rfl
@[simp] theorem State.setPhase_tt_roundRobin (s : State) (i : EntryIx) (p : Phase) :
    (s.setPhase i p).tt.roundRobin = s.tt.roundRobin := rfl
@[simp] theorem State.setPhase_pu (s : State) (i : EntryIx) (p : Phase) : (s.setPhase i p).pu = s.pu := rfl
@[simp] theorem State.setPhase_rm (s : State) (i : EntryIx) (p : Phase) : (s.setPhase i p).rm = s.rm := rfl
@[simp] theorem State.setPhase_hp (s : State) (i : EntryIx) (p : Phase) : (s.setPhase i p).hp = s.hp := rfl
@[simp] theorem State.setPhase_rp (s : State) (i : EntryIx) (p : Phase) : (s.setPhase i p).rp = s.rp := rfl
@[simp] theorem State.setPhase_mp (s : State) (i : EntryIx) (p : Phase) : (s.setPhase i p).mp = s.mp := rfl
@[simp] theorem State.setPhase_msc (s : State) (i : EntryIx) (p : Phase) : (s.setPhase i p).msc = s.msc := rfl
@[simp] theorem State.setPhase_ev (s : State) (i : EntryIx) (p : Phase) : (s.setPhase i p).ev = s.ev := rfl
@[simp] theorem State.setPhase_mg (s : State) (i : EntryIx) (p : Phase) : (s.setPhase i p).mg = s.mg := rfl
@[simp] theorem State.setPhase_pins (s : State) (i : EntryIx) (p : Phase) : (s.setPhase i p).pins = s.pins := rfl
@[simp] theorem State.setPhase_pending (s : State) (i : EntryIx) (p : Phase) :
    (s.setPhase i p).pending = s.pending := rfl
@[simp] theorem State.setPhase_out (s : State) (i : EntryIx) (p : Phase) : (s.setPhase i p).out = s.out := rfl
@[simp] theorem State.setPhase_freeCount (s : State) (i : EntryIx) (p : Phase) :
    (s.setPhase i p).freeCount = s.freeCount := rfl
@[simp] theorem State.clearLink_pd (s : State) : (s.clearLink).pd = s.pd := rfl
@[simp] theorem State.clearLink_tt_locks (s : State) : (s.clearLink).tt.locks = s.tt.locks := rfl
@[simp] theorem State.clearLink_tt_recallWait (s : State) : (s.clearLink).tt.recallWait = s.tt.recallWait := rfl
@[simp] theorem State.clearLink_tt_roundRobin (s : State) : (s.clearLink).tt.roundRobin = s.tt.roundRobin := rfl
@[simp] theorem State.clearLink_pu (s : State) : (s.clearLink).pu = s.pu := rfl
@[simp] theorem State.clearLink_rm (s : State) : (s.clearLink).rm = s.rm := rfl
@[simp] theorem State.clearLink_hp (s : State) : (s.clearLink).hp = s.hp := rfl
@[simp] theorem State.clearLink_rp (s : State) : (s.clearLink).rp = s.rp := rfl
@[simp] theorem State.clearLink_mp (s : State) : (s.clearLink).mp = s.mp := rfl
@[simp] theorem State.clearLink_msc (s : State) : (s.clearLink).msc = s.msc := rfl
@[simp] theorem State.clearLink_ev (s : State) : (s.clearLink).ev = s.ev := rfl
@[simp] theorem State.clearLink_mg (s : State) : (s.clearLink).mg = s.mg := rfl
@[simp] theorem State.clearLink_pins (s : State) : (s.clearLink).pins = s.pins := rfl
@[simp] theorem State.clearLink_pending (s : State) : (s.clearLink).pending = s.pending := rfl
@[simp] theorem State.clearLink_out (s : State) : (s.clearLink).out = s.out := rfl
@[simp] theorem State.clearLink_freeCount (s : State) : (s.clearLink).freeCount = s.freeCount := rfl
@[simp] theorem State.putLock_pd (s : State) (r : LockRec) : (s.putLock r).pd = s.pd := rfl
@[simp] theorem State.putLock_tt_entries (s : State) (r : LockRec) : (s.putLock r).tt.entries = s.tt.entries := rfl
@[simp] theorem State.putLock_tt_locks (s : State) (r : LockRec) :
    (s.putLock r).tt.locks = r :: s.tt.locks.filter fun q => q.line != r.line := rfl
@[simp] theorem State.putLock_tt_recallWait (s : State) (r : LockRec) :
    (s.putLock r).tt.recallWait = s.tt.recallWait := rfl
@[simp] theorem State.putLock_tt_roundRobin (s : State) (r : LockRec) :
    (s.putLock r).tt.roundRobin = s.tt.roundRobin := rfl
@[simp] theorem State.putLock_pu (s : State) (r : LockRec) : (s.putLock r).pu = s.pu := rfl
@[simp] theorem State.putLock_rm (s : State) (r : LockRec) : (s.putLock r).rm = s.rm := rfl
@[simp] theorem State.putLock_hp (s : State) (r : LockRec) : (s.putLock r).hp = s.hp := rfl
@[simp] theorem State.putLock_rp (s : State) (r : LockRec) : (s.putLock r).rp = s.rp := rfl
@[simp] theorem State.putLock_mp (s : State) (r : LockRec) : (s.putLock r).mp = s.mp := rfl
@[simp] theorem State.putLock_msc (s : State) (r : LockRec) : (s.putLock r).msc = s.msc := rfl
@[simp] theorem State.putLock_ev (s : State) (r : LockRec) : (s.putLock r).ev = s.ev := rfl
@[simp] theorem State.putLock_mg (s : State) (r : LockRec) : (s.putLock r).mg = s.mg := rfl
@[simp] theorem State.putLock_pins (s : State) (r : LockRec) : (s.putLock r).pins = s.pins := rfl
@[simp] theorem State.putLock_pending (s : State) (r : LockRec) : (s.putLock r).pending = s.pending := rfl
@[simp] theorem State.putLock_out (s : State) (r : LockRec) : (s.putLock r).out = s.out := rfl
@[simp] theorem State.putLock_freeCount (s : State) (r : LockRec) : (s.putLock r).freeCount = s.freeCount := rfl
@[simp] theorem State.dropLock_pd (s : State) (l : Line) : (s.dropLock l).pd = s.pd := rfl
@[simp] theorem State.dropLock_tt_entries (s : State) (l : Line) : (s.dropLock l).tt.entries = s.tt.entries := rfl
@[simp] theorem State.dropLock_tt_locks (s : State) (l : Line) :
    (s.dropLock l).tt.locks = s.tt.locks.filter fun q => q.line != l := rfl
@[simp] theorem State.dropLock_tt_recallWait (s : State) (l : Line) :
    (s.dropLock l).tt.recallWait = s.tt.recallWait := rfl
@[simp] theorem State.dropLock_tt_roundRobin (s : State) (l : Line) :
    (s.dropLock l).tt.roundRobin = s.tt.roundRobin := rfl
@[simp] theorem State.dropLock_pu (s : State) (l : Line) : (s.dropLock l).pu = s.pu := rfl
@[simp] theorem State.dropLock_rm (s : State) (l : Line) : (s.dropLock l).rm = s.rm := rfl
@[simp] theorem State.dropLock_hp (s : State) (l : Line) : (s.dropLock l).hp = s.hp := rfl
@[simp] theorem State.dropLock_rp (s : State) (l : Line) : (s.dropLock l).rp = s.rp := rfl
@[simp] theorem State.dropLock_mp (s : State) (l : Line) : (s.dropLock l).mp = s.mp := rfl
@[simp] theorem State.dropLock_msc (s : State) (l : Line) : (s.dropLock l).msc = s.msc := rfl
@[simp] theorem State.dropLock_ev (s : State) (l : Line) : (s.dropLock l).ev = s.ev := rfl
@[simp] theorem State.dropLock_mg (s : State) (l : Line) : (s.dropLock l).mg = s.mg := rfl
@[simp] theorem State.dropLock_pins (s : State) (l : Line) : (s.dropLock l).pins = s.pins := rfl
@[simp] theorem State.dropLock_pending (s : State) (l : Line) : (s.dropLock l).pending = s.pending := rfl
@[simp] theorem State.dropLock_out (s : State) (l : Line) : (s.dropLock l).out = s.out := rfl
@[simp] theorem State.dropLock_freeCount (s : State) (l : Line) : (s.dropLock l).freeCount = s.freeCount := rfl
@[simp] theorem State.setRoundRobin_pd (s : State) (p : PortIx) : (s.setRoundRobin p).pd = s.pd := rfl
@[simp] theorem State.setRoundRobin_tt_entries (s : State) (p : PortIx) :
    (s.setRoundRobin p).tt.entries = s.tt.entries := rfl
@[simp] theorem State.setRoundRobin_tt_locks (s : State) (p : PortIx) : (s.setRoundRobin p).tt.locks = s.tt.locks := rfl
@[simp] theorem State.setRoundRobin_tt_recallWait (s : State) (p : PortIx) :
    (s.setRoundRobin p).tt.recallWait = s.tt.recallWait := rfl
@[simp] theorem State.setRoundRobin_tt_roundRobin (s : State) (p : PortIx) :
    (s.setRoundRobin p).tt.roundRobin = p := rfl
@[simp] theorem State.setRoundRobin_pu (s : State) (p : PortIx) : (s.setRoundRobin p).pu = s.pu := rfl
@[simp] theorem State.setRoundRobin_rm (s : State) (p : PortIx) : (s.setRoundRobin p).rm = s.rm := rfl
@[simp] theorem State.setRoundRobin_hp (s : State) (p : PortIx) : (s.setRoundRobin p).hp = s.hp := rfl
@[simp] theorem State.setRoundRobin_rp (s : State) (p : PortIx) : (s.setRoundRobin p).rp = s.rp := rfl
@[simp] theorem State.setRoundRobin_mp (s : State) (p : PortIx) : (s.setRoundRobin p).mp = s.mp := rfl
@[simp] theorem State.setRoundRobin_msc (s : State) (p : PortIx) : (s.setRoundRobin p).msc = s.msc := rfl
@[simp] theorem State.setRoundRobin_ev (s : State) (p : PortIx) : (s.setRoundRobin p).ev = s.ev := rfl
@[simp] theorem State.setRoundRobin_mg (s : State) (p : PortIx) : (s.setRoundRobin p).mg = s.mg := rfl
@[simp] theorem State.setRoundRobin_pins (s : State) (p : PortIx) : (s.setRoundRobin p).pins = s.pins := rfl
@[simp] theorem State.setRoundRobin_pending (s : State) (p : PortIx) : (s.setRoundRobin p).pending = s.pending := rfl
@[simp] theorem State.setRoundRobin_out (s : State) (p : PortIx) : (s.setRoundRobin p).out = s.out := rfl
@[simp] theorem State.setRoundRobin_freeCount (s : State) (p : PortIx) :
    (s.setRoundRobin p).freeCount = s.freeCount := rfl
@[simp] theorem State.startPendingTimers_pd (s : State) : (s.startPendingTimers).pd = s.pd := rfl
@[simp] theorem State.startPendingTimers_tt_locks (s : State) : (s.startPendingTimers).tt.locks = s.tt.locks := rfl
@[simp] theorem State.startPendingTimers_tt_recallWait (s : State) :
    (s.startPendingTimers).tt.recallWait = s.tt.recallWait := rfl
@[simp] theorem State.startPendingTimers_tt_roundRobin (s : State) :
    (s.startPendingTimers).tt.roundRobin = s.tt.roundRobin := rfl
@[simp] theorem State.startPendingTimers_pu (s : State) : (s.startPendingTimers).pu = s.pu := rfl
@[simp] theorem State.startPendingTimers_rm (s : State) : (s.startPendingTimers).rm = s.rm := rfl
@[simp] theorem State.startPendingTimers_hp (s : State) : (s.startPendingTimers).hp = s.hp := rfl
@[simp] theorem State.startPendingTimers_rp (s : State) : (s.startPendingTimers).rp = s.rp := rfl
@[simp] theorem State.startPendingTimers_mp (s : State) : (s.startPendingTimers).mp = s.mp := rfl
@[simp] theorem State.startPendingTimers_msc (s : State) : (s.startPendingTimers).msc = s.msc := rfl
@[simp] theorem State.startPendingTimers_ev (s : State) : (s.startPendingTimers).ev = s.ev := rfl
@[simp] theorem State.startPendingTimers_mg (s : State) : (s.startPendingTimers).mg = s.mg := rfl
@[simp] theorem State.startPendingTimers_pins (s : State) : (s.startPendingTimers).pins = s.pins := rfl
@[simp] theorem State.startPendingTimers_pending (s : State) : (s.startPendingTimers).pending = s.pending := rfl
@[simp] theorem State.startPendingTimers_out (s : State) : (s.startPendingTimers).out = s.out := rfl
@[simp] theorem State.startPendingTimers_freeCount (s : State) : (s.startPendingTimers).freeCount = s.freeCount := rfl
@[simp] theorem State.toMemWait_pd (s : State) (i : EntryIx) : (s.toMemWait i).pd = s.pd := rfl
@[simp] theorem State.toMemWait_tt_locks (s : State) (i : EntryIx) : (s.toMemWait i).tt.locks = s.tt.locks := rfl
@[simp] theorem State.toMemWait_tt_recallWait (s : State) (i : EntryIx) :
    (s.toMemWait i).tt.recallWait = s.tt.recallWait := rfl
@[simp] theorem State.toMemWait_tt_roundRobin (s : State) (i : EntryIx) :
    (s.toMemWait i).tt.roundRobin = s.tt.roundRobin := rfl
@[simp] theorem State.toMemWait_pu (s : State) (i : EntryIx) : (s.toMemWait i).pu = s.pu := rfl
@[simp] theorem State.toMemWait_rm (s : State) (i : EntryIx) : (s.toMemWait i).rm = s.rm := rfl
@[simp] theorem State.toMemWait_hp (s : State) (i : EntryIx) : (s.toMemWait i).hp = s.hp := rfl
@[simp] theorem State.toMemWait_rp (s : State) (i : EntryIx) : (s.toMemWait i).rp = s.rp := rfl
@[simp] theorem State.toMemWait_mp_outstanding (s : State) (i : EntryIx) :
    (s.toMemWait i).mp.outstanding = s.mp.outstanding := rfl
@[simp] theorem State.toMemWait_mp_waiting (s : State) (i : EntryIx) :
    (s.toMemWait i).mp.waiting = joinTail s.mp.waiting i := rfl
@[simp] theorem State.toMemWait_msc (s : State) (i : EntryIx) : (s.toMemWait i).msc = s.msc := rfl
@[simp] theorem State.toMemWait_ev (s : State) (i : EntryIx) : (s.toMemWait i).ev = s.ev := rfl
@[simp] theorem State.toMemWait_mg (s : State) (i : EntryIx) : (s.toMemWait i).mg = s.mg := rfl
@[simp] theorem State.toMemWait_pins (s : State) (i : EntryIx) : (s.toMemWait i).pins = s.pins := rfl
@[simp] theorem State.toMemWait_pending (s : State) (i : EntryIx) : (s.toMemWait i).pending = s.pending := rfl
@[simp] theorem State.toMemWait_out (s : State) (i : EntryIx) : (s.toMemWait i).out = s.out := rfl
@[simp] theorem State.toMemWait_freeCount (s : State) (i : EntryIx) : (s.toMemWait i).freeCount = s.freeCount := rfl
@[simp] theorem State.leaveMemWait_pd (s : State) (i : EntryIx) : (s.leaveMemWait i).pd = s.pd := rfl
@[simp] theorem State.leaveMemWait_tt (s : State) (i : EntryIx) : (s.leaveMemWait i).tt = s.tt := rfl
@[simp] theorem State.leaveMemWait_pu (s : State) (i : EntryIx) : (s.leaveMemWait i).pu = s.pu := rfl
@[simp] theorem State.leaveMemWait_rm (s : State) (i : EntryIx) : (s.leaveMemWait i).rm = s.rm := rfl
@[simp] theorem State.leaveMemWait_hp (s : State) (i : EntryIx) : (s.leaveMemWait i).hp = s.hp := rfl
@[simp] theorem State.leaveMemWait_rp (s : State) (i : EntryIx) : (s.leaveMemWait i).rp = s.rp := rfl
@[simp] theorem State.leaveMemWait_mp_outstanding (s : State) (i : EntryIx) :
    (s.leaveMemWait i).mp.outstanding = s.mp.outstanding := rfl
@[simp] theorem State.leaveMemWait_mp_waiting (s : State) (i : EntryIx) :
    (s.leaveMemWait i).mp.waiting = s.mp.waiting.filter fun j => j != i := rfl
@[simp] theorem State.leaveMemWait_msc (s : State) (i : EntryIx) : (s.leaveMemWait i).msc = s.msc := rfl
@[simp] theorem State.leaveMemWait_ev (s : State) (i : EntryIx) : (s.leaveMemWait i).ev = s.ev := rfl
@[simp] theorem State.leaveMemWait_mg (s : State) (i : EntryIx) : (s.leaveMemWait i).mg = s.mg := rfl
@[simp] theorem State.leaveMemWait_pins (s : State) (i : EntryIx) : (s.leaveMemWait i).pins = s.pins := rfl
@[simp] theorem State.leaveMemWait_pending (s : State) (i : EntryIx) : (s.leaveMemWait i).pending = s.pending := rfl
@[simp] theorem State.leaveMemWait_out (s : State) (i : EntryIx) : (s.leaveMemWait i).out = s.out := rfl
@[simp] theorem State.leaveMemWait_freeCount (s : State) (i : EntryIx) :
    (s.leaveMemWait i).freeCount = s.freeCount := rfl
@[simp] theorem State.setQueue_pd (s : State) (q : List EntryIx) : (s.setQueue q).pd = s.pd := rfl
@[simp] theorem State.setQueue_tt (s : State) (q : List EntryIx) : (s.setQueue q).tt = s.tt := rfl
@[simp] theorem State.setQueue_pu_queue (s : State) (q : List EntryIx) : (s.setQueue q).pu.queue = q := rfl
@[simp] theorem State.setQueue_pu_channel (s : State) (q : List EntryIx) :
    (s.setQueue q).pu.channel = s.pu.channel := rfl
@[simp] theorem State.setQueue_pu_probeLimit (s : State) (q : List EntryIx) :
    (s.setQueue q).pu.probeLimit = s.pu.probeLimit := rfl
@[simp] theorem State.setQueue_pu_wbLimit (s : State) (q : List EntryIx) :
    (s.setQueue q).pu.wbLimit = s.pu.wbLimit := rfl
@[simp] theorem State.setQueue_rm (s : State) (q : List EntryIx) : (s.setQueue q).rm = s.rm := rfl
@[simp] theorem State.setQueue_hp (s : State) (q : List EntryIx) : (s.setQueue q).hp = s.hp := rfl
@[simp] theorem State.setQueue_rp (s : State) (q : List EntryIx) : (s.setQueue q).rp = s.rp := rfl
@[simp] theorem State.setQueue_mp (s : State) (q : List EntryIx) : (s.setQueue q).mp = s.mp := rfl
@[simp] theorem State.setQueue_msc (s : State) (q : List EntryIx) : (s.setQueue q).msc = s.msc := rfl
@[simp] theorem State.setQueue_ev (s : State) (q : List EntryIx) : (s.setQueue q).ev = s.ev := rfl
@[simp] theorem State.setQueue_mg (s : State) (q : List EntryIx) : (s.setQueue q).mg = s.mg := rfl
@[simp] theorem State.setQueue_pins (s : State) (q : List EntryIx) : (s.setQueue q).pins = s.pins := rfl
@[simp] theorem State.setQueue_pending (s : State) (q : List EntryIx) : (s.setQueue q).pending = s.pending := rfl
@[simp] theorem State.setQueue_out (s : State) (q : List EntryIx) : (s.setQueue q).out = s.out := rfl
@[simp] theorem State.setQueue_freeCount (s : State) (q : List EntryIx) : (s.setQueue q).freeCount = s.freeCount := rfl
@[simp] theorem State.setChannel_pd (s : State) (c : Channel) : (s.setChannel c).pd = s.pd := rfl
@[simp] theorem State.setChannel_tt (s : State) (c : Channel) : (s.setChannel c).tt = s.tt := rfl
@[simp] theorem State.setChannel_pu_queue (s : State) (c : Channel) : (s.setChannel c).pu.queue = s.pu.queue := rfl
@[simp] theorem State.setChannel_pu_channel (s : State) (c : Channel) : (s.setChannel c).pu.channel = c := rfl
@[simp] theorem State.setChannel_pu_probeLimit (s : State) (c : Channel) :
    (s.setChannel c).pu.probeLimit = s.pu.probeLimit := rfl
@[simp] theorem State.setChannel_pu_wbLimit (s : State) (c : Channel) :
    (s.setChannel c).pu.wbLimit = s.pu.wbLimit := rfl
@[simp] theorem State.setChannel_rm (s : State) (c : Channel) : (s.setChannel c).rm = s.rm := rfl
@[simp] theorem State.setChannel_hp (s : State) (c : Channel) : (s.setChannel c).hp = s.hp := rfl
@[simp] theorem State.setChannel_rp (s : State) (c : Channel) : (s.setChannel c).rp = s.rp := rfl
@[simp] theorem State.setChannel_mp (s : State) (c : Channel) : (s.setChannel c).mp = s.mp := rfl
@[simp] theorem State.setChannel_msc (s : State) (c : Channel) : (s.setChannel c).msc = s.msc := rfl
@[simp] theorem State.setChannel_ev (s : State) (c : Channel) : (s.setChannel c).ev = s.ev := rfl
@[simp] theorem State.setChannel_mg (s : State) (c : Channel) : (s.setChannel c).mg = s.mg := rfl
@[simp] theorem State.setChannel_pins (s : State) (c : Channel) : (s.setChannel c).pins = s.pins := rfl
@[simp] theorem State.setChannel_pending (s : State) (c : Channel) : (s.setChannel c).pending = s.pending := rfl
@[simp] theorem State.setChannel_out (s : State) (c : Channel) : (s.setChannel c).out = s.out := rfl
@[simp] theorem State.setChannel_freeCount (s : State) (c : Channel) : (s.setChannel c).freeCount = s.freeCount := rfl
@[simp] theorem State.leaveQueue_pd (s : State) (i : EntryIx) : (s.leaveQueue i).pd = s.pd := rfl
@[simp] theorem State.leaveQueue_tt (s : State) (i : EntryIx) : (s.leaveQueue i).tt = s.tt := rfl
@[simp] theorem State.leaveQueue_pu_queue (s : State) (i : EntryIx) :
    (s.leaveQueue i).pu.queue = s.pu.queue.filter fun j => j != i := rfl
@[simp] theorem State.leaveQueue_pu_channel (s : State) (i : EntryIx) :
    (s.leaveQueue i).pu.channel = s.pu.channel := rfl
@[simp] theorem State.leaveQueue_pu_probeLimit (s : State) (i : EntryIx) :
    (s.leaveQueue i).pu.probeLimit = s.pu.probeLimit := rfl
@[simp] theorem State.leaveQueue_pu_wbLimit (s : State) (i : EntryIx) :
    (s.leaveQueue i).pu.wbLimit = s.pu.wbLimit := rfl
@[simp] theorem State.leaveQueue_rm (s : State) (i : EntryIx) : (s.leaveQueue i).rm = s.rm := rfl
@[simp] theorem State.leaveQueue_hp (s : State) (i : EntryIx) : (s.leaveQueue i).hp = s.hp := rfl
@[simp] theorem State.leaveQueue_rp (s : State) (i : EntryIx) : (s.leaveQueue i).rp = s.rp := rfl
@[simp] theorem State.leaveQueue_mp (s : State) (i : EntryIx) : (s.leaveQueue i).mp = s.mp := rfl
@[simp] theorem State.leaveQueue_msc (s : State) (i : EntryIx) : (s.leaveQueue i).msc = s.msc := rfl
@[simp] theorem State.leaveQueue_ev (s : State) (i : EntryIx) : (s.leaveQueue i).ev = s.ev := rfl
@[simp] theorem State.leaveQueue_mg (s : State) (i : EntryIx) : (s.leaveQueue i).mg = s.mg := rfl
@[simp] theorem State.leaveQueue_pins (s : State) (i : EntryIx) : (s.leaveQueue i).pins = s.pins := rfl
@[simp] theorem State.leaveQueue_pending (s : State) (i : EntryIx) : (s.leaveQueue i).pending = s.pending := rfl
@[simp] theorem State.leaveQueue_out (s : State) (i : EntryIx) : (s.leaveQueue i).out = s.out := rfl
@[simp] theorem State.leaveQueue_freeCount (s : State) (i : EntryIx) : (s.leaveQueue i).freeCount = s.freeCount := rfl
@[simp] theorem State.setCycle_pd (s : State) (c : Option Cycle) : (s.setCycle c).pd = s.pd := rfl
@[simp] theorem State.setCycle_tt (s : State) (c : Option Cycle) : (s.setCycle c).tt = s.tt := rfl
@[simp] theorem State.setCycle_pu (s : State) (c : Option Cycle) : (s.setCycle c).pu = s.pu := rfl
@[simp] theorem State.setCycle_rm (s : State) (c : Option Cycle) : (s.setCycle c).rm = s.rm := rfl
@[simp] theorem State.setCycle_hp_cycle (s : State) (c : Option Cycle) : (s.setCycle c).hp.cycle = c := rfl
@[simp] theorem State.setCycle_hp_lockSet (s : State) (c : Option Cycle) :
    (s.setCycle c).hp.lockSet = s.hp.lockSet := rfl
@[simp] theorem State.setCycle_hp_lockTimer (s : State) (c : Option Cycle) :
    (s.setCycle c).hp.lockTimer = s.hp.lockTimer := rfl
@[simp] theorem State.setCycle_hp_broken (s : State) (c : Option Cycle) : (s.setCycle c).hp.broken = s.hp.broken := rfl
@[simp] theorem State.setCycle_hp_lastLocked (s : State) (c : Option Cycle) :
    (s.setCycle c).hp.lastLocked = s.hp.lastLocked := rfl
@[simp] theorem State.setCycle_hp_lockLimit (s : State) (c : Option Cycle) :
    (s.setCycle c).hp.lockLimit = s.hp.lockLimit := rfl
@[simp] theorem State.setCycle_rp (s : State) (c : Option Cycle) : (s.setCycle c).rp = s.rp := rfl
@[simp] theorem State.setCycle_mp (s : State) (c : Option Cycle) : (s.setCycle c).mp = s.mp := rfl
@[simp] theorem State.setCycle_msc (s : State) (c : Option Cycle) : (s.setCycle c).msc = s.msc := rfl
@[simp] theorem State.setCycle_ev (s : State) (c : Option Cycle) : (s.setCycle c).ev = s.ev := rfl
@[simp] theorem State.setCycle_mg (s : State) (c : Option Cycle) : (s.setCycle c).mg = s.mg := rfl
@[simp] theorem State.setCycle_pins (s : State) (c : Option Cycle) : (s.setCycle c).pins = s.pins := rfl
@[simp] theorem State.setCycle_pending (s : State) (c : Option Cycle) : (s.setCycle c).pending = s.pending := rfl
@[simp] theorem State.setCycle_out (s : State) (c : Option Cycle) : (s.setCycle c).out = s.out := rfl
@[simp] theorem State.setCycle_freeCount (s : State) (c : Option Cycle) : (s.setCycle c).freeCount = s.freeCount := rfl
@[simp] theorem State.endCycle_pd (s : State) : (s.endCycle).pd = s.pd := rfl
@[simp] theorem State.endCycle_tt_locks (s : State) : (s.endCycle).tt.locks = s.tt.locks := rfl
@[simp] theorem State.endCycle_tt_recallWait (s : State) : (s.endCycle).tt.recallWait = s.tt.recallWait := rfl
@[simp] theorem State.endCycle_tt_roundRobin (s : State) : (s.endCycle).tt.roundRobin = s.tt.roundRobin := rfl
@[simp] theorem State.endCycle_pu (s : State) : (s.endCycle).pu = s.pu := rfl
@[simp] theorem State.endCycle_rm (s : State) : (s.endCycle).rm = s.rm := rfl
@[simp] theorem State.endCycle_hp_cycle (s : State) : (s.endCycle).hp.cycle = none := rfl
@[simp] theorem State.endCycle_hp_lockSet (s : State) : (s.endCycle).hp.lockSet = s.hp.lockSet := rfl
@[simp] theorem State.endCycle_hp_lockTimer (s : State) : (s.endCycle).hp.lockTimer = s.hp.lockTimer := rfl
@[simp] theorem State.endCycle_hp_broken (s : State) : (s.endCycle).hp.broken = s.hp.broken := rfl
@[simp] theorem State.endCycle_hp_lastLocked (s : State) : (s.endCycle).hp.lastLocked = s.hp.lastLocked := rfl
@[simp] theorem State.endCycle_hp_lockLimit (s : State) : (s.endCycle).hp.lockLimit = s.hp.lockLimit := rfl
@[simp] theorem State.endCycle_rp (s : State) : (s.endCycle).rp = s.rp := rfl
@[simp] theorem State.endCycle_mp (s : State) : (s.endCycle).mp = s.mp := rfl
@[simp] theorem State.endCycle_msc (s : State) : (s.endCycle).msc = s.msc := rfl
@[simp] theorem State.endCycle_ev (s : State) : (s.endCycle).ev = s.ev := rfl
@[simp] theorem State.endCycle_mg (s : State) : (s.endCycle).mg = s.mg := rfl
@[simp] theorem State.endCycle_pins (s : State) : (s.endCycle).pins = s.pins := rfl
@[simp] theorem State.endCycle_pending (s : State) : (s.endCycle).pending = s.pending := rfl
@[simp] theorem State.endCycle_out (s : State) : (s.endCycle).out = s.out := rfl
@[simp] theorem State.endCycle_freeCount (s : State) : (s.endCycle).freeCount = s.freeCount := rfl
@[simp] theorem State.emptyLockSet_pd (s : State) : (s.emptyLockSet).pd = s.pd := rfl
@[simp] theorem State.emptyLockSet_tt (s : State) : (s.emptyLockSet).tt = s.tt := rfl
@[simp] theorem State.emptyLockSet_pu (s : State) : (s.emptyLockSet).pu = s.pu := rfl
@[simp] theorem State.emptyLockSet_rm (s : State) : (s.emptyLockSet).rm = s.rm := rfl
@[simp] theorem State.emptyLockSet_hp_cycle (s : State) : (s.emptyLockSet).hp.cycle = s.hp.cycle := rfl
@[simp] theorem State.emptyLockSet_hp_lockSet (s : State) : (s.emptyLockSet).hp.lockSet = [] := rfl
@[simp] theorem State.emptyLockSet_hp_lockTimer (s : State) : (s.emptyLockSet).hp.lockTimer = none := rfl
@[simp] theorem State.emptyLockSet_hp_broken (s : State) : (s.emptyLockSet).hp.broken = s.hp.broken := rfl
@[simp] theorem State.emptyLockSet_hp_lastLocked (s : State) : (s.emptyLockSet).hp.lastLocked = none := rfl
@[simp] theorem State.emptyLockSet_hp_lockLimit (s : State) : (s.emptyLockSet).hp.lockLimit = s.hp.lockLimit := rfl
@[simp] theorem State.emptyLockSet_rp (s : State) : (s.emptyLockSet).rp = s.rp := rfl
@[simp] theorem State.emptyLockSet_mp (s : State) : (s.emptyLockSet).mp = s.mp := rfl
@[simp] theorem State.emptyLockSet_msc (s : State) : (s.emptyLockSet).msc = s.msc := rfl
@[simp] theorem State.emptyLockSet_ev (s : State) : (s.emptyLockSet).ev = s.ev := rfl
@[simp] theorem State.emptyLockSet_mg (s : State) : (s.emptyLockSet).mg = s.mg := rfl
@[simp] theorem State.emptyLockSet_pins (s : State) : (s.emptyLockSet).pins = s.pins := rfl
@[simp] theorem State.emptyLockSet_pending (s : State) : (s.emptyLockSet).pending = s.pending := rfl
@[simp] theorem State.emptyLockSet_out (s : State) : (s.emptyLockSet).out = s.out := rfl
@[simp] theorem State.emptyLockSet_freeCount (s : State) : (s.emptyLockSet).freeCount = s.freeCount := rfl
@[simp] theorem State.clearBroken_pd (s : State) : (s.clearBroken).pd = s.pd := rfl
@[simp] theorem State.clearBroken_tt (s : State) : (s.clearBroken).tt = s.tt := rfl
@[simp] theorem State.clearBroken_pu (s : State) : (s.clearBroken).pu = s.pu := rfl
@[simp] theorem State.clearBroken_rm (s : State) : (s.clearBroken).rm = s.rm := rfl
@[simp] theorem State.clearBroken_hp_cycle (s : State) : (s.clearBroken).hp.cycle = s.hp.cycle := rfl
@[simp] theorem State.clearBroken_hp_lockSet (s : State) : (s.clearBroken).hp.lockSet = s.hp.lockSet := rfl
@[simp] theorem State.clearBroken_hp_lockTimer (s : State) : (s.clearBroken).hp.lockTimer = s.hp.lockTimer := rfl
@[simp] theorem State.clearBroken_hp_broken (s : State) : (s.clearBroken).hp.broken = false := rfl
@[simp] theorem State.clearBroken_hp_lastLocked (s : State) : (s.clearBroken).hp.lastLocked = s.hp.lastLocked := rfl
@[simp] theorem State.clearBroken_hp_lockLimit (s : State) : (s.clearBroken).hp.lockLimit = s.hp.lockLimit := rfl
@[simp] theorem State.clearBroken_rp (s : State) : (s.clearBroken).rp = s.rp := rfl
@[simp] theorem State.clearBroken_mp (s : State) : (s.clearBroken).mp = s.mp := rfl
@[simp] theorem State.clearBroken_msc (s : State) : (s.clearBroken).msc = s.msc := rfl
@[simp] theorem State.clearBroken_ev (s : State) : (s.clearBroken).ev = s.ev := rfl
@[simp] theorem State.clearBroken_mg (s : State) : (s.clearBroken).mg = s.mg := rfl
@[simp] theorem State.clearBroken_pins (s : State) : (s.clearBroken).pins = s.pins := rfl
@[simp] theorem State.clearBroken_pending (s : State) : (s.clearBroken).pending = s.pending := rfl
@[simp] theorem State.clearBroken_out (s : State) : (s.clearBroken).out = s.out := rfl
@[simp] theorem State.clearBroken_freeCount (s : State) : (s.clearBroken).freeCount = s.freeCount := rfl
@[simp] theorem State.modPort_pd (s : State) (p : PortIx) (f : Port → Port) : (s.modPort p f).pd = s.pd := rfl
@[simp] theorem State.modPort_tt (s : State) (p : PortIx) (f : Port → Port) : (s.modPort p f).tt = s.tt := rfl
@[simp] theorem State.modPort_pu (s : State) (p : PortIx) (f : Port → Port) : (s.modPort p f).pu = s.pu := rfl
@[simp] theorem State.modPort_rm (s : State) (p : PortIx) (f : Port → Port) : (s.modPort p f).rm = s.rm := rfl
@[simp] theorem State.modPort_hp (s : State) (p : PortIx) (f : Port → Port) : (s.modPort p f).hp = s.hp := rfl
@[simp] theorem State.modPort_mp (s : State) (p : PortIx) (f : Port → Port) : (s.modPort p f).mp = s.mp := rfl
@[simp] theorem State.modPort_msc (s : State) (p : PortIx) (f : Port → Port) : (s.modPort p f).msc = s.msc := rfl
@[simp] theorem State.modPort_ev (s : State) (p : PortIx) (f : Port → Port) : (s.modPort p f).ev = s.ev := rfl
@[simp] theorem State.modPort_mg (s : State) (p : PortIx) (f : Port → Port) : (s.modPort p f).mg = s.mg := rfl
@[simp] theorem State.modPort_pins (s : State) (p : PortIx) (f : Port → Port) : (s.modPort p f).pins = s.pins := rfl
@[simp] theorem State.modPort_pending (s : State) (p : PortIx) (f : Port → Port) :
    (s.modPort p f).pending = s.pending := rfl
@[simp] theorem State.modPort_out (s : State) (p : PortIx) (f : Port → Port) : (s.modPort p f).out = s.out := rfl
@[simp] theorem State.modPort_freeCount (s : State) (p : PortIx) (f : Port → Port) :
    (s.modPort p f).freeCount = s.freeCount := rfl
@[simp] theorem State.placeResponse_pd (s : State) (p : PortIx) (r : Response) : (s.placeResponse p r).pd = s.pd := rfl
@[simp] theorem State.placeResponse_tt (s : State) (p : PortIx) (r : Response) : (s.placeResponse p r).tt = s.tt := rfl
@[simp] theorem State.placeResponse_pu (s : State) (p : PortIx) (r : Response) : (s.placeResponse p r).pu = s.pu := rfl
@[simp] theorem State.placeResponse_rm (s : State) (p : PortIx) (r : Response) : (s.placeResponse p r).rm = s.rm := rfl
@[simp] theorem State.placeResponse_hp (s : State) (p : PortIx) (r : Response) : (s.placeResponse p r).hp = s.hp := rfl
@[simp] theorem State.placeResponse_mp (s : State) (p : PortIx) (r : Response) : (s.placeResponse p r).mp = s.mp := rfl
@[simp] theorem State.placeResponse_msc (s : State) (p : PortIx) (r : Response) :
    (s.placeResponse p r).msc = s.msc := rfl
@[simp] theorem State.placeResponse_ev (s : State) (p : PortIx) (r : Response) : (s.placeResponse p r).ev = s.ev := rfl
@[simp] theorem State.placeResponse_mg (s : State) (p : PortIx) (r : Response) : (s.placeResponse p r).mg = s.mg := rfl
@[simp] theorem State.placeResponse_pins (s : State) (p : PortIx) (r : Response) :
    (s.placeResponse p r).pins = s.pins := rfl
@[simp] theorem State.placeResponse_pending (s : State) (p : PortIx) (r : Response) :
    (s.placeResponse p r).pending = s.pending := rfl
@[simp] theorem State.placeResponse_out (s : State) (p : PortIx) (r : Response) :
    (s.placeResponse p r).out = s.out := rfl
@[simp] theorem State.placeResponse_freeCount (s : State) (p : PortIx) (r : Response) :
    (s.placeResponse p r).freeCount = s.freeCount := rfl
@[simp] theorem State.setPortState_pd (s : State) (p : PortIx) (st : PortState) : (s.setPortState p st).pd = s.pd := rfl
@[simp] theorem State.setPortState_tt (s : State) (p : PortIx) (st : PortState) : (s.setPortState p st).tt = s.tt := rfl
@[simp] theorem State.setPortState_pu (s : State) (p : PortIx) (st : PortState) : (s.setPortState p st).pu = s.pu := rfl
@[simp] theorem State.setPortState_rm (s : State) (p : PortIx) (st : PortState) : (s.setPortState p st).rm = s.rm := rfl
@[simp] theorem State.setPortState_hp (s : State) (p : PortIx) (st : PortState) : (s.setPortState p st).hp = s.hp := rfl
@[simp] theorem State.setPortState_mp (s : State) (p : PortIx) (st : PortState) : (s.setPortState p st).mp = s.mp := rfl
@[simp] theorem State.setPortState_msc (s : State) (p : PortIx) (st : PortState) :
    (s.setPortState p st).msc = s.msc := rfl
@[simp] theorem State.setPortState_ev (s : State) (p : PortIx) (st : PortState) : (s.setPortState p st).ev = s.ev := rfl
@[simp] theorem State.setPortState_mg (s : State) (p : PortIx) (st : PortState) : (s.setPortState p st).mg = s.mg := rfl
@[simp] theorem State.setPortState_pins (s : State) (p : PortIx) (st : PortState) :
    (s.setPortState p st).pins = s.pins := rfl
@[simp] theorem State.setPortState_pending (s : State) (p : PortIx) (st : PortState) :
    (s.setPortState p st).pending = s.pending := rfl
@[simp] theorem State.setPortState_out (s : State) (p : PortIx) (st : PortState) :
    (s.setPortState p st).out = s.out := rfl
@[simp] theorem State.setPortState_freeCount (s : State) (p : PortIx) (st : PortState) :
    (s.setPortState p st).freeCount = s.freeCount := rfl
@[simp] theorem State.setMode_pd (s : State) (m : Mode) : (s.setMode m).pd = s.pd := rfl
@[simp] theorem State.setMode_tt (s : State) (m : Mode) : (s.setMode m).tt = s.tt := rfl
@[simp] theorem State.setMode_pu (s : State) (m : Mode) : (s.setMode m).pu = s.pu := rfl
@[simp] theorem State.setMode_rm (s : State) (m : Mode) : (s.setMode m).rm = s.rm := rfl
@[simp] theorem State.setMode_hp (s : State) (m : Mode) : (s.setMode m).hp = s.hp := rfl
@[simp] theorem State.setMode_rp (s : State) (m : Mode) : (s.setMode m).rp = s.rp := rfl
@[simp] theorem State.setMode_mp (s : State) (m : Mode) : (s.setMode m).mp = s.mp := rfl
@[simp] theorem State.setMode_msc_mode (s : State) (m : Mode) : (s.setMode m).msc.mode = m := rfl
@[simp] theorem State.setMode_msc_sweep (s : State) (m : Mode) : (s.setMode m).msc.sweep = s.msc.sweep := rfl
@[simp] theorem State.setMode_msc_quarantine (s : State) (m : Mode) :
    (s.setMode m).msc.quarantine = s.msc.quarantine := rfl
@[simp] theorem State.setMode_ev (s : State) (m : Mode) : (s.setMode m).ev = s.ev := rfl
@[simp] theorem State.setMode_mg (s : State) (m : Mode) : (s.setMode m).mg = s.mg := rfl
@[simp] theorem State.setMode_pins (s : State) (m : Mode) : (s.setMode m).pins = s.pins := rfl
@[simp] theorem State.setMode_pending (s : State) (m : Mode) : (s.setMode m).pending = s.pending := rfl
@[simp] theorem State.setMode_out (s : State) (m : Mode) : (s.setMode m).out = s.out := rfl
@[simp] theorem State.setMode_freeCount (s : State) (m : Mode) : (s.setMode m).freeCount = s.freeCount := rfl
@[simp] theorem State.setSweep_pd (s : State) (w : Sweep) : (s.setSweep w).pd = s.pd := rfl
@[simp] theorem State.setSweep_tt (s : State) (w : Sweep) : (s.setSweep w).tt = s.tt := rfl
@[simp] theorem State.setSweep_pu (s : State) (w : Sweep) : (s.setSweep w).pu = s.pu := rfl
@[simp] theorem State.setSweep_rm (s : State) (w : Sweep) : (s.setSweep w).rm = s.rm := rfl
@[simp] theorem State.setSweep_hp (s : State) (w : Sweep) : (s.setSweep w).hp = s.hp := rfl
@[simp] theorem State.setSweep_rp (s : State) (w : Sweep) : (s.setSweep w).rp = s.rp := rfl
@[simp] theorem State.setSweep_mp (s : State) (w : Sweep) : (s.setSweep w).mp = s.mp := rfl
@[simp] theorem State.setSweep_msc_mode (s : State) (w : Sweep) : (s.setSweep w).msc.mode = s.msc.mode := rfl
@[simp] theorem State.setSweep_msc_sweep (s : State) (w : Sweep) : (s.setSweep w).msc.sweep = w := rfl
@[simp] theorem State.setSweep_msc_quarantine (s : State) (w : Sweep) :
    (s.setSweep w).msc.quarantine = s.msc.quarantine := rfl
@[simp] theorem State.setSweep_ev (s : State) (w : Sweep) : (s.setSweep w).ev = s.ev := rfl
@[simp] theorem State.setSweep_mg (s : State) (w : Sweep) : (s.setSweep w).mg = s.mg := rfl
@[simp] theorem State.setSweep_pins (s : State) (w : Sweep) : (s.setSweep w).pins = s.pins := rfl
@[simp] theorem State.setSweep_pending (s : State) (w : Sweep) : (s.setSweep w).pending = s.pending := rfl
@[simp] theorem State.setSweep_out (s : State) (w : Sweep) : (s.setSweep w).out = s.out := rfl
@[simp] theorem State.setSweep_freeCount (s : State) (w : Sweep) : (s.setSweep w).freeCount = s.freeCount := rfl
@[simp] theorem State.setQuarantine_pd (s : State) (q : List QuarRec) : (s.setQuarantine q).pd = s.pd := rfl
@[simp] theorem State.setQuarantine_tt (s : State) (q : List QuarRec) : (s.setQuarantine q).tt = s.tt := rfl
@[simp] theorem State.setQuarantine_pu (s : State) (q : List QuarRec) : (s.setQuarantine q).pu = s.pu := rfl
@[simp] theorem State.setQuarantine_rm (s : State) (q : List QuarRec) : (s.setQuarantine q).rm = s.rm := rfl
@[simp] theorem State.setQuarantine_hp (s : State) (q : List QuarRec) : (s.setQuarantine q).hp = s.hp := rfl
@[simp] theorem State.setQuarantine_rp (s : State) (q : List QuarRec) : (s.setQuarantine q).rp = s.rp := rfl
@[simp] theorem State.setQuarantine_mp (s : State) (q : List QuarRec) : (s.setQuarantine q).mp = s.mp := rfl
@[simp] theorem State.setQuarantine_msc_mode (s : State) (q : List QuarRec) :
    (s.setQuarantine q).msc.mode = s.msc.mode := rfl
@[simp] theorem State.setQuarantine_msc_sweep (s : State) (q : List QuarRec) :
    (s.setQuarantine q).msc.sweep = s.msc.sweep := rfl
@[simp] theorem State.setQuarantine_msc_quarantine (s : State) (q : List QuarRec) :
    (s.setQuarantine q).msc.quarantine = q := rfl
@[simp] theorem State.setQuarantine_ev (s : State) (q : List QuarRec) : (s.setQuarantine q).ev = s.ev := rfl
@[simp] theorem State.setQuarantine_mg (s : State) (q : List QuarRec) : (s.setQuarantine q).mg = s.mg := rfl
@[simp] theorem State.setQuarantine_pins (s : State) (q : List QuarRec) : (s.setQuarantine q).pins = s.pins := rfl
@[simp] theorem State.setQuarantine_pending (s : State) (q : List QuarRec) :
    (s.setQuarantine q).pending = s.pending := rfl
@[simp] theorem State.setQuarantine_out (s : State) (q : List QuarRec) : (s.setQuarantine q).out = s.out := rfl
@[simp] theorem State.setQuarantine_freeCount (s : State) (q : List QuarRec) :
    (s.setQuarantine q).freeCount = s.freeCount := rfl
@[simp] theorem State.setStatus_pd (s : State) (c : CmdState) (r : Reason) : (s.setStatus c r).pd = s.pd := rfl
@[simp] theorem State.setStatus_tt (s : State) (c : CmdState) (r : Reason) : (s.setStatus c r).tt = s.tt := rfl
@[simp] theorem State.setStatus_pu (s : State) (c : CmdState) (r : Reason) : (s.setStatus c r).pu = s.pu := rfl
@[simp] theorem State.setStatus_rm (s : State) (c : CmdState) (r : Reason) : (s.setStatus c r).rm = s.rm := rfl
@[simp] theorem State.setStatus_hp (s : State) (c : CmdState) (r : Reason) : (s.setStatus c r).hp = s.hp := rfl
@[simp] theorem State.setStatus_rp (s : State) (c : CmdState) (r : Reason) : (s.setStatus c r).rp = s.rp := rfl
@[simp] theorem State.setStatus_mp (s : State) (c : CmdState) (r : Reason) : (s.setStatus c r).mp = s.mp := rfl
@[simp] theorem State.setStatus_msc (s : State) (c : CmdState) (r : Reason) : (s.setStatus c r).msc = s.msc := rfl
@[simp] theorem State.setStatus_ev (s : State) (c : CmdState) (r : Reason) : (s.setStatus c r).ev = s.ev := rfl
@[simp] theorem State.setStatus_mg_pointer (s : State) (c : CmdState) (r : Reason) :
    (s.setStatus c r).mg.pointer = s.mg.pointer := rfl
@[simp] theorem State.setStatus_mg_bus (s : State) (c : CmdState) (r : Reason) :
    (s.setStatus c r).mg.bus = s.mg.bus := rfl
@[simp] theorem State.setStatus_mg_staged (s : State) (c : CmdState) (r : Reason) :
    (s.setStatus c r).mg.staged = s.mg.staged := rfl
@[simp] theorem State.setStatus_mg_captures (s : State) (c : CmdState) (r : Reason) :
    (s.setStatus c r).mg.captures = s.mg.captures := rfl
@[simp] theorem State.setStatus_mg_arg0 (s : State) (c : CmdState) (r : Reason) :
    (s.setStatus c r).mg.arg0 = s.mg.arg0 := rfl
@[simp] theorem State.setStatus_mg_arg1 (s : State) (c : CmdState) (r : Reason) :
    (s.setStatus c r).mg.arg1 = s.mg.arg1 := rfl
@[simp] theorem State.setStatus_mg_snap0 (s : State) (c : CmdState) (r : Reason) :
    (s.setStatus c r).mg.snap0 = s.mg.snap0 := rfl
@[simp] theorem State.setStatus_mg_snap1 (s : State) (c : CmdState) (r : Reason) :
    (s.setStatus c r).mg.snap1 = s.mg.snap1 := rfl
@[simp] theorem State.setStatus_mg_snap2 (s : State) (c : CmdState) (r : Reason) :
    (s.setStatus c r).mg.snap2 = s.mg.snap2 := rfl
@[simp] theorem State.setStatus_mg_snap3 (s : State) (c : CmdState) (r : Reason) :
    (s.setStatus c r).mg.snap3 = s.mg.snap3 := rfl
@[simp] theorem State.setStatus_pins (s : State) (c : CmdState) (r : Reason) : (s.setStatus c r).pins = s.pins := rfl
@[simp] theorem State.setStatus_pending (s : State) (c : CmdState) (r : Reason) :
    (s.setStatus c r).pending = s.pending := rfl
@[simp] theorem State.setStatus_out (s : State) (c : CmdState) (r : Reason) : (s.setStatus c r).out = s.out := rfl
@[simp] theorem State.setStatus_freeCount (s : State) (c : CmdState) (r : Reason) :
    (s.setStatus c r).freeCount = s.freeCount := rfl
@[simp] theorem State.setMark_pd (s : State) : (s.setMark).pd = s.pd := rfl
@[simp] theorem State.setMark_tt (s : State) : (s.setMark).tt = s.tt := rfl
@[simp] theorem State.setMark_pu (s : State) : (s.setMark).pu = s.pu := rfl
@[simp] theorem State.setMark_rm (s : State) : (s.setMark).rm = s.rm := rfl
@[simp] theorem State.setMark_hp (s : State) : (s.setMark).hp = s.hp := rfl
@[simp] theorem State.setMark_rp (s : State) : (s.setMark).rp = s.rp := rfl
@[simp] theorem State.setMark_mp (s : State) : (s.setMark).mp = s.mp := rfl
@[simp] theorem State.setMark_msc (s : State) : (s.setMark).msc = s.msc := rfl
@[simp] theorem State.setMark_ev (s : State) : (s.setMark).ev = s.ev := rfl
@[simp] theorem State.setMark_mg_pointer (s : State) : (s.setMark).mg.pointer = s.mg.pointer := rfl
@[simp] theorem State.setMark_mg_bus (s : State) : (s.setMark).mg.bus = s.mg.bus := rfl
@[simp] theorem State.setMark_mg_staged (s : State) : (s.setMark).mg.staged = s.mg.staged := rfl
@[simp] theorem State.setMark_mg_captures (s : State) : (s.setMark).mg.captures = s.mg.captures := rfl
@[simp] theorem State.setMark_mg_arg0 (s : State) : (s.setMark).mg.arg0 = s.mg.arg0 := rfl
@[simp] theorem State.setMark_mg_arg1 (s : State) : (s.setMark).mg.arg1 = s.mg.arg1 := rfl
@[simp] theorem State.setMark_mg_snap0 (s : State) : (s.setMark).mg.snap0 = s.mg.snap0 := rfl
@[simp] theorem State.setMark_mg_snap1 (s : State) : (s.setMark).mg.snap1 = s.mg.snap1 := rfl
@[simp] theorem State.setMark_mg_snap2 (s : State) : (s.setMark).mg.snap2 = s.mg.snap2 := rfl
@[simp] theorem State.setMark_mg_snap3 (s : State) : (s.setMark).mg.snap3 = s.mg.snap3 := rfl
@[simp] theorem State.setMark_pins (s : State) : (s.setMark).pins = s.pins := rfl
@[simp] theorem State.setMark_pending (s : State) : (s.setMark).pending = s.pending := rfl
@[simp] theorem State.setMark_out (s : State) : (s.setMark).out = s.out := rfl
@[simp] theorem State.setMark_freeCount (s : State) : (s.setMark).freeCount = s.freeCount := rfl
@[simp] theorem State.fillSnap_pd (s : State) (a b c d : Reg) : (s.fillSnap a b c d).pd = s.pd := rfl
@[simp] theorem State.fillSnap_tt (s : State) (a b c d : Reg) : (s.fillSnap a b c d).tt = s.tt := rfl
@[simp] theorem State.fillSnap_pu (s : State) (a b c d : Reg) : (s.fillSnap a b c d).pu = s.pu := rfl
@[simp] theorem State.fillSnap_rm (s : State) (a b c d : Reg) : (s.fillSnap a b c d).rm = s.rm := rfl
@[simp] theorem State.fillSnap_hp (s : State) (a b c d : Reg) : (s.fillSnap a b c d).hp = s.hp := rfl
@[simp] theorem State.fillSnap_rp (s : State) (a b c d : Reg) : (s.fillSnap a b c d).rp = s.rp := rfl
@[simp] theorem State.fillSnap_mp (s : State) (a b c d : Reg) : (s.fillSnap a b c d).mp = s.mp := rfl
@[simp] theorem State.fillSnap_msc (s : State) (a b c d : Reg) : (s.fillSnap a b c d).msc = s.msc := rfl
@[simp] theorem State.fillSnap_ev (s : State) (a b c d : Reg) : (s.fillSnap a b c d).ev = s.ev := rfl
@[simp] theorem State.fillSnap_mg_pointer (s : State) (a b c d : Reg) :
    (s.fillSnap a b c d).mg.pointer = s.mg.pointer := rfl
@[simp] theorem State.fillSnap_mg_bus (s : State) (a b c d : Reg) : (s.fillSnap a b c d).mg.bus = s.mg.bus := rfl
@[simp] theorem State.fillSnap_mg_staged (s : State) (a b c d : Reg) :
    (s.fillSnap a b c d).mg.staged = s.mg.staged := rfl
@[simp] theorem State.fillSnap_mg_captures (s : State) (a b c d : Reg) :
    (s.fillSnap a b c d).mg.captures = s.mg.captures := rfl
@[simp] theorem State.fillSnap_mg_arg0 (s : State) (a b c d : Reg) : (s.fillSnap a b c d).mg.arg0 = s.mg.arg0 := rfl
@[simp] theorem State.fillSnap_mg_arg1 (s : State) (a b c d : Reg) : (s.fillSnap a b c d).mg.arg1 = s.mg.arg1 := rfl
@[simp] theorem State.fillSnap_mg_status (s : State) (a b c d : Reg) :
    (s.fillSnap a b c d).mg.status = s.mg.status := rfl
@[simp] theorem State.fillSnap_mg_snap0 (s : State) (a b c d : Reg) : (s.fillSnap a b c d).mg.snap0 = a := rfl
@[simp] theorem State.fillSnap_mg_snap1 (s : State) (a b c d : Reg) : (s.fillSnap a b c d).mg.snap1 = b := rfl
@[simp] theorem State.fillSnap_mg_snap2 (s : State) (a b c d : Reg) : (s.fillSnap a b c d).mg.snap2 = c := rfl
@[simp] theorem State.fillSnap_mg_snap3 (s : State) (a b c d : Reg) : (s.fillSnap a b c d).mg.snap3 = d := rfl
@[simp] theorem State.fillSnap_pins (s : State) (a b c d : Reg) : (s.fillSnap a b c d).pins = s.pins := rfl
@[simp] theorem State.fillSnap_pending (s : State) (a b c d : Reg) : (s.fillSnap a b c d).pending = s.pending := rfl
@[simp] theorem State.fillSnap_out (s : State) (a b c d : Reg) : (s.fillSnap a b c d).out = s.out := rfl
@[simp] theorem State.fillSnap_freeCount (s : State) (a b c d : Reg) :
    (s.fillSnap a b c d).freeCount = s.freeCount := rfl
@[simp] theorem State.modMg_pd (s : State) (f : Management → Management) : (s.modMg f).pd = s.pd := rfl
@[simp] theorem State.modMg_tt (s : State) (f : Management → Management) : (s.modMg f).tt = s.tt := rfl
@[simp] theorem State.modMg_pu (s : State) (f : Management → Management) : (s.modMg f).pu = s.pu := rfl
@[simp] theorem State.modMg_rm (s : State) (f : Management → Management) : (s.modMg f).rm = s.rm := rfl
@[simp] theorem State.modMg_hp (s : State) (f : Management → Management) : (s.modMg f).hp = s.hp := rfl
@[simp] theorem State.modMg_rp (s : State) (f : Management → Management) : (s.modMg f).rp = s.rp := rfl
@[simp] theorem State.modMg_mp (s : State) (f : Management → Management) : (s.modMg f).mp = s.mp := rfl
@[simp] theorem State.modMg_msc (s : State) (f : Management → Management) : (s.modMg f).msc = s.msc := rfl
@[simp] theorem State.modMg_ev (s : State) (f : Management → Management) : (s.modMg f).ev = s.ev := rfl
@[simp] theorem State.modMg_mg (s : State) (f : Management → Management) : (s.modMg f).mg = f s.mg := rfl
@[simp] theorem State.modMg_pins (s : State) (f : Management → Management) : (s.modMg f).pins = s.pins := rfl
@[simp] theorem State.modMg_pending (s : State) (f : Management → Management) : (s.modMg f).pending = s.pending := rfl
@[simp] theorem State.modMg_out (s : State) (f : Management → Management) : (s.modMg f).out = s.out := rfl
@[simp] theorem State.modMg_freeCount (s : State) (f : Management → Management) :
    (s.modMg f).freeCount = s.freeCount := rfl
@[simp] theorem State.putRegion_pd (s : State) (n : Fin 8) (r : Region) : (s.putRegion n r).pd = s.pd := rfl
@[simp] theorem State.putRegion_tt (s : State) (n : Fin 8) (r : Region) : (s.putRegion n r).tt = s.tt := rfl
@[simp] theorem State.putRegion_pu (s : State) (n : Fin 8) (r : Region) : (s.putRegion n r).pu = s.pu := rfl
@[simp] theorem State.putRegion_rm_defaults (s : State) (n : Fin 8) (r : Region) :
    (s.putRegion n r).rm.defaults = s.rm.defaults := rfl
@[simp] theorem State.putRegion_hp (s : State) (n : Fin 8) (r : Region) : (s.putRegion n r).hp = s.hp := rfl
@[simp] theorem State.putRegion_rp (s : State) (n : Fin 8) (r : Region) : (s.putRegion n r).rp = s.rp := rfl
@[simp] theorem State.putRegion_mp (s : State) (n : Fin 8) (r : Region) : (s.putRegion n r).mp = s.mp := rfl
@[simp] theorem State.putRegion_msc (s : State) (n : Fin 8) (r : Region) : (s.putRegion n r).msc = s.msc := rfl
@[simp] theorem State.putRegion_ev (s : State) (n : Fin 8) (r : Region) : (s.putRegion n r).ev = s.ev := rfl
@[simp] theorem State.putRegion_mg (s : State) (n : Fin 8) (r : Region) : (s.putRegion n r).mg = s.mg := rfl
@[simp] theorem State.putRegion_pins (s : State) (n : Fin 8) (r : Region) : (s.putRegion n r).pins = s.pins := rfl
@[simp] theorem State.putRegion_pending (s : State) (n : Fin 8) (r : Region) :
    (s.putRegion n r).pending = s.pending := rfl
@[simp] theorem State.putRegion_out (s : State) (n : Fin 8) (r : Region) : (s.putRegion n r).out = s.out := rfl
@[simp] theorem State.putRegion_freeCount (s : State) (n : Fin 8) (r : Region) :
    (s.putRegion n r).freeCount = s.freeCount := rfl
@[simp] theorem State.setHrst_pd (s : State) (level : Bool) : (s.setHrst level).pd = s.pd := rfl
@[simp] theorem State.setHrst_tt (s : State) (level : Bool) : (s.setHrst level).tt = s.tt := rfl
@[simp] theorem State.setHrst_pu (s : State) (level : Bool) : (s.setHrst level).pu = s.pu := rfl
@[simp] theorem State.setHrst_rm (s : State) (level : Bool) : (s.setHrst level).rm = s.rm := rfl
@[simp] theorem State.setHrst_hp (s : State) (level : Bool) : (s.setHrst level).hp = s.hp := rfl
@[simp] theorem State.setHrst_rp (s : State) (level : Bool) : (s.setHrst level).rp = s.rp := rfl
@[simp] theorem State.setHrst_mp (s : State) (level : Bool) : (s.setHrst level).mp = s.mp := rfl
@[simp] theorem State.setHrst_msc (s : State) (level : Bool) : (s.setHrst level).msc = s.msc := rfl
@[simp] theorem State.setHrst_ev (s : State) (level : Bool) : (s.setHrst level).ev = s.ev := rfl
@[simp] theorem State.setHrst_mg (s : State) (level : Bool) : (s.setHrst level).mg = s.mg := rfl
@[simp] theorem State.setHrst_pending (s : State) (level : Bool) : (s.setHrst level).pending = s.pending := rfl
@[simp] theorem State.setHrst_out (s : State) (level : Bool) : (s.setHrst level).out = s.out := rfl
@[simp] theorem State.setHrst_freeCount (s : State) (level : Bool) : (s.setHrst level).freeCount = s.freeCount := rfl

end Sys2Proof.Machine
end

