-- ==== Sys2Proof/Laws/Ops.lean ====
section
/-! SUPPORT. What reading gives after writing, for the transaction table, the ports, the line locks and the directory's sets; and
what each small operation that branches can do. -/

namespace Sys2Proof.Machine

/-! ### The transaction table -/

@[simp] theorem State.txn_putTxn_self (s : State) (i : EntryIx) (t : Option Txn) : (s.putTxn i t).txn i = t := by
  simp [State.txn]

theorem State.txn_putTxn_ne (s : State) {i j : EntryIx} (h : i ≠ j) (t : Option Txn) :
    (s.putTxn i t).txn j = s.txn j := by
  have hv : i.val ≠ j.val := fun e => h (Fin.ext e)
  simp [State.txn, Vector.getElem_set_ne, hv]

theorem State.txn_putTxn (s : State) (i j : EntryIx) (t : Option Txn) :
    (s.putTxn i t).txn j = if j = i then t else s.txn j := by
  by_cases h : j = i
  · subst h; simp
  · rw [State.txn_putTxn_ne s (fun e => h e.symm), if_neg h]

theorem State.txn_modTxn (s : State) (i j : EntryIx) (f : Txn → Txn) :
    (s.modTxn i f).txn j = if j = i then (s.txn i).map f else s.txn j := State.txn_putTxn s i j _

theorem State.txn_setPhase (s : State) (i j : EntryIx) (p : Phase) :
    (s.setPhase i p).txn j = if j = i then (s.txn i).map (fun t => { t with phase := p }) else s.txn j :=
  State.txn_modTxn s i j _

theorem State.txn_freeEntry (s : State) (i j : EntryIx) :
    (s.freeEntry i).txn j = if j = i then none else s.txn j := State.txn_putTxn s i j none

theorem State.txn_toMemWait (s : State) (i j : EntryIx) :
    (s.toMemWait i).txn j =
      if j = i then (s.txn i).map (fun t => { t.loadWrite with phase := .memWait }) else s.txn j :=
  State.txn_modTxn s i j _

theorem State.txn_startPendingTimers (s : State) (j : EntryIx) :
    s.startPendingTimers.txn j =
      (s.txn j).map fun t => { t with wbTimer := t.wbTimer.map (WbTimer.start s.pu.wbLimit.toNat) } := by
  simp [State.txn, State.startPendingTimers]

theorem State.txn_endCycle (s : State) (j : EntryIx) :
    s.endCycle.txn j =
      (s.txn j).map fun t => { t with wbTimer := t.wbTimer.map (WbTimer.start s.pu.wbLimit.toNat) } :=
  State.txn_startPendingTimers (s.setCycle none) j

/-! ### The ports -/

@[simp] theorem State.port_modPort_self (s : State) (p : PortIx) (f : Port → Port) :
    (s.modPort p f).port p = f (s.port p) := by
  simp [State.port, State.modPort]

theorem State.port_modPort_ne (s : State) {p q : PortIx} (h : p ≠ q) (f : Port → Port) :
    (s.modPort p f).port q = s.port q := by
  have hv : p.val ≠ q.val := fun e => h (Fin.ext e)
  simp [State.port, State.modPort, Vector.getElem_set_ne, hv]

theorem State.port_modPort (s : State) (p q : PortIx) (f : Port → Port) :
    (s.modPort p f).port q = if q = p then f (s.port p) else s.port q := by
  by_cases h : q = p
  · subst h; simp
  · rw [State.port_modPort_ne s (fun e => h e.symm), if_neg h]

/-! ### The line locks -/

@[simp] theorem State.lockOf_putLock_self (s : State) (r : LockRec) : (s.putLock r).lockOf r.line = some r := by
  simp [State.lockOf]

theorem find_filter_line {l m : Line} (h : m ≠ l) (rs : List LockRec) :
    (rs.filter fun q => q.line != l).find? (fun q => q.line == m) = rs.find? fun q => q.line == m := by
  induction rs with
  | nil => rfl
  | cons r rest ih =>
    by_cases hl : r.line = l
    · have hm : (r.line == m) = false := by simp [hl, Ne.symm h]
      simp [hl, ih, Ne.symm h]
    · simp [hl, List.find?_cons, ih]

theorem State.lockOf_putLock_ne (s : State) (r : LockRec) {m : Line} (h : m ≠ r.line) :
    (s.putLock r).lockOf m = s.lockOf m := by
  have hm : (r.line == m) = false := by simp [Ne.symm h]
  simp only [State.lockOf, State.putLock_tt_locks, List.find?_cons, hm]
  exact find_filter_line h _

theorem State.lockOf_dropLock_self (s : State) (l : Line) : (s.dropLock l).lockOf l = none := by
  simp [State.lockOf]

theorem State.lockOf_dropLock_ne (s : State) {l m : Line} (h : m ≠ l) : (s.dropLock l).lockOf m = s.lockOf m := by
  simp only [State.lockOf, State.dropLock_tt_locks]
  exact find_filter_line h _

/-! ### The directory's sets -/

@[simp] theorem State.dirSet_putSet_self (s : State) (l : Line) (es : List DirEntry) : (s.putSet l es).dirSet l = es := by
  simp [State.dirSet, State.putSet]

theorem State.sets_putSet_ne (s : State) (l : Line) (es : List DirEntry) (k : SetIx) (h : k ≠ setOf l) :
    (s.putSet l es).pd.sets[k.val] = s.pd.sets[k.val] := by
  have hv : (setOf l).val ≠ k.val := fun e => h (Fin.ext e.symm)
  simp [State.putSet, Vector.getElem_set_ne, hv]

/-! ### Joining a queue of transactions -/

/-- R153: one that stands in no place of the queue joins its tail. -/
theorem joinTail_of_not_mem {q : List EntryIx} {i : EntryIx} (h : i ∉ q) : joinTail q i = q ++ [i] := if_neg h

theorem mem_joinTail {q : List EntryIx} {i j : EntryIx} : j ∈ joinTail q i ↔ j ∈ q ∨ j = i := by
  unfold joinTail
  split
  · exact ⟨.inl, fun h => h.elim id fun e => e ▸ ‹_›⟩
  · simp

/-- R57, R153: joining keeps a queue without duplicates. -/
theorem nodup_joinTail {q : List EntryIx} (i : EntryIx) (h : q.Nodup) : (joinTail q i).Nodup := by
  unfold joinTail
  split
  · exact h
  · rename_i hi
    exact List.nodup_append.mpr ⟨h, by simp, fun a ha b hb => by
      rw [List.mem_singleton.mp hb]
      exact fun e => hi (e ▸ ha)⟩

theorem joinGeneral_of_ne {q : List EntryIx} {i : EntryIx} (h : i ≠ recallEntry) : joinGeneral q i = joinTail q i :=
  if_neg h

/-- R14, R38: joining keeps a queue of general entries free of duplicates and of entry 11. -/
theorem joinGeneral_keeps {q : List EntryIx} (i : EntryIx) (h : q.Nodup ∧ recallEntry ∉ q) :
    (joinGeneral q i).Nodup ∧ recallEntry ∉ joinGeneral q i := by
  unfold joinGeneral
  split
  · exact h
  · rename_i hi
    exact ⟨nodup_joinTail i h.1, fun hm => (mem_joinTail.mp hm).elim h.2 fun e => hi e.symm⟩

/-- R57, R153: a queue of transactions without duplicates holds at most 12. -/
theorem length_le_of_nodup {q : List EntryIx} (h : q.Nodup) : q.length ≤ 12 := by
  simpa using h.length_le_card

/-- R14, R38: one of general entries alone holds at most 11. -/
theorem length_le_of_general {q : List EntryIx} (h : q.Nodup ∧ recallEntry ∉ q) : q.length ≤ 11 := by
  have hc : (recallEntry :: q).Nodup := List.nodup_cons.mpr ⟨h.2, h.1⟩
  have hl := length_le_of_nodup hc
  simp only [List.length_cons] at hl
  omega

/-! ### What the small operations that branch can do -/

/-- R175: a wake changes the sweep alone. -/
theorem State.wakeSweep_cases (s : State) : ∃ w, s.wakeSweep = s.setSweep w := by
  unfold State.wakeSweep
  split
  · exact ⟨_, rfl⟩
  · exact ⟨s.msc.sweep, rfl⟩
  all_goals
    split
    · exact ⟨s.msc.sweep, rfl⟩
    · exact ⟨_, rfl⟩

/-- R175: hearing of a release changes the sweep alone. -/
theorem State.hearRelease_cases (i : EntryIx) (s : State) : ∃ w, s.hearRelease i = s.setSweep w := by
  unfold State.hearRelease
  split
  · exact ⟨s.msc.sweep, rfl⟩
  · exact s.wakeSweep_cases

/-- R187: a record is stored or counted; nothing else changes. -/
theorem State.handRecord_cases (r : FaultRec) (s : State) :
    (s.ev.faults.length < 4 ∧ s.handRecord r = { s with ev := { s.ev with faults := s.ev.faults ++ [r] } }) ∨
    (4 ≤ s.ev.faults.length ∧
      s.handRecord r = { s with ev := { s.ev with overflow := bumpOverflow s.ev.overflow } }) := by
  unfold State.handRecord
  split
  · exact .inl ⟨‹_›, rfl⟩
  · exact .inr ⟨by omega, rfl⟩

/-- R4: an insertion into a way that is free, of a line that has no entry, puts it in front; else nothing changes. -/
theorem State.insertEntry_cases (l : Line) (w : Way) (p : EntryPolicy) (s : State) :
    ((∀ e ∈ s.dirSet l, e.way ≠ w ∧ e.line ≠ l) ∧
      s.insertEntry l w p = s.putSet l ({ way := w, line := l, state := .reserved, policy := p } :: s.dirSet l)) ∨
    s.insertEntry l w p = s := by
  unfold State.insertEntry
  split
  · exact .inr rfl
  · rename_i h
    refine .inl ⟨fun e he => ?_, rfl⟩
    have h2 : ¬ (e.way = w ∨ e.line = l) := by
      intro h3
      exact h (List.any_eq_true.mpr ⟨e, he, by rcases h3 with h3 | h3 <;> simp [h3]⟩)
    exact ⟨fun h3 => h2 (.inl h3), fun h3 => h2 (.inr h3)⟩

/-- R6: a removal takes the line's entry out of its set; without an entry nothing changes. -/
theorem State.dropEntry_cases (l : Line) (s : State) :
    s.dropEntry l = s ∨ s.dropEntry l = s.putSet l ((s.dirSet l).filter fun e => e.line != l) := by
  unfold State.dropEntry
  split
  · exact .inr rfl
  · exact .inl rfl

/-- R6: a removal takes the line's entry out of its set, and may wake the sweep; without an entry nothing changes. -/
theorem State.removeEntry_cases (l : Line) (s : State) :
    s.removeEntry l = s ∨
    s.removeEntry l = (s.putSet l ((s.dirSet l).filter fun e => e.line != l)).wakeSweep := by
  unfold State.removeEntry State.dropEntry
  split
  · exact .inr rfl
  · exact .inl rfl

/-- R38, R44: taking a lock puts one lock record, and may bring the line into the host lock set. -/
theorem State.takeLock_cases (i : EntryIx) (w : Work) (l : Line) (ws : List EntryIx) (s : State) :
    s.takeLock i w l ws = s.putLock { line := l, holder := .txn i, waiters := ws } ∨
    (s.hp.lockSet.length < 2 ∧ l ∉ s.hp.lockSet ∧
      s.takeLock i w l ws =
        { s with hp := { s.hp with lockSet := s.hp.lockSet ++ [l] } }.putLock
          { line := l, holder := .hostSet, waiters := ws }) := by
  unfold State.takeLock
  split
  · rename_i h
    refine .inr ?_
    simp only [State.joinsLockSet, State.inLockSet, Bool.and_eq_true, Bool.not_eq_true',
      decide_eq_true_eq] at h
    refine ⟨h.1.2, fun hm => ?_, rfl⟩
    have h2 := h.2
    rw [List.any_eq_false] at h2
    exact h2 l hm (by simp)
  · exact .inl rfl

/-- R68: a hand-back changes the cycle alone. -/
theorem State.handBack_cases (i : EntryIx) (t : Txn) (s : State) : ∃ c, s.handBack i t = s.setCycle c := by
  unfold State.handBack
  split
  · exact ⟨s.hp.cycle, rfl⟩
  · split
    · exact ⟨_, rfl⟩
    · exact ⟨s.hp.cycle, rfl⟩

end Sys2Proof.Machine
end

