-- ==== Sys2Proof/Laws/Clock.lean ====
section
/-! SUPPORT. What the tick of the clock does with a timer's expiry, and with the order of several. -/

namespace Sys2Proof.Machine

/-- A timer's expiry answers a next state, in every state. -/
theorem Timer.exec_command (k : Timer) (s : State) : ∃ u, exec k.command s = .next u := by
  cases k <;>
    simp only [Timer.command, exec, execAnswerTimerExpiry, execQuietTimerExpiry, execWbTimerExpiry, execLockTimerExpiry, live]
  all_goals split
  all_goals first
    | exact ⟨_, rfl⟩
    | (split <;> exact ⟨_, rfl⟩)

/-- A timer at 0: its expiry is taken as its command is. -/
theorem State.expire_of_out {s u : State} {k : Timer} (h : s.timerLeft k = some 0) (hu : exec k.command s = .next u) :
    s.expire k = { u with out := s.out ++ u.out } := by simp [State.expire, h, hu]

/-- A timer that is not at 0: no expiry of it comes. -/
theorem State.expire_of_ne {s : State} {k : Timer} (h : s.timerLeft k ≠ some 0) : s.expire k = s := by simp [State.expire, h]

/-- Every timer is among the timers, once. -/
theorem mem_allTimers (k : Timer) : k ∈ allTimers := by
  cases k <;> simp [allTimers, allEntries]

theorem allTimers_nodup : allTimers.Nodup := by decide +kernel

/-- The timers that run out on a tick are those with 1 µs left. -/
theorem State.mem_dueTimers {s : State} {k : Timer} : k ∈ s.dueTimers ↔ s.timerLeft k = some 1 := by
  simp [State.dueTimers, mem_allTimers]

/-- The order drawn holds each expiry that is due, once. -/
theorem drawOrder_perm {α : Type} : ∀ (n k : Nat) (due : List α), n = due.length → (drawOrder n k due).Perm due
  | 0, _, [], _ => .nil
  | _ + 1, _, [], h => nomatch h
  | _ + 1, _, [_], _ => .refl _
  | n + 1, k, a :: b :: due, h => by
    have hlt : Config.expiryOrder k % (a :: b :: due).length < (a :: b :: due).length := Nat.mod_lt _ (by simp)
    rw [drawOrder]
    · rw [List.getElem?_eq_getElem hlt]
      refine ((drawOrder_perm n (k + 1) _ ?_).cons _).trans (List.getElem_cons_eraseIdx_perm hlt)
      rw [List.length_eraseIdx_of_lt hlt, ← h]
      rfl
    · simp
    · simp

end Sys2Proof.Machine
end

