-- ==== Sys2Proof/Laws/Frame.lean ====
section
/-! SUPPORT. What the consequences of an event never change: everything software writes, the requests outstanding at memory, the
tag sets, the round-robin position, the pins and the queue of commands. One lemma per operation. -/

namespace Sys2Proof.Machine

/-- The parts of the state that no operation short of a command of its own writes. -/
structure Kept (s t : State) : Prop where
  regionMap : t.rm = s.rm
  admitPolicy : t.pd.admitPolicy = s.pd.admitPolicy
  probeLimit : t.pu.probeLimit = s.pu.probeLimit
  wbLimit : t.pu.wbLimit = s.pu.wbLimit
  lockLimit : t.hp.lockLimit = s.hp.lockLimit
  outstanding : t.mp.outstanding = s.mp.outstanding
  tags : ∀ p, (t.port p).tags = (s.port p).tags
  roundRobin : t.tt.roundRobin = s.tt.roundRobin
  enables : t.ev.enables = s.ev.enables
  management : t.mg = { s.mg with status := { s.mg.status with
    state := t.mg.status.state, reason := t.mg.status.reason } }
  pins : t.pins = s.pins
  pending : t.pending = s.pending

theorem Kept.refl (s : State) : Kept s s :=
  ⟨rfl, rfl, rfl, rfl, rfl, rfl, fun _ => rfl, rfl, rfl, rfl, rfl, rfl⟩

theorem Kept.trans {s t u : State} (h : Kept s t) (k : Kept t u) : Kept s u where
  regionMap := k.regionMap.trans h.regionMap
  admitPolicy := k.admitPolicy.trans h.admitPolicy
  probeLimit := k.probeLimit.trans h.probeLimit
  wbLimit := k.wbLimit.trans h.wbLimit
  lockLimit := k.lockLimit.trans h.lockLimit
  outstanding := k.outstanding.trans h.outstanding
  tags := fun p => (k.tags p).trans (h.tags p)
  roundRobin := k.roundRobin.trans h.roundRobin
  enables := k.enables.trans h.enables
  management := by rw [k.management, h.management]
  pins := k.pins.trans h.pins
  pending := k.pending.trans h.pending

/-- A fold of operations that keep. -/
theorem Kept.foldl {α : Type} {f : State → α → State} (h : ∀ s a, Kept s (f s a)) (l : List α) (s : State) :
    Kept s (l.foldl f s) := by
  induction l generalizing s with
  | nil => exact Kept.refl s
  | cons a l ih => exact (h s a).trans (ih _)

/-! ### The updates -/

theorem Kept.emit (s : State) (o : Output) : Kept s (s.emit o) :=
  ⟨rfl, rfl, rfl, rfl, rfl, rfl, fun _ => rfl, rfl, rfl, rfl, rfl, rfl⟩

theorem Kept.raise (s : State) (e : Event) : Kept s (s.raise e) :=
  ⟨rfl, rfl, rfl, rfl, rfl, rfl, fun _ => rfl, rfl, rfl, rfl, rfl, rfl⟩

theorem Kept.bump (s : State) (k : Counter) : Kept s (s.bump k) :=
  ⟨rfl, rfl, rfl, rfl, rfl, rfl, fun _ => rfl, rfl, rfl, rfl, rfl, rfl⟩

theorem Kept.putSet (s : State) (l : Line) (es : List DirEntry) : Kept s (s.putSet l es) :=
  ⟨rfl, rfl, rfl, rfl, rfl, rfl, fun _ => rfl, rfl, rfl, rfl, rfl, rfl⟩

theorem Kept.clearDirectory (s : State) : Kept s (s.clearDirectory) :=
  ⟨rfl, rfl, rfl, rfl, rfl, rfl, fun _ => rfl, rfl, rfl, rfl, rfl, rfl⟩

theorem Kept.putTxn (s : State) (i : EntryIx) (t : Option Txn) : Kept s (s.putTxn i t) :=
  ⟨rfl, rfl, rfl, rfl, rfl, rfl, fun _ => rfl, rfl, rfl, rfl, rfl, rfl⟩

theorem Kept.modTxn (s : State) (i : EntryIx) (f : Txn → Txn) : Kept s (s.modTxn i f) :=
  ⟨rfl, rfl, rfl, rfl, rfl, rfl, fun _ => rfl, rfl, rfl, rfl, rfl, rfl⟩

theorem Kept.freeEntry (s : State) (i : EntryIx) : Kept s (s.freeEntry i) :=
  ⟨rfl, rfl, rfl, rfl, rfl, rfl, fun _ => rfl, rfl, rfl, rfl, rfl, rfl⟩

theorem Kept.setPhase (s : State) (i : EntryIx) (p : Phase) : Kept s (s.setPhase i p) :=
  ⟨rfl, rfl, rfl, rfl, rfl, rfl, fun _ => rfl, rfl, rfl, rfl, rfl, rfl⟩

theorem Kept.clearLink (s : State) : Kept s (s.clearLink) :=
  ⟨rfl, rfl, rfl, rfl, rfl, rfl, fun _ => rfl, rfl, rfl, rfl, rfl, rfl⟩

theorem Kept.putLock (s : State) (r : LockRec) : Kept s (s.putLock r) :=
  ⟨rfl, rfl, rfl, rfl, rfl, rfl, fun _ => rfl, rfl, rfl, rfl, rfl, rfl⟩

theorem Kept.dropLock (s : State) (l : Line) : Kept s (s.dropLock l) :=
  ⟨rfl, rfl, rfl, rfl, rfl, rfl, fun _ => rfl, rfl, rfl, rfl, rfl, rfl⟩

theorem Kept.startPendingTimers (s : State) : Kept s (s.startPendingTimers) :=
  ⟨rfl, rfl, rfl, rfl, rfl, rfl, fun _ => rfl, rfl, rfl, rfl, rfl, rfl⟩

theorem Kept.toMemWait (s : State) (i : EntryIx) : Kept s (s.toMemWait i) :=
  ⟨rfl, rfl, rfl, rfl, rfl, rfl, fun _ => rfl, rfl, rfl, rfl, rfl, rfl⟩

theorem Kept.leaveMemWait (s : State) (i : EntryIx) : Kept s (s.leaveMemWait i) :=
  ⟨rfl, rfl, rfl, rfl, rfl, rfl, fun _ => rfl, rfl, rfl, rfl, rfl, rfl⟩

theorem Kept.setQueue (s : State) (q : List EntryIx) : Kept s (s.setQueue q) :=
  ⟨rfl, rfl, rfl, rfl, rfl, rfl, fun _ => rfl, rfl, rfl, rfl, rfl, rfl⟩

theorem Kept.setChannel (s : State) (c : Channel) : Kept s (s.setChannel c) :=
  ⟨rfl, rfl, rfl, rfl, rfl, rfl, fun _ => rfl, rfl, rfl, rfl, rfl, rfl⟩

theorem Kept.leaveQueue (s : State) (i : EntryIx) : Kept s (s.leaveQueue i) :=
  ⟨rfl, rfl, rfl, rfl, rfl, rfl, fun _ => rfl, rfl, rfl, rfl, rfl, rfl⟩

theorem Kept.setCycle (s : State) (c : Option Cycle) : Kept s (s.setCycle c) :=
  ⟨rfl, rfl, rfl, rfl, rfl, rfl, fun _ => rfl, rfl, rfl, rfl, rfl, rfl⟩

theorem Kept.endCycle (s : State) : Kept s (s.endCycle) :=
  ⟨rfl, rfl, rfl, rfl, rfl, rfl, fun _ => rfl, rfl, rfl, rfl, rfl, rfl⟩

theorem Kept.emptyLockSet (s : State) : Kept s (s.emptyLockSet) :=
  ⟨rfl, rfl, rfl, rfl, rfl, rfl, fun _ => rfl, rfl, rfl, rfl, rfl, rfl⟩

theorem Kept.clearBroken (s : State) : Kept s (s.clearBroken) :=
  ⟨rfl, rfl, rfl, rfl, rfl, rfl, fun _ => rfl, rfl, rfl, rfl, rfl, rfl⟩

theorem Kept.setMode (s : State) (m : Mode) : Kept s (s.setMode m) :=
  ⟨rfl, rfl, rfl, rfl, rfl, rfl, fun _ => rfl, rfl, rfl, rfl, rfl, rfl⟩

theorem Kept.setSweep (s : State) (w : Sweep) : Kept s (s.setSweep w) :=
  ⟨rfl, rfl, rfl, rfl, rfl, rfl, fun _ => rfl, rfl, rfl, rfl, rfl, rfl⟩

theorem Kept.setQuarantine (s : State) (q : List QuarRec) : Kept s (s.setQuarantine q) :=
  ⟨rfl, rfl, rfl, rfl, rfl, rfl, fun _ => rfl, rfl, rfl, rfl, rfl, rfl⟩

theorem Kept.setStatus (s : State) (c : CmdState) (r : Reason) : Kept s (s.setStatus c r) :=
  ⟨rfl, rfl, rfl, rfl, rfl, rfl, fun _ => rfl, rfl, rfl, rfl, rfl, rfl⟩

theorem Kept.clearOut (s : State) : Kept s (s.clearOut) :=
  ⟨rfl, rfl, rfl, rfl, rfl, rfl, fun _ => rfl, rfl, rfl, rfl, rfl, rfl⟩

theorem Kept.declineFill (s : State) (f : EntryIx) : Kept s (s.declineFill f) :=
  ⟨rfl, rfl, rfl, rfl, rfl, rfl, fun _ => rfl, rfl, rfl, rfl, rfl, rfl⟩

theorem Kept.joinWaiters (s : State) (i : EntryIx) (r : LockRec) : Kept s (s.joinWaiters i r) :=
  ⟨rfl, rfl, rfl, rfl, rfl, rfl, fun _ => rfl, rfl, rfl, rfl, rfl, rfl⟩

theorem Kept.issueProbe (s : State) (i : EntryIx) (t : Txn) (m : ProbeMode) : Kept s (s.issueProbe i t m) :=
  ⟨rfl, rfl, rfl, rfl, rfl, rfl, fun _ => rfl, rfl, rfl, rfl, rfl, rfl⟩

theorem Kept.dropHostSide (s : State) : Kept s (s.dropHostSide) :=
  ⟨rfl, rfl, rfl, rfl, rfl, rfl, fun _ => rfl, rfl, rfl, rfl, rfl, rfl⟩

theorem Kept.lockedDoneSet (s : State) (k : LockedKind) : Kept s ({ s with hp := { s.hp with lastLocked := some k } }) :=
  ⟨rfl, rfl, rfl, rfl, rfl, rfl, fun _ => rfl, rfl, rfl, rfl, rfl, rfl⟩

theorem Kept.lockTimerSet (s : State) (n : Option Nat) : Kept s ({ s with hp := { s.hp with lockTimer := n } }) :=
  ⟨rfl, rfl, rfl, rfl, rfl, rfl, fun _ => rfl, rfl, rfl, rfl, rfl, rfl⟩

theorem Kept.lockSetAppend (s : State) (l : Line) : Kept s ({ s with hp := { s.hp with lockSet := s.hp.lockSet ++ [l] } }) :=
  ⟨rfl, rfl, rfl, rfl, rfl, rfl, fun _ => rfl, rfl, rfl, rfl, rfl, rfl⟩

theorem Kept.brokenSet (s : State) (b : Bool) : Kept s ({ s with hp := { s.hp with broken := b } }) :=
  ⟨rfl, rfl, rfl, rfl, rfl, rfl, fun _ => rfl, rfl, rfl, rfl, rfl, rfl⟩

theorem Kept.recallWaitSet (s : State) (q : List EntryIx) : Kept s ({ s with tt := { s.tt with recallWait := q } }) :=
  ⟨rfl, rfl, rfl, rfl, rfl, rfl, fun _ => rfl, rfl, rfl, rfl, rfl, rfl⟩

theorem Kept.freeCountSet (s : State) (n : Nat) : Kept s ({ s with freeCount := n }) :=
  ⟨rfl, rfl, rfl, rfl, rfl, rfl, fun _ => rfl, rfl, rfl, rfl, rfl, rfl⟩

theorem Kept.flushed (s : State) (d : Vector (List DirEntry) 256) : Kept s ({ s with pd := { s.pd with sets := d } }) :=
  ⟨rfl, rfl, rfl, rfl, rfl, rfl, fun _ => rfl, rfl, rfl, rfl, rfl, rfl⟩

theorem Kept.faultsSet (s : State) (fs : List FaultRec) (n : BitVec 8) : Kept s ({ s with ev := { s.ev with faults := fs, overflow := n } }) :=
  ⟨rfl, rfl, rfl, rfl, rfl, rfl, fun _ => rfl, rfl, rfl, rfl, rfl, rfl⟩

theorem Kept.modPort (s : State) (p : PortIx) (f : Port → Port) (h : (f (s.port p)).tags = (s.port p).tags) :
    Kept s (s.modPort p f) :=
  ⟨rfl, rfl, rfl, rfl, rfl, rfl,
    fun q => by rw [State.port_modPort]; split <;> simp_all,
    rfl, rfl, rfl, rfl, rfl⟩

theorem Kept.placeResponse (s : State) (p : PortIx) (r : Response) : Kept s (s.placeResponse p r) :=
  Kept.modPort s p _ rfl

theorem Kept.wakeSweep (s : State) : Kept s s.wakeSweep := by
  obtain ⟨w, h⟩ := s.wakeSweep_cases
  rw [h]; exact Kept.setSweep s w

theorem Kept.hearRelease (s : State) (i : EntryIx) : Kept s (s.hearRelease i) := by
  obtain ⟨w, h⟩ := s.hearRelease_cases i
  rw [h]; exact Kept.setSweep s w

theorem Kept.handRecord (s : State) (r : FaultRec) : Kept s (s.handRecord r) := by
  unfold State.handRecord; split
  · exact Kept.faultsSet s _ _
  · exact Kept.faultsSet s _ _

theorem Kept.reportError (s : State) (r : FaultRec) : Kept s (s.reportError r) :=
  (Kept.raise s _).trans (Kept.handRecord _ r)

theorem Kept.endLongOperation (s : State) : Kept s s.endLongOperation := by
  unfold State.endLongOperation; split
  · exact Kept.setStatus s _ _
  · exact Kept.refl s

theorem Kept.lockedDone (s : State) (k : LockedKind) : Kept s (s.lockedDone k) := by
  unfold State.lockedDone; split
  · exact Kept.refl s
  · exact Kept.lockedDoneSet s k

theorem Kept.startLockTimer (s : State) : Kept s s.startLockTimer := by
  unfold State.startLockTimer; split
  · exact Kept.refl s
  · exact Kept.lockTimerSet s _

theorem Kept.leaveWaiters (s : State) (i : EntryIx) (l : Line) : Kept s (s.leaveWaiters i l) := by
  unfold State.leaveWaiters; split
  · exact Kept.putLock s _
  · exact Kept.refl s

/-! ### The directory -/

theorem Kept.insertEntry (s : State) (l : Line) (w : Way) (p : EntryPolicy) : Kept s (s.insertEntry l w p) := by
  rcases s.insertEntry_cases l w p with ⟨-, h⟩ | h <;> rw [h]
  · exact Kept.putSet s _ _
  · exact Kept.refl s

theorem Kept.reReserve (s : State) (l : Line) (p : EntryPolicy) : Kept s (s.reReserve l p) := by
  unfold State.reReserve; split
  · exact Kept.refl s
  · exact Kept.putSet s _ _

theorem Kept.dropEntry (s : State) (l : Line) : Kept s (s.dropEntry l) := by
  rcases s.dropEntry_cases l with h | h <;> rw [h]
  · exact Kept.refl s
  · exact Kept.putSet s _ _

theorem Kept.removeEntry (s : State) (l : Line) : Kept s (s.removeEntry l) := by
  rcases s.removeEntry_cases l with h | h <;> rw [h]
  · exact Kept.refl s
  · exact (Kept.putSet s _ _).trans (Kept.wakeSweep _)

theorem Kept.makeHeld (s : State) (l : Line) : Kept s (s.makeHeld l) := by
  unfold State.makeHeld; split
  · exact (Kept.putSet s _ _).trans (Kept.wakeSweep _)
  · exact Kept.refl s

theorem Kept.removeReserved (s : State) (l : Line) : Kept s (s.removeReserved l) := by
  unfold State.removeReserved; split
  · exact Kept.removeEntry s l
  · exact Kept.refl s

theorem Kept.flushHeld (s : State) : Kept s s.flushHeld := by
  have h : Kept s { s with pd := s.pd.flush } := Kept.flushed s _
  unfold State.flushHeld
  by_cases e : s.pd.flush.count = s.pd.count
  · simp only [e, if_true]; exact h
  · simp only [e, if_false]; exact h.trans (Kept.wakeSweep _)

/-! ### Locks, fills and the probed line -/

theorem Kept.takeLock (s : State) (i : EntryIx) (w : Work) (l : Line) (ws : List EntryIx) :
    Kept s (s.takeLock i w l ws) := by
  rcases s.takeLock_cases i w l ws with h | ⟨-, -, h⟩ <;> rw [h]
  · exact Kept.putLock s _
  · exact (Kept.lockSetAppend s l).trans (Kept.putLock _ _)

theorem Kept.respond (s : State) (i : EntryIx) (c : ResultCode) : Kept s (s.respond i c) := by
  unfold State.respond; split
  · exact Kept.refl s
  · split
    · exact (Kept.placeResponse s _ _).trans (Kept.freeEntry _ i)
    · exact Kept.freeEntry s i

theorem Kept.declineLinked (s : State) : Kept s s.declineLinked := by
  unfold State.declineLinked; split
  · exact (Kept.clearLink s).trans (Kept.declineFill _ _)
  · exact Kept.refl s

theorem Kept.handOverWay (s : State) (w : Way) : Kept s (s.handOverWay w) := by
  unfold State.handOverWay
  split
  · exact Kept.refl s
  · dsimp only
    split
    · exact Kept.clearLink s
    · split
      · split
        · exact ((Kept.clearLink s).trans (Kept.insertEntry _ _ _ _)).trans (Kept.toMemWait _ _)
        · exact (Kept.clearLink s).trans (Kept.declineFill _ _)
      · exact (Kept.clearLink s).trans (Kept.declineFill _ _)

theorem Kept.removeProbed (s : State) (i : EntryIx) (l : Line) : Kept s (s.removeProbed i l) := by
  unfold State.removeProbed
  split
  · split
    · exact (Kept.dropEntry s l).trans (Kept.handOverWay _ _)
    · exact Kept.removeEntry s l
  · split
    · exact Kept.declineLinked s
    · exact Kept.refl s

theorem Kept.dataTaken (s : State) (i : EntryIx) : Kept s (s.dataTaken i) := by
  unfold State.dataTaken
  split
  · exact Kept.refl s
  · dsimp only
    split
    · exact ((Kept.removeProbed s i _).trans (Kept.modTxn _ i _)).trans (Kept.toMemWait _ i)
    · exact (Kept.modTxn s i _).trans (Kept.toMemWait _ i)

theorem Kept.afterBeats (s : State) (i : EntryIx) : Kept s (s.afterBeats i) := by
  unfold State.afterBeats
  split
  · exact Kept.refl s
  · split
    · exact Kept.dataTaken s i
    · exact Kept.refl s

theorem Kept.attach (s : State) (i : EntryIx) (c : Cycle) (bs : List (Beat × BeatData)) : Kept s (s.attach i c bs) := by
  unfold State.attach
  dsimp only
  refine Kept.trans ?_ (Kept.afterBeats _ i)
  split
  · exact (((Kept.setCycle s _).trans (Kept.leaveQueue _ i)).trans (Kept.setPhase _ i _)).trans (Kept.modTxn _ i _)
  · exact (Kept.setCycle s _).trans (Kept.modTxn _ i _)

theorem Kept.attachWaiting (s : State) (i : EntryIx) (l : Line) : Kept s (s.attachWaiting i l) := by
  unfold State.attachWaiting
  split
  · exact Kept.refl s
  · split
    · split
      · exact Kept.attach s i _ _
      · split
        · split
          · exact ((Kept.leaveWaiters s _ l).trans (Kept.freeEntry _ _)).trans (Kept.attach _ i _ _)
          · exact Kept.refl s
        · exact Kept.refl s
      · exact Kept.refl s
    · exact Kept.refl s

theorem Kept.enterProbeQueued (s : State) (i : EntryIx) (l : Line) (m : ProbeMode) : Kept s (s.enterProbeQueued i l m) :=
  ((Kept.modTxn s i _).trans (Kept.setQueue _ _)).trans (Kept.attachWaiting _ i l)

theorem Kept.startRecall (s : State) (c : RecallCause) (l : Line) (k : Option EntryIx) : Kept s (s.startRecall c l k) :=
  (((Kept.putTxn s _ _).trans (Kept.putLock _ _)).trans (Kept.bump _ _)).trans (Kept.enterProbeQueued _ _ _ _)

/-! ### Lookups and lock hand-off -/

theorem Kept.askRecall (s : State) (f : EntryIx) (v : DirEntry) : Kept s (s.askRecall f v) := by
  unfold State.askRecall
  dsimp only
  split
  · exact (Kept.setPhase s f _).trans (Kept.startRecall _ _ _ _)
  · exact (Kept.setPhase s f _).trans (Kept.recallWaitSet _ _)

theorem Kept.decideFill (s : State) (f : EntryIx) (l : Line) (a : Attr) : Kept s (s.decideFill f l a) := by
  unfold State.decideFill
  split
  · exact Kept.declineFill s f
  · split
    · exact Kept.declineFill s f
    · split
      · exact (Kept.reReserve s _ _).trans (Kept.toMemWait _ f)
      · split
        · exact (Kept.insertEntry s _ _ _).trans (Kept.toMemWait _ f)
        · split
          · exact Kept.declineFill s f
          · split
            · exact Kept.declineFill s f
            · exact Kept.askRecall s f _

theorem Kept.lookupEvict (s : State) (i : EntryIx) (l : Line) : Kept s (s.lookupEvict i l) := by
  unfold State.lookupEvict
  dsimp only
  have h := Kept.modTxn s i fun t => { t with dirResult := some (s.dirResult l) }
  refine h.trans (Kept.trans ?_ (Kept.toMemWait _ i))
  split
  · exact ((Kept.removeEntry _ l).trans (Kept.setQuarantine _ _)).trans (Kept.raise _ _)
  · split
    · exact Kept.removeEntry _ l
    · exact Kept.bump _ _

theorem Kept.reportRefusal (s : State) (t : Txn) (c : ResultCode) : Kept s (s.reportRefusal t c) := by
  unfold State.reportRefusal
  split
  · exact Kept.reportError s _
  · exact Kept.reportError s _
  · exact Kept.refl s

theorem Kept.lookupRequester (s : State) (i : EntryIx) (t : Txn) (p : PortIx) :
    Kept s (s.lookupRequester i t p).state := by
  unfold State.lookupRequester
  dsimp only
  split
  · exact (Kept.reportRefusal s t _).trans (Kept.respond _ i _)
  · split
    · exact (Kept.modTxn s i _).trans (Kept.enterProbeQueued _ i _ _)
    · exact (Kept.modTxn s i _).trans (Kept.toMemWait _ i)

theorem Kept.lookup (s : State) (i : EntryIx) : Kept s (s.lookup i).state := by
  unfold State.lookup
  split
  · exact Kept.refl s
  · split
    · exact (Kept.modTxn s i _).trans (Kept.decideFill _ i _ _)
    · exact Kept.lookupEvict s i _
    · exact Kept.toMemWait s i
    · exact Kept.toMemWait s i
    · exact Kept.toMemWait s i
    · exact Kept.toMemWait s i
    · exact Kept.lookupRequester s i _ _
    · exact Kept.lookupRequester s i _ _
    · exact Kept.lookupRequester s i _ _
    · exact Kept.refl s

theorem Kept.handOff (l : Line) (ws : List EntryIx) (s : State) : Kept s (State.handOff l ws s) := by
  induction ws generalizing s with
  | nil => exact Kept.dropLock s l
  | cons i rest ih =>
    unfold State.handOff
    split
    · exact ih s
    · rename_i t _
      have h := (Kept.takeLock s i t.work l rest).trans (Kept.lookup _ i)
      dsimp only
      split
      · exact (h.trans (Kept.wakeSweep _)).trans (ih _)
      · exact h

theorem Kept.releaseLock (s : State) (i : EntryIx) (l : Line) : Kept s (s.releaseLock i l) := by
  unfold State.releaseLock
  split
  · split
    · exact (Kept.hearRelease s i).trans (Kept.handOff l _ _)
    · exact Kept.refl s
  · exact Kept.refl s

theorem Kept.giveUpLine (s : State) (l : Line) : Kept s (s.giveUpLine l) := by
  unfold State.giveUpLine
  split
  · split
    · exact (Kept.wakeSweep s).trans (Kept.handOff l _ _)
    · exact Kept.refl s
  · exact Kept.refl s

theorem Kept.giveUpLockSet (s : State) : Kept s s.giveUpLockSet :=
  (Kept.emptyLockSet s).trans (Kept.foldl Kept.giveUpLine _ _)

theorem Kept.requestLock (s : State) (i : EntryIx) (l : Line) : Kept s (s.requestLock i l) := by
  unfold State.requestLock
  split
  · exact Kept.handOff l _ s
  · exact Kept.joinWaiters s i _

theorem Kept.askLock (s : State) (i : EntryIx) (w : Work) (l : Line) : Kept s (s.askLock i w l) := by
  unfold State.askLock
  split
  · exact Kept.lookup s i
  · exact Kept.requestLock s i l

/-! ### The consequences of an event -/

theorem Kept.stopSweep (s : State) : Kept s s.stopSweep :=
  ((Kept.setSweep s _).trans (Kept.raise _ _)).trans (Kept.endLongOperation _)

theorem Kept.endSweep (s : State) : Kept s s.endSweep := by
  unfold State.endSweep
  dsimp only
  split
  · split
    · exact ((Kept.stopSweep s).trans (Kept.setMode _ _)).trans (Kept.raise _ _)
    · exact (Kept.stopSweep s).trans (Kept.raise _ _)
  · exact Kept.stopSweep s
  · exact Kept.stopSweep s

theorem Kept.endSweepFaulted (s : State) : Kept s s.endSweepFaulted := by
  unfold State.endSweepFaulted
  split
  · split
    · exact (Kept.stopSweep s).trans (Kept.raise _ _)
    · exact Kept.stopSweep s
    · exact Kept.stopSweep s
  · exact Kept.refl s

theorem Kept.waitForEvent (n : Nat) (s : State) : Kept s (s.waitForEvent n) :=
  (Kept.setSweep s _).trans (Kept.freeCountSet _ _)

theorem Kept.examineFrom (s : State) (pos : Nat) {rest : Nat → State → State} (h : ∀ n, Kept s (rest n s)) :
    Kept s (s.examineFrom pos rest) := by
  unfold State.examineFrom
  dsimp only
  split
  · exact (Kept.setSweep s _).trans (Kept.startRecall _ _ _ _)
  · split
    · exact Kept.endSweep s
    · exact h _

theorem Kept.passOver (n : Nat) (s : State) : Kept s (s.passOver n) := by
  unfold State.passOver
  split
  · exact (Kept.setSweep s _).trans (Kept.examineFrom _ 0 fun m => Kept.waitForEvent m _)
  · exact Kept.waitForEvent n s

theorem Kept.advanceSweep (s : State) (pos : Nat) : Kept s (s.advanceSweep pos) :=
  Kept.examineFrom s pos fun n => Kept.passOver n s

theorem Kept.serveRecallWait (fs : List EntryIx) (s : State) : Kept s (State.serveRecallWait fs s) := by
  induction fs generalizing s with
  | nil => exact Kept.refl s
  | cons f rest ih =>
    have h0 := Kept.recallWaitSet s rest
    unfold State.serveRecallWait
    dsimp only
    split
    · exact h0.trans (ih _)
    · split
      · exact h0.trans (ih _)
      · split
        · exact h0.trans (Kept.decideFill _ f _ _)
        · exact (h0.trans (Kept.decideFill _ f _ _)).trans (ih _)

theorem Kept.giveEntry11 (s : State) : Kept s s.giveEntry11 := by
  unfold State.giveEntry11
  split
  · exact Kept.refl s
  · split
    · exact Kept.advanceSweep s _
    · exact Kept.advanceSweep s _
    · exact Kept.refl s
    · exact Kept.serveRecallWait _ s

theorem Kept.endRecall (s : State) : Kept s s.endRecall := by
  unfold State.endRecall
  split
  · exact Kept.refl s
  · split
    · exact ((Kept.freeEntry s _).trans (Kept.releaseLock _ _ _)).trans (Kept.giveEntry11 _)
    · exact Kept.refl s

theorem Kept.goOnWithoutData (s : State) (i : EntryIx) : Kept s (s.goOnWithoutData i) := by
  unfold State.goOnWithoutData
  split
  · exact Kept.refl s
  · split
    · exact Kept.endRecall s
    · exact Kept.toMemWait s i

theorem Kept.afterMiss (s : State) (i : EntryIx) (b : Bool) : Kept s (s.afterMiss i b) := by
  unfold State.afterMiss
  split
  · exact Kept.refl s
  · refine Kept.trans ?_ (Kept.goOnWithoutData _ i)
    split
    · exact Kept.removeProbed s i _
    · exact Kept.refl s

theorem Kept.pumpProbes (n : Nat) (s : State) : Kept s (State.pumpProbes n s) := by
  induction n generalizing s with
  | zero => exact Kept.refl s
  | succ n ih =>
    unfold State.pumpProbes
    split
    · exact Kept.refl s
    · split
      · exact Kept.refl s
      · rename_i i rest _
        have h0 := Kept.setQueue s rest
        dsimp only
        split
        · exact h0.trans (ih _)
        · split
          · exact h0.trans (Kept.issueProbe _ _ _ _)
          · refine Kept.trans ?_ (ih _)
            split
            · exact (h0.trans (Kept.declineLinked _)).trans (Kept.goOnWithoutData _ _)
            · exact h0.trans (Kept.goOnWithoutData _ _)

theorem Kept.drainQueue (p : PortIx) (rs : List Accepted) (s : State) : Kept s (State.drainQueue p rs s) := by
  induction rs generalizing s with
  | nil => exact Kept.refl s
  | cons r rest ih =>
    unfold State.drainQueue
    split
    · exact Kept.refl s
    · exact ((Kept.modPort s p _ rfl).trans (Kept.placeResponse _ p _)).trans (ih _)

theorem Kept.drainPort (s : State) (p : PortIx) : Kept s (s.drainPort p) := by
  have h := Kept.drainQueue p (s.port p).ingress s
  unfold State.drainPort
  split
  · dsimp only
    split
    · exact ((h.trans (Kept.modPort _ p _ rfl)).trans (Kept.raise _ _)).trans (Kept.endLongOperation _)
    · exact h
  · exact Kept.refl s

theorem Kept.drainPorts (s : State) : Kept s s.drainPorts := Kept.foldl Kept.drainPort _ s

theorem Kept.settle (s : State) : Kept s s.settle :=
  ((Kept.giveEntry11 s).trans (Kept.pumpProbes _ _)).trans (Kept.drainPorts _)

/-! ### Withdrawal, answers and timeouts -/

theorem Kept.withdrawFill (s : State) (i : EntryIx) (t : Txn) : Kept s (s.withdrawFill i t) := by
  unfold State.withdrawFill
  split
  · have h := (Kept.removeReserved s t.line).trans
      (Kept.recallWaitSet _ ((s.removeReserved t.line).tt.recallWait.filter fun j => j != i))
    dsimp only
    split
    · exact h.trans (Kept.clearLink _)
    · exact h
  · exact Kept.refl s

theorem Kept.withdraw (s : State) (i : EntryIx) : Kept s (s.withdraw i) := by
  unfold State.withdraw
  split
  · exact Kept.refl s
  · rename_i t _
    have h := (((Kept.withdrawFill s i t).trans (Kept.leaveMemWait _ i)).trans (Kept.freeEntry _ i)).trans
      (Kept.releaseLock _ i t.line)
    split
    · split
      · exact Kept.freeEntry s i
      · exact (Kept.leaveWaiters s i _).trans (Kept.freeEntry _ i)
      · exact (Kept.withdrawFill s i t).trans (Kept.modTxn _ i _)
      all_goals exact h
    · exact Kept.refl s

theorem Kept.retractCycle (s : State) (c : Cycle) : Kept s (s.retractCycle c) := by
  have h := ((Kept.bump s .retracts).trans (Kept.emit _ .retract)).trans (Kept.endCycle _)
  unfold State.retractCycle
  dsimp only
  split
  · split
    · exact (h.trans (Kept.withdraw _ _)).trans (Kept.startLockTimer _)
    · exact h.trans (Kept.withdraw _ _)
  · exact h
  · exact h

theorem Kept.retract (s : State) : Kept s s.retract := by
  unfold State.retract
  split
  · split
    · exact Kept.retractCycle s _
    · exact Kept.refl s
  · exact Kept.refl s

theorem Kept.awaitWriteback (s : State) (i : EntryIx) (l : Line) : Kept s (s.awaitWriteback i l) := by
  unfold State.awaitWriteback
  dsimp only
  have h := (Kept.modTxn s i fun t => { t with phase := .wbWait, wbTimer := some .pending }).trans (Kept.retract _)
  split
  · exact h.trans (Kept.startPendingTimers _)
  · split
    · exact h.trans (Kept.modTxn _ i _)
    · exact h

theorem Kept.actOnAnswer (s : State) (i : EntryIx) (a : Answer) : Kept s (s.actOnAnswer i a) := by
  unfold State.actOnAnswer
  split
  · exact Kept.refl s
  · split
    · refine Kept.trans ?_ (Kept.afterBeats _ i)
      split
      · exact Kept.bump s _
      · exact Kept.refl s
    · split
      · exact Kept.afterMiss s i _
      · exact Kept.afterMiss s i _
      · exact (Kept.bump s _).trans (Kept.awaitWriteback _ i _)
      · exact Kept.refl s

theorem Kept.takeAnswer (s : State) (a : Answer) : Kept s (s.takeAnswer a) := by
  unfold State.takeAnswer
  split
  · exact (((Kept.setChannel s _).trans (Kept.modTxn _ _ _)).trans (Kept.actOnAnswer _ _ a)).trans (Kept.settle _)
  · exact Kept.raise s _
  · exact Kept.raise s _

theorem Kept.endProbing (s : State) (i : EntryIx) (t : Txn) (c : ResultCode) : Kept s (s.endProbing i t c) := by
  unfold State.endProbing
  split
  · exact (Kept.declineLinked s).trans (Kept.endRecall _)
  · exact (Kept.respond s i c).trans (Kept.releaseLock _ i _)

theorem Kept.leaveAtFaulted (s : State) (i : EntryIx) : Kept s (s.leaveAtFaulted i) := by
  unfold State.leaveAtFaulted
  split
  · exact Kept.refl s
  · exact Kept.endProbing s i _ _

theorem Kept.enterFaulted (s : State) : Kept s s.enterFaulted :=
  (((Kept.setMode s _).trans (Kept.endSweepFaulted _)).trans (Kept.setQueue _ _)).trans
    (Kept.foldl Kept.leaveAtFaulted _ _)

theorem Kept.enterQuarantine (s : State) (t : Txn) (c : QuarCause) : Kept s (s.enterQuarantine t c) := by
  unfold State.enterQuarantine
  split
  · exact Kept.refl s
  · split
    · exact Kept.setQuarantine s _
    · dsimp only
      split
      · exact (Kept.reportError s _).trans (Kept.enterFaulted _)
      · exact Kept.reportError s _

theorem Kept.timeout (s : State) (i : EntryIx) (c : QuarCause) : Kept s (s.timeout i c) := by
  unfold State.timeout
  split
  · exact Kept.refl s
  · rename_i t _
    dsimp only
    obtain ⟨c', h⟩ := State.handBack_cases i t (s.modTxn i fun t => { t with answer := some .timeout, wbTimer := none })
    rw [h]
    exact ((((Kept.modTxn s i _).trans (Kept.setCycle _ c')).trans (Kept.reportError _ _)).trans
      (Kept.enterQuarantine _ t c)).trans (Kept.endProbing _ i t _)

/-! ### The host port's beats and the memory port's completions -/

theorem Kept.ackBeat (s : State) (c : Cycle) : Kept s (s.ackBeat c) := (Kept.setCycle s _).trans (Kept.emit _ _)

theorem Kept.lastEvictBeat (s : State) (i : EntryIx) (c : Cycle) : Kept s (s.lastEvictBeat i c) := by
  unfold State.lastEvictBeat
  split
  · exact Kept.refl s
  · split
    · exact (Kept.freeEntry s i).trans (Kept.attach _ _ _ _)
    · exact Kept.requestLock s i _

theorem Kept.takeSingleBeat (s : State) (i : EntryIx) (c : Cycle) (t : Txn) (b : Beat) (m : BeatMask) (d : BeatData) :
    Kept s (s.takeSingleBeat i c t b m d) :=
  (((Kept.modTxn s i _).trans (Kept.ackBeat _ _)).trans (Kept.askLock _ i _ _)).trans (Kept.settle _)

theorem Kept.takeEvictBeat (s : State) (i : EntryIx) (c : Cycle) (b : Beat) (d : BeatData) :
    Kept s (s.takeEvictBeat i c b d) := by
  unfold State.takeEvictBeat
  dsimp only
  split
  · exact (Kept.modTxn s i _).trans (Kept.ackBeat _ _)
  · exact (((Kept.modTxn s i _).trans (Kept.setCycle _ _)).trans (Kept.lastEvictBeat _ i _)).trans (Kept.settle _)

theorem Kept.takeWritebackBeat (s : State) (i : EntryIx) (c : Cycle) (b : Beat) (d : BeatData) :
    Kept s (s.takeWritebackBeat i c b d) := by
  unfold State.takeWritebackBeat
  dsimp only
  refine Kept.trans ?_ ((Kept.afterBeats _ i).trans (Kept.settle _))
  split
  · exact (Kept.modTxn s i _).trans (Kept.ackBeat _ _)
  · exact (Kept.modTxn s i _).trans (Kept.setCycle _ _)

theorem Kept.endRequester (s : State) (i : EntryIx) (l : Line) (c : ResultCode) : Kept s (s.endRequester i l c) :=
  (Kept.respond s i c).trans (Kept.releaseLock _ i l)

theorem Kept.ackAttached (s : State) (i : EntryIx) : Kept s (s.ackAttached i) := by
  unfold State.ackAttached
  split
  · exact (Kept.emit s _).trans (Kept.endCycle _)
  · exact Kept.refl s

theorem Kept.giveFinalAck (s : State) (i : EntryIx) (r : ResultCode) : Kept s (s.giveFinalAck i r) :=
  (Kept.modTxn s i _).trans (Kept.emit _ _)

theorem Kept.countBeat (s : State) : Kept s s.countBeat := Kept.setCycle s _

theorem Kept.completeLwrite (s : State) (i : EntryIx) (m : Bool) (r : ResultCode) : Kept s (s.completeLwrite i m r) := by
  have h := Kept.giveFinalAck s i r
  unfold State.completeLwrite
  dsimp only
  split
  · exact h.trans (Kept.giveUpLockSet _)
  · exact h

theorem Kept.reportMemory (s : State) (t : Txn) (k : MemKind) (c : Completion) : Kept s (s.reportMemory t k c) := by
  unfold State.reportMemory
  split
  · exact Kept.reportError s _
  · exact Kept.refl s

theorem Kept.completeRRead (s : State) (i : EntryIx) (l : Line) (k : MemKind) (c : Completion) :
    Kept s (s.completeRRead i l k c) := by
  unfold State.completeRRead
  split
  · exact (Kept.modTxn s i _).trans (Kept.endRequester _ i l _)
  · exact (Kept.ackAttached s i).trans (Kept.endRequester _ i l _)
  · exact (Kept.ackAttached s i).trans (Kept.endRequester _ i l _)

theorem Kept.completeRWrite (s : State) (i : EntryIx) (l : Line) (c : Completion) : Kept s (s.completeRWrite i l c) :=
  (Kept.ackAttached s i).trans (Kept.endRequester _ i l _)

theorem Kept.completeAtomicRead (s : State) (i : EntryIx) (l : Line) (c : Completion) :
    Kept s (s.completeAtomicRead i l c) := by
  have h := Kept.modTxn s i fun t => (t.load c).workOnData
  unfold State.completeAtomicRead
  dsimp only
  split
  · exact h.trans (Kept.toMemWait _ i)
  · exact h.trans (Kept.endRequester _ i l _)

theorem Kept.completeRAtomic (s : State) (i : EntryIx) (l : Line) (k : MemKind) (c : Completion) :
    Kept s (s.completeRAtomic i l k c) := by
  unfold State.completeRAtomic
  split
  · split
    · exact Kept.endRequester s i l _
    · exact Kept.completeAtomicRead s i l c
  · exact Kept.completeRWrite s i l c
  · exact Kept.completeRWrite s i l c

theorem Kept.completeTxn (s : State) (i : EntryIx) (t : Txn) (k : MemKind) (c : Completion) :
    Kept s (s.completeTxn i t k c) := by
  have h := Kept.reportMemory s t k c
  unfold State.completeTxn
  dsimp only
  split
  · exact h.trans (Kept.modTxn _ i _)
  · exact h.trans (Kept.modTxn _ i _)
  · exact h.trans (Kept.modTxn _ i _)
  · exact h.trans (Kept.giveFinalAck _ i _)
  · exact (h.trans (Kept.giveFinalAck _ i _)).trans (Kept.countBeat _)
  · exact h.trans (Kept.completeLwrite _ i _ _)
  · exact h.trans (Kept.completeRRead _ i _ k c)
  · exact h.trans (Kept.completeRWrite _ i _ c)
  · exact h.trans (Kept.completeRAtomic _ i _ k c)
  · exact (h.trans (Kept.ackAttached _ i)).trans (Kept.endRecall _)

/-- A completion changes nothing of these but the outstanding queue, whose oldest record leaves (R157). -/
theorem Kept.complete (s : State) (r : MemReq) (rest : List MemReq) (c : Completion) :
    Kept { s with mp := { s.mp with outstanding := rest } } (s.complete r rest c) := by
  unfold State.complete
  dsimp only
  split
  · exact Kept.refl _
  · split
    · exact (Kept.freeEntry _ _).trans (Kept.releaseLock _ _ _)
    · exact Kept.completeTxn _ _ _ _ _

/-! ### HRST -/

theorem Kept.dropDirectory (s : State) : Kept s s.dropDirectory := by
  unfold State.dropDirectory
  dsimp only
  refine Kept.trans ?_ ((Kept.recallWaitSet _ []).trans (Kept.clearLink _))
  split
  · exact (Kept.clearDirectory s).trans (Kept.endSweep _)
  · exact Kept.clearDirectory s

theorem Kept.abandonHost (s : State) (i : EntryIx) : Kept s (s.abandonHost i) := by
  unfold State.abandonHost
  split
  · exact Kept.withdraw s i
  · exact Kept.refl s

theorem Kept.giveUpLineAtHrst (s : State) (l : Line) : Kept s (s.giveUpLineAtHrst l) := by
  unfold State.giveUpLineAtHrst
  split
  · split
    · exact Kept.putLock s _
    · exact Kept.refl s
  · exact Kept.giveUpLine s l

theorem Kept.dropLockSet (s : State) : Kept s s.dropLockSet :=
  (Kept.emptyLockSet s).trans (Kept.foldl Kept.giveUpLineAtHrst _ _)

theorem Kept.dropProbe (s : State) : Kept s s.dropProbe := by
  unfold State.dropProbe
  split
  · exact (Kept.setChannel s _).trans (Kept.modTxn _ _ _)
  · exact Kept.refl s
  · exact Kept.refl s

theorem Kept.loseWriteback (s : State) (i : EntryIx) (t : Txn) : Kept s (s.loseWriteback i t) :=
  ((Kept.handRecord s _).trans (Kept.modTxn _ i _)).trans (Kept.afterMiss _ i _)

theorem Kept.settleProbing (a : Option EntryIx) (s : State) (i : EntryIx) : Kept s (s.settleProbing a i) := by
  unfold State.settleProbing
  split
  · exact Kept.refl s
  · split
    · split
      · exact Kept.dataTaken s i
      · split
        · exact Kept.loseWriteback s i _
        · exact Kept.afterMiss s i _
    · exact Kept.loseWriteback s i _
    all_goals exact Kept.refl s

/-- R117, R162: HRST changes none of these. -/
theorem Kept.hostReset (s : State) : Kept s s.hostReset := by
  unfold State.hostReset
  dsimp only
  refine Kept.trans ?_ (Kept.settle _)
  refine Kept.trans ?_ (Kept.foldl (Kept.settleProbing _) _ _)
  refine Kept.trans ?_ ((Kept.dropLockSet _).trans (Kept.dropProbe _))
  refine Kept.trans ?_ (Kept.foldl Kept.abandonHost _ _)
  exact ((Kept.raise s _).trans (Kept.dropHostSide _)).trans (Kept.dropDirectory _)

end Sys2Proof.Machine
end

