-- ==== Sys2Proof/WellFormed.lean ====
section
/-! DEFINITION. Which terms of `Instr` spell a command that can be presented. The operand types already bound
tags, ports, beats and entries; what is left to check is that a WRITE carries bytes only under its line mask. A request
whose SHAPE is not well formed (R123) is a command like any other: the port refuses it with MALFORMED. -/

namespace Sys2Proof

/-- R120: a WRITE's data are "the bytes under the line mask", so a byte outside the mask is no part of the request
and stands as 0. -/
def Request.wellFormed (r : Request) : Bool :=
  match r.body with
  | .write mask data => (List.finRange 32).all fun k => mask.getLsbD k || data[k] == 0
  | .read _ => true
  | .atomic _ => true

/-- A command as the outside can present it. -/
def Instr.wellFormed : Instr → Bool
  | .requestOffer _ r => r.wellFormed
  | _ => true

end Sys2Proof
end

