-- ==== Sys2Proof/Laws/PerInstr.lean ====
section
/-! SUPPORT. Statements about every command as syntax, one lemma per constructor. -/

namespace Sys2Proof.Laws.Spelling

/-- A command is spelt by its operands alone: no word spells it (the table gives no row bits, log 27), and nothing but the
bytes of a WRITE outside its line mask makes it ill formed (R120). -/
def Statement (i : Instr) : Prop :=
  (∀ n w, decodeTableWord n w ≠ some i) ∧
    (i.wellFormed = true ∨ ∃ port r, i = .requestOffer port r ∧ r.wellFormed = false)

/-- Every command but a request is well formed. -/
theorem of_wellFormed {i : Instr} (h : i.wellFormed = true) : Statement i :=
  ⟨(fun _ _ h => nomatch h), .inl h⟩

theorem resetPinAssert : Statement .resetPinAssert := of_wellFormed rfl

theorem resetPinRelease (ma1 ma0 start : Bool) : Statement (.resetPinRelease ma1 ma0 start) := of_wellFormed rfl

theorem hrstAssert : Statement .hrstAssert := of_wellFormed rfl

theorem hrstRelease : Statement .hrstRelease := of_wellFormed rfl

theorem hostRead (addr : Addr) (mask : BeatMask) : Statement (.hostRead addr mask) := of_wellFormed rfl

theorem hostWrite (addr : Addr) (mask : BeatMask) : Statement (.hostWrite addr mask) := of_wellFormed rfl

theorem hostFill (addr : Addr) : Statement (.hostFill addr) := of_wellFormed rfl

theorem hostEvict (addr : Addr) : Statement (.hostEvict addr) := of_wellFormed rfl

theorem hostProbeWb (addr : Addr) : Statement (.hostProbeWb addr) := of_wellFormed rfl

theorem hostLread (addr : Addr) (mask : BeatMask) : Statement (.hostLread addr mask) := of_wellFormed rfl

theorem hostLwrite (addr : Addr) (mask : BeatMask) (endMark : Bool) : Statement (.hostLwrite addr mask endMark) := of_wellFormed rfl

theorem hostSpecial (code : SpecialCode) : Statement (.hostSpecial code) := of_wellFormed rfl

theorem hostWriteBeat (beat : Beat) (data : BeatData) : Statement (.hostWriteBeat beat data) := of_wellFormed rfl

theorem writebackBeat (beat : Beat) (data : BeatData) : Statement (.writebackBeat beat data) := of_wellFormed rfl

theorem hostBeatTaken : Statement .hostBeatTaken := of_wellFormed rfl

theorem admissionGrant : Statement .admissionGrant := of_wellFormed rfl

theorem probeAnswerMiss : Statement .probeAnswerMiss := of_wellFormed rfl

theorem probeAnswerClean : Statement .probeAnswerClean := of_wellFormed rfl

theorem probeAnswerDirty : Statement .probeAnswerDirty := of_wellFormed rfl

theorem answerTimerExpiry : Statement .answerTimerExpiry := of_wellFormed rfl

theorem wbTimerExpiry (entry : EntryIx) : Statement (.wbTimerExpiry entry) := of_wellFormed rfl

theorem quietTimerExpiry : Statement .quietTimerExpiry := of_wellFormed rfl

theorem lockTimerExpiry : Statement .lockTimerExpiry := of_wellFormed rfl

theorem requestOffer (port : PortIx) (request : Request) : Statement (.requestOffer port request) := by
  refine ⟨(fun _ _ h => nomatch h), ?_⟩
  cases h : request.wellFormed with
  | true => exact .inl h
  | false => exact .inr ⟨port, request, rfl, h⟩

theorem responseTaken (port : PortIx) : Statement (.responseTaken port) := of_wellFormed rfl

theorem memRequestAccept : Statement .memRequestAccept := of_wellFormed rfl

theorem memCompletion (completion : Completion) : Statement (.memCompletion completion) := of_wellFormed rfl

theorem mgPointerWrite (byte : Byte) : Statement (.mgPointerWrite byte) := of_wellFormed rfl

theorem mgByteStage (byte : Byte) : Statement (.mgByteStage byte) := of_wellFormed rfl

theorem mgTransactionEnd : Statement .mgTransactionEnd := of_wellFormed rfl

theorem registerWrite (byte : Byte) : Statement (.registerWrite byte) := of_wellFormed rfl

theorem cmdStatusWrite (byte : Byte) : Statement (.cmdStatusWrite byte) := of_wellFormed rfl

theorem eventFlagsWrite (byte : Byte) : Statement (.eventFlagsWrite byte) := of_wellFormed rfl

theorem eventEnableWrite (byte : Byte) : Statement (.eventEnableWrite byte) := of_wellFormed rfl

theorem defaultAttrWrite (byte : Byte) : Statement (.defaultAttrWrite byte) := of_wellFormed rfl

theorem probeTimesWrite (byte : Byte) : Statement (.probeTimesWrite byte) := of_wellFormed rfl

theorem lockLimitWrite (byte : Byte) : Statement (.lockLimitWrite byte) := of_wellFormed rfl

theorem admitPolicyWrite (byte : Byte) : Statement (.admitPolicyWrite byte) := of_wellFormed rfl

theorem writeRegion (byte : Byte) : Statement (.writeRegion byte) := of_wellFormed rfl

theorem setMode (byte : Byte) : Statement (.setMode byte) := of_wellFormed rfl

theorem sweep (byte : Byte) : Statement (.sweep byte) := of_wellFormed rfl

theorem resume (byte : Byte) : Statement (.resume byte) := of_wellFormed rfl

theorem release (byte : Byte) : Statement (.release byte) := of_wellFormed rfl

theorem portDisable (byte : Byte) : Statement (.portDisable byte) := of_wellFormed rfl

theorem portEnable (byte : Byte) : Statement (.portEnable byte) := of_wellFormed rfl

theorem popFault (byte : Byte) : Statement (.popFault byte) := of_wellFormed rfl

theorem clearCounters (byte : Byte) : Statement (.clearCounters byte) := of_wellFormed rfl

theorem readDir (byte : Byte) : Statement (.readDir byte) := of_wellFormed rfl

theorem readTt (byte : Byte) : Statement (.readTt byte) := of_wellFormed rfl

theorem unknownCommand (byte : Byte) : Statement (.unknownCommand byte) := of_wellFormed rfl

theorem startCondition (address : BitVec 7) (direction : Direction) : Statement (.startCondition address direction) := of_wellFormed rfl

end Sys2Proof.Laws.Spelling
end

