-- ==== Sys2Proof/Laws/Settle.lean ====
section
/-! SUPPORT. In a quiet state nothing follows an event: the wake and the consequences of an event change nothing. -/

namespace Sys2Proof.Machine

theorem State.Quiet.wakeSweep {s : State} (h : s.Quiet) : s.wakeSweep = s := by
  unfold State.wakeSweep
  rcases h.sweep with h1 | ⟨h1, h2⟩
  · rw [h1]
  · split
    · exact absurd ‹_› h1
    · rfl
    all_goals rw [if_pos h2]

theorem State.Quiet.giveEntry11 {s : State} (h : s.Quiet) : s.giveEntry11 = s := by
  unfold State.giveEntry11
  rcases h.entry11 with h1 | ⟨h1, h2⟩
  · rw [if_pos h1]
  · split
    · rfl
    · rw [h1, h2]; rfl

theorem State.Quiet.pumpProbes {s : State} (h : s.Quiet) (n : Nat) : s.pumpProbes n = s := by
  cases n with
  | zero => rfl
  | succ n =>
    unfold State.pumpProbes
    rcases h.channel with h1 | h1 | h1
    · rw [if_pos (.inl h1)]
    · rw [if_pos (.inr h1)]
    · split
      · rfl
      · rw [h1]

theorem State.drainPorts_of_none {s : State} (h : ∀ p, (s.port p).state ≠ .draining) : s.drainPorts = s := by
  have key : ∀ l : List PortIx, l.foldl State.drainPort s = s := by
    intro l
    induction l with
    | nil => rfl
    | cons p l ih =>
      have hp : s.drainPort p = s := by unfold State.drainPort; rw [if_neg (h p)]
      rw [List.foldl_cons, hp, ih]
  exact key _

/-- In a quiet state an event has no consequence left. -/
theorem State.Quiet.settle {s : State} (h : s.Quiet) : s.settle = s := by
  unfold State.settle
  rw [h.giveEntry11, h.pumpProbes, State.drainPorts_of_none h.ports]

/-- Quiet is a matter of these parts of the state alone. -/
theorem State.Quiet.of_eq {s t : State} (h : s.Quiet) (h1 : (t.txn recallEntry).isSome = (s.txn recallEntry).isSome)
    (h2 : t.msc = s.msc) (h3 : t.tt.recallWait = s.tt.recallWait)
    (h4 : t.pu.channel ≠ .idle ∨ s.msc.mode = .faulted ∨ t.pu.queue = [])
    (h5 : ∀ p, (t.port p).state = (s.port p).state) : t.Quiet where
  entry11 := by rw [h1, h2, h3]; exact h.entry11
  channel := by rw [h2]; exact h4
  ports := fun p => by rw [h5]; exact h.ports p
  sweep := by rw [h2]; exact h.sweep

/-- What waits for the processor to take it: a cycle whose transaction stands in DATA_OUT with its result decided. -/
theorem State.delivering_eq_some {s : State} {i : EntryIx} {c : Cycle} {t : Txn} {r : ResultCode} :
    s.delivering = some (i, c, t, r) ↔ s.Carries c i t ∧ t.phase = .dataOut ∧ t.result = some r := by
  unfold State.delivering
  constructor
  · intro h
    split at h
    · cases h
    · rename_i hc
      split at h
      · cases h
      · cases h
      · rename_i hs
        split at h
        · cases h
        · rename_i ht
          split at h
          · rename_i hp
            rw [Option.map_eq_some_iff] at h
            obtain ⟨r', hr, he⟩ := h
            cases he
            exact ⟨⟨hc, hs, ht⟩, hp, hr⟩
          · cases h
  · rintro ⟨⟨hc, hs, ht⟩, hp, hr⟩
    simp [hc, hs, ht, hp, hr]

end Sys2Proof.Machine
end

