-- ==== Sys2Proof/Tests/Slice0.lean ====
section
/-! SUPPORT. Tests: the smoke test of WellFormed, single steps whose results are the manual's, and for each obligation with
hypotheses a concrete state that meets them, clause by clause, at the bounds of its ranges. -/

namespace Sys2Proof.Tests

-- one proof at a time: each of these holds a thread of the kernel while it runs
set_option Elab.async false

open Sys2Proof.Machine

/-! ### WellFormed -/

/-- R120: a WRITE that carries a byte outside its mask is refused. -/
theorem test_wellFormed_refuses_byte_outside_mask :
    (Instr.requestOffer 0 ⟨1, 0#32, .write 0x1#32 (Vector.replicate 32 5#8)⟩).wellFormed = false := by decide +kernel

/-- R123: a request whose shape the port refuses is a command like any other. -/
theorem test_wellFormed_accepts_malformed_shape :
    (Instr.requestOffer 0 ⟨1, 0x00090018#32, .read 9⟩).wellFormed = true := by decide +kernel

/-! ### Building small states -/

/-- A running bridge in COHERENT, its default attributes WB, coherent, all ports writing (R80 with START high). -/
def base : State := State.afterReset false false true

/-- The same in FAULTED. -/
def faulted : State := base.setMode .faulted

/-- The line of address 0001_2340H, which is line 2330 of set 26 (section 2.9 of chapter 2). -/
def lineA : Line := 2330#27

/-- Another line of set 26. -/
def lineB : Line := 26#27

/-- A data line. -/
def data : LineData := Vector.ofFn fun k : Fin 32 => BitVec.ofNat 8 k.val

/-- A bridge with one more entry in use. -/
def withTxn (i : EntryIx) (w : Work) (l : Line) (p : Phase) (s : State) : State := s.putTxn i (some (Txn.fresh w l p))

/-- A bridge with a line locked by an entry. -/
def locked (i : EntryIx) (l : Line) (ws : List EntryIx) (s : State) : State :=
  s.putLock { line := l, holder := .txn i, waiters := ws }

/-- A bridge with a line locked by the host lock set. -/
def lockedBySet (l : Line) (s : State) : State :=
  ({ s with hp := { s.hp with lockSet := s.hp.lockSet ++ [l] } } : State).putLock
    { line := l, holder := .hostSet, waiters := [] }

/-- A cycle of line 2330, beat 2, with some beats taken. -/
def cycle (k : CycleKind) (st : Standing) (given : Nat) (taken : List Beat) : Cycle :=
  { kind := k, addr := 0x00012350#32, line := lineA, beat := 2, mask := 0x0F#8, endMark := false, standing := st,
    given := given, taken := taken, held := [] }

/-- Four beats that a cycle handed back holds, every byte of them 1. -/
def fourBeats : List (Beat × BeatData) := ([2, 3, 0, 1] : List Beat).map fun b => (b, Vector.replicate 8 1#8)

/-- A bridge whose bus carries a cycle. -/
def withCycle (k : CycleKind) (st : Standing) (given : Nat) (taken : List Beat) (s : State) : State :=
  s.setCycle (some (cycle k st given taken))

/-- A directory entry. -/
def entry (w : Way) (l : Line) (st : EntryState) (p : EntryPolicy) : DirEntry := { way := w, line := l, state := st, policy := p }

/-- A bridge whose set of line 2330 holds the entries named. -/
def withSet (es : List DirEntry) (s : State) : State := s.putSet lineA es

/-- A request in an ingress queue. -/
def request (t : Tag) (w : ReqWork) : Accepted := { tag := t, line := lineA, work := w }

/-- A bridge with requests in the ingress queue of RP1. -/
def queued (rs : List Accepted) (s : State) : State := s.modPort 1 fun q => { q with ingress := rs }

/-- A bridge with one probe outstanding for an entry. -/
def probing (i : EntryIx) (m : ProbeMode) (s : State) : State := s.setChannel (.outstanding i lineA m 5)

/-- A bridge with one fill in the recall wait list. -/
def waitingForRecall (i : EntryIx) (s : State) : State := { s with tt := { s.tt with recallWait := [i] } }

/-- A bridge with one memory request outstanding. -/
def outstanding (i : EntryIx) (k : MemKind) (s : State) : State :=
  { s with mp := { s.mp with outstanding := [{ txn := i, kind := k, line := lineA, mask := 0#32 }] } }

/-- A bridge whose management port is to take the highest byte of the register at an offset. -/
def atOffset (pointer : Byte) (b0 : Byte) (s : State) : State :=
  s.modMg fun m => { m with pointer := pointer, bus := .writing, staged := { b0 := some b0, b1 := some 2#8, b2 := some 1#8 } }

/-- The same, with CMD_ARG0 and CMD_ARG1, at COMMAND. -/
def atCommand (code : Byte) (arg0 arg1 : Reg) (s : State) : State :=
  atOffset 0x0B#8 code (s.modMg fun m => { m with arg0 := arg0, arg1 := arg1 })

/-- Ten entries in use, so that entry 10 is the lowest that is free. -/
def crowded (s : State) : State :=
  (List.finRange 10).foldl (fun s i => withTxn (Fin.castLE (by decide) i) (.rRead 0 3 0 8) lineB .memBusy s) s

/-- The entry whose probe is outstanding. -/
def probed : Channel → Option EntryIx
  | .outstanding i _ _ _ => some i
  | .idle => none
  | .quiet _ => none

/-- Whether a quiet period passes. -/
def resting : Channel → Bool
  | .outstanding _ _ _ _ => false
  | .idle => false
  | .quiet _ => true

/-- No quiet period passes. -/
theorem resting_iff (s : State) : (∀ n, s.pu.channel ≠ .quiet n) ↔ resting s.pu.channel = false := by
  cases s.pu.channel <;> simp [resting]

/-- An option that holds nothing without the property. -/
theorem all_iff {α : Type} {o : Option α} {p : α → Bool} {P : α → Prop} (h : ∀ a, P a ↔ p a = true) :
    (∀ a, o = some a → P a) ↔ o.all p = true := by
  cases o with
  | none => exact ⟨fun _ => rfl, fun _ a ha => nomatch ha⟩
  | some b => exact ⟨fun hb => (h b).mp (hb b rfl), fun hb a ha => by cases ha; exact (h b).mpr hb⟩

/-- The probe of an entry is outstanding. -/
theorem probed_iff (s : State) (i : EntryIx) :
    (∃ l m n, s.pu.channel = .outstanding i l m n) ↔ probed s.pu.channel = some i := by
  cases s.pu.channel <;> simp [probed, eq_comm]

/-- No probe of an entry is outstanding. -/
theorem not_probed_iff (s : State) (i : EntryIx) :
    (∀ l m n, s.pu.channel ≠ .outstanding i l m n) ↔ probed s.pu.channel ≠ some i :=
  ⟨fun h hp => by obtain ⟨l, m, n, hc⟩ := (probed_iff s i).mpr hp; exact h l m n hc,
    fun h l m n hc => h ((probed_iff s i).mp ⟨l, m, n, hc⟩)⟩

/-- Whether a cycle is not one of a line's that waits to attach to a holder that enters PROBE_QUEUED. -/
def staysOff (s : State) (l : Line) (c : Cycle) : Bool :=
  !(c.line == l && (c.kind == .evict || c.kind == .probeWb)) ||
    match c.standing with
    | .claiming => false
    | .attached _ => true
    | .served i => (s.txn i).all fun t => !(t.phase == .lockWait && t.work.kind == .hEvict)

/-- No cycle of a line waits to attach. -/
theorem noneAttaches_iff (s : State) (l : Line) : s.NoneAttaches l ↔ s.hp.cycle.all (staysOff s l) = true := by
  refine all_iff fun c => ?_
  have inner : ∀ i, (∀ j t, Standing.served i = .served j → s.txn j = some t → t.phase = .lockWait → t.work.kind ≠ .hEvict) ↔
      (s.txn i).all (fun t => !(t.phase == .lockWait && t.work.kind == .hEvict)) = true := fun i => by
    rw [← all_iff (P := fun t => t.phase = .lockWait → t.work.kind ≠ .hEvict) fun t => by
      by_cases h : t.phase = .lockWait <;> simp [h]]
    exact ⟨fun h t => h i t rfl, fun h j t hj => by cases hj; exact h t⟩
  rw [Cycle.WritesBack, staysOff]
  by_cases hl : c.line = l
  · cases hs : c.standing with
    | served i => simp only [inner]; cases hk : c.kind <;> simp [hl]
    | _ => cases hk : c.kind <;> simp [hl]
  · simp [hl]

/-- No transaction awaits a write-back of a line. -/
theorem not_awaits_iff (s : State) (l : Line) :
    (∀ i x, ¬ s.Awaits l i x) ↔ ∀ i : EntryIx, (s.lockOf l).all (fun r => r.holder != .txn i) = true ∨
      (s.txn i).all (fun x => x.wbData || (x.phase != .probeQueued && x.phase != .probing && x.phase != .wbWait)) = true := by
  refine ⟨fun h i => ?_, fun h i x ⟨⟨r, hr, hh⟩, hx, hp, hd⟩ => ?_⟩
  · cases hl : s.lockOf l with
    | none => exact .inl rfl
    | some r =>
      by_cases hh : r.holder = .txn i
      · cases hx : s.txn i with
        | none => exact .inr rfl
        | some x =>
          refine .inr ?_
          have := h i x
          by_cases hd : x.wbData = true
          · simp [hd]
          by_cases hp : x.phase = .probeQueued ∨ x.phase = .probing ∨ x.phase = .wbWait
          · exact absurd ⟨⟨r, hl, hh⟩, hx, hp, by simpa using hd⟩ this
          · simp only [not_or] at hp
            simp [hp]
      · exact .inl (by simp [hh])
  · rcases h i with h | h
    · simp [hr, hh] at h
    · rcases hp with hp | hp | hp <;> simp [hx, hd, hp] at h

/-- A port claims an entry. -/
theorem portClaims_iff (s : State) (p : PortIx) (r : Accepted) (rest : List Accepted) : s.PortClaims p r rest ↔
    s.hp.cycle.all (fun c => c.standing != .claiming) = true ∧ (s.port p).state = .enabled ∧
    (s.port p).ingress = r :: rest ∧
    ∀ q : PortIx, (q - s.tt.roundRobin - 1).val < (p - s.tt.roundRobin - 1).val →
      (s.port q).state ≠ .enabled ∨ (s.port q).ingress = [] := by
  rw [← all_iff (P := fun c => c.standing ≠ .claiming) fun c => by simp]
  exact ⟨fun h => ⟨h.bus, h.enabled, h.head, h.before⟩, fun h => ⟨h.1, h.2.1, h.2.2.1, h.2.2.2⟩⟩

/-- The one probe outstanding is an entry's. -/
theorem probes_iff (s : State) (i : EntryIx) (x : Txn) : s.Probes i x ↔
    probed s.pu.channel = some i ∧ s.pu.queue = [] ∧ s.txn i = some x ∧ x.phase = .probing ∧ x.wbData = false := by
  rw [← probed_iff]
  exact ⟨fun h => ⟨h.channel, h.queue, h.txn, h.phase, h.data⟩, fun ⟨hc, hq, ht, hp, hd⟩ => ⟨hc, hq, ht, hp, hd⟩⟩

/-- A transaction awaits a write-back of a line. -/
theorem awaits_iff (s : State) (l : Line) (i : EntryIx) (x : Txn) : s.Awaits l i x ↔
    (s.lockOf l).any (fun r => r.holder == .txn i) = true ∧ s.txn i = some x ∧
    (x.phase = .probeQueued ∨ x.phase = .probing ∨ x.phase = .wbWait) ∧ x.wbData = false := by
  rw [Option.any_eq_true]
  exact ⟨fun h => ⟨by simpa using h.lock, h.txn, h.phase, h.data⟩,
    fun h => ⟨by simpa using h.1, h.2.1, h.2.2.1, h.2.2.2⟩⟩

/-- A lookup needs no probe. -/
theorem needsNoProbe_iff (s : State) (k : TxnKind) (l : Line) : s.NeedsNoProbe k l ↔
    (s.rm.resolve l).coherent = false ∨ s.msc.mode ≠ .coherent ∨ s.isHeld l = false ∨
      (k = .rRead ∧ (s.findEntry l).any (fun e => e.policy == .wt) = true) := by
  simp [State.NeedsNoProbe, Option.any_eq_true]

/-- A lookup needs a probe. -/
theorem needsProbe_iff (s : State) (k : TxnKind) (l : Line) (m : ProbeMode) : s.NeedsProbe k l m ↔
    s.msc.mode = .coherent ∧ (s.rm.resolve l).coherent = true ∧
    (s.findEntry l).any (fun e => decide (e.state = .held ∧
      ((k ≠ .rRead ∧ m = .invalidate) ∨ (k = .rRead ∧ e.policy = .wb ∧ m = .keep)))) = true := by
  simp [State.NeedsProbe, Option.any_eq_true]

/-- No cycle on the bus is write-back data of an entry. -/
theorem notAttached_iff (s : State) (i : EntryIx) :
    s.NotAttached i ↔ s.hp.cycle.all (fun c => c.standing != .attached i) = true := all_iff fun c => by simp

/-- An entry's transaction is the one locked transaction in MEM_BUSY on its line. -/
theorem lockedAtMemory_iff (s : State) (i : EntryIx) (x : Txn) : s.LockedAtMemory i x ↔
    s.txn i = some x ∧ x.work.isLocked = true ∧ x.phase = .memBusy ∧ ∀ j : EntryIx, j ≠ i →
      (s.txn j).all (fun y => !y.work.isLocked || y.phase != .memBusy || y.line != x.line) = true := by
  have sole : ∀ j : EntryIx, (∀ y, s.txn j = some y → y.work.isLocked = true → y.phase = .memBusy → y.line ≠ x.line) ↔
      (s.txn j).all (fun y => !y.work.isLocked || y.phase != .memBusy || y.line != x.line) = true :=
    fun j => all_iff fun y => by cases y.work.isLocked <;> by_cases h : y.phase = .memBusy <;> simp [h]
  exact ⟨fun h => ⟨h.txn, h.locked, h.phase, fun j hj => (sole j).mp fun y => h.sole j y hj⟩,
    fun h => ⟨h.1, h.2.1, h.2.2.1, fun j y hj => (sole j).mpr (h.2.2.2 j hj) y⟩⟩

/-- What holds of each set of the directory, asked of the sets in their order, each with its number. -/
theorem forall_sets {s : State} {P : List DirEntry → Nat → Prop} :
    (∀ j : SetIx, P s.pd.sets[j.val] j.val) ↔ ∀ q ∈ s.pd.sets.toList.zipIdx, P q.1 q.2 := by
  refine ⟨fun h q hq => ?_, fun h j => h (_, j.val) ?_⟩
  · obtain ⟨es, n⟩ := q
    rw [List.mk_mem_zipIdx_iff_getElem?] at hq
    obtain ⟨hn, he⟩ := List.getElem?_eq_some_iff.mp hq
    have hn' : n < 256 := by simpa using hn
    have := h ⟨n, hn'⟩
    simpa [← he] using this
  · rw [List.mk_mem_zipIdx_iff_getElem?]
    simp

/-- The directory keeps its form. -/
theorem directoryKept_iff (s : State) : s.DirectoryKept ↔ ∀ q ∈ s.pd.sets.toList.zipIdx, q.1.length ≤ 4 ∧
    (q.1.map DirEntry.way).Nodup ∧ (q.1.map DirEntry.line).Nodup ∧ ∀ e ∈ q.1, (setOf e.line).val = q.2 := by
  rw [← forall_sets (P := fun es n => es.length ≤ 4 ∧ (es.map DirEntry.way).Nodup ∧ (es.map DirEntry.line).Nodup ∧
    ∀ e ∈ es, (setOf e.line).val = n)]
  exact ⟨fun h k => ⟨(h k).1, (h k).2.1, (h k).2.2.1, fun e he => congrArg Fin.val ((h k).2.2.2 e he)⟩,
    fun h k => ⟨(h k).1, (h k).2.1, (h k).2.2.1, fun e he => Fin.ext ((h k).2.2.2 e he)⟩⟩

/-- The properties that statements ask of the state a command meets, each as the conjunction that evaluation decides. -/
theorem hypotheses_iff :
    (∀ s : State, s.Running ↔ s.pins.resetAsserted = false) ∧
    (∀ s : State, s.BusFree ↔ s.pins.resetAsserted = false ∧ s.pins.hrstAsserted = false ∧ s.hp.cycle = none) ∧
    (∀ s : State, s.Quiet ↔
      ((s.txn recallEntry).isSome = true ∨ (s.msc.sweep.phase = .stopped ∧ s.tt.recallWait = [])) ∧
      (s.pu.channel ≠ .idle ∨ s.msc.mode = .faulted ∨ s.pu.queue = []) ∧ (∀ p, (s.port p).state ≠ .draining) ∧
      (s.msc.sweep.phase = .stopped ∨ (s.msc.sweep.phase ≠ .waiting ∧ s.msc.sweep.passedOver = 0))) ∧
    (∀ (s : State) (i : EntryIx), s.LowestFree i ↔
      i ≠ recallEntry ∧ s.txn i = none ∧ ∀ j : EntryIx, j.val < i.val → (s.txn j).isSome = true) ∧
    (∀ (s : State) (c : Cycle), s.Claims c ↔ s.hp.cycle = some c ∧ c.standing = .claiming) ∧
    (∀ (s : State) (c : Cycle) (i : EntryIx) (x : Txn), s.Carries c i x ↔
      s.hp.cycle = some c ∧ c.standing = .served i ∧ s.txn i = some x) ∧
    (∀ (s : State) (c : Cycle) (i : EntryIx) (x : Txn), s.Feeds c i x ↔
      s.hp.cycle = some c ∧ c.standing = .attached i ∧ s.txn i = some x) ∧
    (∀ (s : State) (i : EntryIx) (l : Line), s.HoldsAlone i l ↔
      s.lockOf l = some { line := l, holder := .txn i, waiters := [] }) ∧
    (∀ (s : State) (r : ByteRow), s.AtByte r ↔
      s.pins.resetAsserted = false ∧ s.mg.bus = .writing ∧ s.mg.byteRow = r) ∧
    (∀ (s : State) (c : Cmd), s.AtCommand c ↔ s.AtByte (.command c) ∧ s.mg.status.state ≠ .busy) ∧
    (∀ s : State, s.DirectoryKept ↔ ∀ q ∈ s.pd.sets.toList.zipIdx, q.1.length ≤ 4 ∧
      (q.1.map DirEntry.way).Nodup ∧ (q.1.map DirEntry.line).Nodup ∧ ∀ e ∈ q.1, (setOf e.line).val = q.2) ∧
    (∀ (s : State) (e : DirEntry), s.Recallable e ↔
      e.state = .held ∧ s.isLocked e.line = false ∧ s.isQuarantined e.line = false) := by
  and_intros <;> intros
  all_goals first
    | exact directoryKept_iff _
    | exact Iff.rfl
    | exact ⟨fun h => ⟨h.1, h.2⟩, fun h => ⟨h.1, h.2⟩⟩
    | exact ⟨fun h => ⟨h.1, h.2, h.3⟩, fun h => ⟨h.1, h.2.1, h.2.2⟩⟩
    | exact ⟨fun h => ⟨h.entry11, h.channel, h.ports, h.sweep⟩, fun h => ⟨h.1, h.2.1, h.2.2.1, h.2.2.2⟩⟩

/-- The sweep moves over a stretch of its order when each entry in it is of a quarantined line. -/
theorem movesOver_of {s : State} {P : Nat → Bool}
    (h : ∀ q ∈ s.pd.sets.toList.zipIdx, ∀ e ∈ q.1, P (4 * q.2 + e.way.val) = true → s.isQuarantined e.line = true) :
    ∀ k : Fin 1024, P k.val = true → s.MovesOver k := by
  intro k hk e he
  have hw := List.find?_some he
  refine (forall_sets (P := fun es n => ∀ e ∈ es, P (4 * n + e.way.val) = true → s.isQuarantined e.line = true)).mpr h
    ⟨k.val / 4, by omega⟩ e (List.mem_of_find?_eq_some he) ?_
  have hk4 : 4 * (k.val / 4) + e.way.val = k.val := by
    have : e.way.val = k.val % 4 := by simpa using hw
    omega
  simpa only [hk4] using hk

/-- A statement about the members of a list of two, from the two. -/
theorem two_of {P : Line → Prop} {a b : Line} {ls : List Line} (h : ls = [a, b]) (ha : P a) (hb : P b) : ∀ l ∈ ls, P l := by
  subst h
  intro l hl
  rcases List.mem_cons.mp hl with rfl | hl
  · exact ha
  · obtain rfl := List.mem_singleton.mp hl
    exact hb

/-- A FILL re-reserves its entry. -/
theorem fill_reserved {s : State} {l : Line} {es : List DirEntry} {n : BitVec 32} (p : EntryPolicy) (e : DirEntry)
    (h : (s.msc.sweep.phase = .stopped ∧ s.msc.mode = .coherent ∧ s.isQuarantined l = false ∧
      (s.rm.resolve l).policy.entryPolicy = some p) ∧ s.findEntry l = some e ∧ n = 0#32 ∧
      es = { e with state := .reserved, policy := p } :: (s.dirSet l).filter fun e' => e'.line != l) :
    s.FillDecides l es n := .inl ⟨p, h.1.1, h.1.2.1, h.1.2.2.1, h.1.2.2.2, .inl ⟨e, h.2⟩⟩

/-- A FILL makes its entry in the lowest free way. -/
theorem fill_made {s : State} {l : Line} {es : List DirEntry} {n : BitVec 32} (p : EntryPolicy) (w : Way)
    (h : (s.msc.sweep.phase = .stopped ∧ s.msc.mode = .coherent ∧ s.isQuarantined l = false ∧
      (s.rm.resolve l).policy.entryPolicy = some p) ∧ s.findEntry l = none ∧ n = 0#32 ∧
      (∀ e ∈ s.dirSet l, e.way ≠ w) ∧ (∀ v : Way, v < w → ∃ e ∈ s.dirSet l, e.way = v) ∧
      es = { way := w, line := l, state := .reserved, policy := p } :: s.dirSet l) :
    s.FillDecides l es n := .inl ⟨p, h.1.1, h.1.2.1, h.1.2.2.1, h.1.2.2.2, .inr (.inl ⟨w, h.2⟩)⟩

/-- A FILL is declined in a full set. -/
theorem fill_declined {s : State} {l : Line} {es : List DirEntry} {n : BitVec 32} (p : EntryPolicy)
    (h : (s.msc.sweep.phase = .stopped ∧ s.msc.mode = .coherent ∧ s.isQuarantined l = false ∧
      (s.rm.resolve l).policy.entryPolicy = some p) ∧ s.findEntry l = none ∧
      (∀ w : Way, ∃ e ∈ s.dirSet l, e.way = w) ∧
      (s.pd.admitPolicy = .decline ∨ ∀ e ∈ s.dirSet l,
        ¬ (e.state = .held ∧ s.isLocked e.line = false ∧ s.isQuarantined e.line = false)) ∧
      n = 1#32 ∧ es = s.dirSet l) :
    s.FillDecides l es n := .inl ⟨p, h.1.1, h.1.2.1, h.1.2.2.1, h.1.2.2.2, .inr (.inr h.2)⟩

/-- A FILL is declined outside COHERENT mode, under a sweep, on a quarantined line and by its policy. -/
theorem fill_other {s : State} {l : Line} {es : List DirEntry} {n : BitVec 32}
    (h : (s.msc.mode ≠ .coherent ∨ s.msc.sweep.phase ≠ .stopped ∨ s.isQuarantined l = true ∨
        (s.rm.resolve l).policy = .uncached) ∧ n = 1#32 ∧ es = s.dirSet l) : s.FillDecides l es n := .inr h

/-- A dropped lock record: the line is then unlocked, the other lines as before. -/
theorem lockBecomes_none {s u : State} {l : Line} (h : u.tt.locks = s.tt.locks.filter fun r => r.line != l) :
    s.LockBecomes u l none := by
  have hu : ∀ m, u.lockOf m = (s.dropLock l).lockOf m := fun m => by simp [State.lockOf, h]
  exact ⟨(hu l).trans (s.lockOf_dropLock_self l), fun m hm => (hu m).trans (s.lockOf_dropLock_ne hm)⟩

/-- An eviction's fourth beat is taken. -/
theorem evictionCompletes_fourth {s : State} {c : Cycle} {i : EntryIx} {l : Line} {w : Work} {d : BeatData} {raw : LineData}
    (c' : Cycle) (x : Txn) (start b : Beat) (h : (s.hp.cycle = some c' ∧ c'.standing = .served i ∧ s.txn i = some x) ∧
      x.work = .hEvict start ∧ x.phase = .dataIn ∧ x.line = l ∧ b ∉ c'.taken ∧ c'.taken.length = 3 ∧
      (∀ k : Fin 32, raw[k.val] = if k.val / 8 = b.val then d[k.val % 8] else x.buf[k.val]) ∧
      c = { c' with taken := c'.taken ++ [b] } ∧ w = x.work) : s.EvictionCompletes (.hostWriteBeat b d) c i l w raw :=
  .inl ⟨c', x, start, b, d, rfl, ⟨h.1.1, h.1.2.1, h.1.2.2⟩, h.2⟩

/-- A cycle that was handed back with all four beats is admitted. -/
theorem evictionCompletes_admitted {s : State} {c : Cycle} {i : EntryIx} {l : Line} {w : Work} {raw : LineData} (c' : Cycle)
    (h : (s.hp.cycle = some c' ∧ c'.standing = .claiming) ∧
      (i ≠ recallEntry ∧ s.txn i = none ∧ ∀ j : EntryIx, j.val < i.val → (s.txn j).isSome = true) ∧
      (c'.kind = .evict ∨ c'.kind = .probeWb) ∧ c'.line = l ∧ c'.taken.length = 4 ∧
      (∀ b : Beat, b ∈ c'.held.map Prod.fst) ∧ (∀ p ∈ c'.held, beatAt raw p.1 = p.2) ∧
      c = { c' with standing := .served i, held := [] } ∧ w = .hEvict c'.beat) :
    s.EvictionCompletes .admissionGrant c i l w raw :=
  have ⟨hc, hl, hk, hn, ht, hb, hp, he⟩ := h
  .inr ⟨c', rfl, ⟨hc.1, hc.2⟩, ⟨hl.1, hl.2.1, hl.2.2⟩, hk, hn, ht, hb, ⟨hp, fun _ _ => rfl⟩, he⟩

/-- A set that is put in place. -/
theorem setBecomes_of {s u : State} {l : Line} {es : List DirEntry} (h : u.pd = (s.putSet l es).pd) :
    s.SetBecomes u (setOf l) es := by
  refine ⟨h ▸ rfl, ?_, fun k hk => ?_⟩
  · rw [h]
    exact s.dirSet_putSet_self l es
  · rw [h]
    exact s.sets_putSet_ne l es k hk

/-! ### Single steps against the manual -/

/-- Section 2.9 of chapter 2: 0001_2340H is line 2,330 and its set is 26. -/
theorem test_line_and_set_of_an_address : lineOf 0x00012340#32 = lineA ∧ setOf lineA = 26 := by decide +kernel

/-- R143: an addend of FFFF_FFFFH takes 1 from the word, and a word of 0 becomes FFFF_FFFFH. -/
theorem test_fetchAdd_wraps :
    bytes4 (number4 (Vector.replicate 4 0#8) + number4 (Vector.replicate 4 255#8)) = Vector.replicate 4 255#8 := by
  decide +kernel

/-- R123: READ, length 9 at 0009_0018H is MALFORMED, COMPARE_SWAP64 at 0009_001CH is MALFORMED, FETCH_ADD32 at 0009_0018H is
accepted. -/
theorem test_shapes_of_requests :
    acceptedOf ⟨1, 0x00090018#32, .read 9⟩ = none ∧
    acceptedOf ⟨1, 0x0009001C#32, .atomic (some (.compareSwap64 (Vector.replicate 8 0#8) (Vector.replicate 8 0#8)))⟩ = none ∧
    (acceptedOf ⟨1, 0x00090018#32, .atomic (some (.fetchAdd32 (Vector.replicate 4 1#8)))⟩).isSome = true ∧
    (acceptedOf ⟨1, 0x00090018#32, .read 8⟩).isSome = true := by decide +kernel

/-- R192: the address is 58H with both straps low. -/
theorem test_target_address : State.reset.targetAddress = 0x58#7 := by decide +kernel

/-- R79: a region of 4 KiB at 0001_2000H covers lines 2304 to 2431. -/
theorem test_region_covers_its_lines :
    let r : Region := { valid := true, base := 0x00012000#32, exponent := 12#6, attr := Attr.afterReset true }
    r.covers 2304#27 = true ∧ r.covers 2431#27 = true ∧ r.covers 2303#27 = false ∧ r.covers 2432#27 = false := by
  decide +kernel

/-! ### States that meet the hypotheses of the obligations -/

theorem test_hyp_StepRunsTheFrontCommand :
    ({ base with pending := [.hrstAssert, .hrstRelease] } : State).pending = .hrstAssert :: [.hrstRelease] := rfl

/-- A tick with a timer of each kind at its last count. -/
theorem test_hyp_TickCountsTimersAndTakesExpiries :
    let s := (base.putTxn 3 (some { Txn.fresh (.rRead 0 1 0 8) lineA .wbWait with wbTimer := some (.running 1) })).setChannel
      (.quiet 1)
    s.pending = [] ∧ (s.txn 3).any (fun x => x.wbTimer == some (.running 1)) = true ∧ s.pu.channel = .quiet 1 := by
  decide +kernel

theorem test_hyp_ResetPinDropsWorkAndGivesStartValues :
    ({ base with pins := { base.pins with resetAsserted := true } } : State).pins.resetAsserted = true := rfl

/-- A bridge at work; a host transaction in MEM_BUSY, which nothing else names, and one in WAY_WAIT. -/
theorem test_hyp_HrstAssertDropsTheHostSide :
    (base.Running ∧ base.pins.hrstAsserted = false ∧ base.msc.sweep.phase = .stopped) ∧
    (let x := Txn.fresh (.hRead 0 1#8) lineA .memBusy
     let y := Txn.fresh (.hFill 0) lineB .wayWait
     let s := outstanding 0 .lineRead (locked 0 lineA [] ((base.putTxn 0 (some x)).putTxn 1 (some y)))
     s.Running ∧ (0 : EntryIx) ≠ recallEntry ∧ s.txn 0 = some x ∧ x.work.isHost = true ∧ x.phase = .memBusy ∧
       (∀ r ∈ s.tt.locks, (0 : EntryIx) ∉ r.waiters) ∧ (0 : EntryIx) ∉ s.pu.queue ∧
       (∀ l m n, s.pu.channel ≠ .outstanding 0 l m n) ∧ s.txn 1 = some y ∧ y.work.isHost = true ∧ y.phase ≠ .memBusy) := by
  simp only [hypotheses_iff, not_probed_iff]
  and_intros <;> decide +kernel

/-- Behind a host READ waits a requester transaction, behind a requester's lock a host WRITE, behind a RECALL's a FILL. -/
theorem test_hyp_HrstEmptiesTheDirectoryAndHoldsOffCycles :
    let s := fun (i j : EntryIx) (w v : Work) (p : Phase) =>
      locked i lineA [j] (withTxn j v lineA .lockWait (withTxn i w lineA p base))
    ∀ t ∈ [s 3 4 (.hRead 0 1#8) (.rRead 0 1 0 8) .memWait, s 3 4 (.rRead 0 1 0 8) (.hWrite 2 0x0F#8) .probing,
        s recallEntry 10 (.recall .sweep) (.hFill 2) .probing],
      t.Running ∧ t.pins.hrstAsserted = false ∧ (t.tt.locks.map LockRec.line).Nodup ∧
        ∀ r ∈ t.tt.locks, ∀ i ∈ r.waiters, ∀ x, t.txn i = some x → x.work.isHost = true →
          x.phase = .lockWait ∧ x.line = r.line := by
  simp only [hypotheses_iff, ← Option.mem_def]
  decide +kernel

/-- A line of the set, a FILL first in its wait list: under an LREAD in MEM_BUSY with a request behind the FILL; with the
request and no LREAD; and with the FILL alone. -/
theorem test_hyp_HrstEmptiesTheDirectoryAndHoldsOffCycles_lockSet :
    let fill := withTxn 5 (.hFill 2) lineA .lockWait (lockedBySet lineA base)
    let s := withTxn 4 (.rWrite 1 2 1#32 data) lineA .lockWait fill
    let u := fun (ws : List EntryIx) (z : State) => z.putLock { line := lineA, holder := .hostSet, waiters := ws }
    let x := Txn.fresh (.hLread 0 1#8) lineA .memBusy
    let busy := s.putTxn 3 (some x)
    (∀ t ∈ [u [5, 4] busy, u [5, 4] s, u [5] fill], t.Running ∧ t.pins.hrstAsserted = false ∧
      (t.tt.locks.map LockRec.line).Nodup ∧ lineA ∈ t.hp.lockSet ∧
      ∀ r ∈ t.tt.locks, ∀ i ∈ r.waiters, ∀ y, t.txn i = some y → y.work.isHost = true →
        y.phase = .lockWait ∧ y.line = r.line) ∧
    ((u [5, 4] busy).lockOf lineA = some { line := lineA, holder := .hostSet, waiters := [5, 4] } ∧
      (u [5, 4] busy).LockedAtMemory 3 x ∧ x.line = lineA) ∧
    (∀ t ∈ [s, fill], ∀ i y, t.txn i = some y → y.work.isLocked = false) ∧
    (s.withoutHost [5, 4] = 4 :: [] ∧ s.checksResult .rWrite 1 lineA = .ok ∧ fill.withoutHost [5] = []) := by
  simp only [hypotheses_iff, lockedAtMemory_iff, ← Option.mem_def]
  and_intros <;> decide +kernel

theorem test_hyp_HrstEmptiesTheDirectoryAndHoldsOffCycles_level :
    (base.setHrst true).pins.hrstAsserted = true ∧ (base.setHrst true).Running ∧
      Instr.hostFill 0x00012340#32 ∈ [.hostRead 0x00012340#32 1#8, .hostWrite 0x00012340#32 1#8, .hostFill 0x00012340#32] := by
  simp only [hypotheses_iff]
  and_intros <;> decide +kernel

/-- Alone in the table: a requester transaction in PROBING with its probe out; in PROBING with the four beats in, its probe out
and answered; in PROBING with two beats; in WB_WAIT; and under a sweep of SET_MODE a RECALL in PROBING with its data and one in
WB_WAIT. -/
theorem test_hyp_HrstSettlesAProbingTransaction :
    let meets := fun (s : State) (i : EntryIx) (x : Txn) => s.Running ∧ s.pins.hrstAsserted = false ∧ s.hp.lockSet = [] ∧
      s.tt.recallWait = [] ∧ s.pu.queue = [] ∧ (∀ p, (s.port p).state ≠ .draining) ∧ s.txn i = some x ∧
      x.work.isHost = false ∧ (∀ j, j ≠ i → s.txn j = none) ∧ ∀ c, s.hp.cycle = some c → c.standing = .attached i
    let x := Txn.fresh (.rWrite 1 2 1#32 data) lineA .probing
    let full := { x with wbData := true, mask := BitVec.allOnes 32 }
    let waits := { x with phase := Phase.wbWait }
    let alone := fun (i : EntryIx) (y : Txn) => locked i lineA [] (base.putTxn i (some y))
    let fed := fun (i : EntryIx) (y : Txn) (bs : List Beat) => withCycle .evict (.attached i) 2 bs (alone i y)
    let swept := fun (s : State) => ({ s with msc := { s.msc with sweep := { s.msc.sweep with
      phase := .recalling, origin := .setMode } } } : State)
    let victim := { x with work := .recall .sweep }
    (let s := probing 3 .keep (alone 3 x)
     meets s 3 x ∧ s.pu.channel = .outstanding 3 lineA .keep 5 ∧ s.hp.cycle = none ∧ x.work.port?.isSome = true) ∧
    (let s := fed 10 full [2, 3, 0, 1]
     meets s 10 full ∧ (∀ j l m n, s.pu.channel ≠ .outstanding j l m n) ∧ meets (probing 10 .keep s) 10 full) ∧
    (let s := probing 0 .keep (fed 0 x [2, 3])
     meets s 0 x ∧ s.hp.cycle.isSome = true) ∧
    (meets (alone 0 waits) 0 waits ∧ ∀ j l m n, (alone 0 waits).pu.channel ≠ .outstanding j l m n) ∧
    (let y := { victim with wbData := true, mask := BitVec.allOnes 32 }
     let s := swept (fed recallEntry y [2, 3, 0, 1])
     meets s recallEntry y ∧ s.msc.sweep.phase ≠ .stopped ∧ s.msc.sweep.origin = .setMode) ∧
    (let y := { victim with phase := Phase.wbWait }
     let s := swept (alone recallEntry y)
     meets s recallEntry y ∧ y.wbData = false ∧ s.HoldsAlone recallEntry y.line) := by
  simp only [hypotheses_iff, not_probed_iff, ← Option.mem_def]
  and_intros <;> decide +kernel

/-- Entries 9 and 10 in WB_WAIT, and nothing else in the table. -/
theorem test_hyp_HrstSettlesAProbingTransaction_two :
    let x := Txn.fresh (.rWrite 1 2 1#32 data) lineA .wbWait
    let y := Txn.fresh (.rRead 1 3 0 8) lineB .wbWait
    let s := (base.putTxn 9 (some x)).putTxn 10 (some y)
    s.Running ∧ s.pins.hrstAsserted = false ∧ s.hp.cycle = none ∧ (∀ p, (s.port p).state ≠ .draining) ∧
      s.hp.lockSet = [] ∧ s.msc.sweep.phase = .stopped ∧ s.txn 9 = some x ∧ s.txn 10 = some y ∧
      (∀ k, k ≠ 9 → k ≠ 10 → s.txn k = none) ∧ x.work.port?.isSome = true ∧
      y.work.port?.isSome = true ∧ (10 : EntryIx) ≠ recallEntry := by
  simp only [hypotheses_iff]
  and_intros <;> decide +kernel

/-- Two transactions in the probe queue, the channel QUIET, or the probe of a third outstanding. -/
theorem test_hyp_HrstSettlesAProbingTransaction_queue :
    let y := fun t : Tag => Txn.fresh (.rWrite 1 t 1#32 data) lineB .probeQueued
    let x := Txn.fresh (.rRead 1 2 0 8) lineA .probing
    let s := ((base.putTxn 4 (some (y 3))).putTxn 10 (some (y 4))).setQueue [4, 10]
    (∀ t ∈ [s.setChannel (.quiet 3), probing 3 .keep (s.putTxn 3 (some x))], t.Running ∧ t.pins.hrstAsserted = false ∧
      t.hp.cycle = none ∧ t.hp.lockSet = [] ∧ t.msc.sweep.phase = .stopped ∧ t.tt.recallWait = [] ∧
      (∀ p, (t.port p).state ≠ .draining) ∧ t.msc.mode ≠ .faulted ∧ t.pu.queue = [4, 10] ∧ t.txn 4 = some (y 3) ∧
      t.txn 10 = some (y 4) ∧ ∀ j z, t.txn j = some z → j ∉ ([4, 10] : List EntryIx) →
        z.work.isHost = false ∧ z.phase ≠ .wbWait ∧ (z.phase = .probing → j = 3)) ∧
    ((s.setChannel (.quiet 3)).pu.channel = .quiet 3 ∧ s.txn 3 = none) ∧
    (∀ t, (y t).work.port?.isSome = true ∧ (y t).phase = .probeQueued) ∧
    (probing 3 .keep (s.putTxn 3 (some x))).txn 3 = some x ∧
      (probing 3 .keep s).pu.channel = .outstanding 3 lineA .keep 5 := by
  simp only [hypotheses_iff, ← Option.mem_def]
  and_intros <;> decide +kernel

/-- The bus is free with the mark set, with one line in the set, and with two. -/
theorem test_hyp_HostCyclesClaimAnEntryOrOverrun :
    base.BusFree ∧
    (let s : State := { base with hp := { base.hp with broken := true } }
     s.BusFree ∧ s.hp.broken = true) ∧
    (let s := lockedBySet lineB base
     s.BusFree ∧ s.hp.broken = false ∧ s.hp.lockSet.length < 2) ∧
    (let s := lockedBySet lineA (lockedBySet lineB base)
     s.BusFree ∧ s.hp.broken = false ∧ lineOf 0x00012350#32 ∈ s.hp.lockSet) ∧
    (let s := lockedBySet 7#27 (lockedBySet lineB base)
     s.BusFree ∧ s.hp.broken = false ∧ lineOf 0x00012350#32 ∉ s.hp.lockSet ∧ 2 ≤ s.hp.lockSet.length) := by
  simp only [hypotheses_iff]
  and_intros <;> decide +kernel

/-- A holder in PROBING and one in PROBE_QUEUED, and a bridge with no line locked. -/
theorem test_hyp_WritebackCyclesClaimOrAttach :
    (base.BusFree ∧ ∀ i x, ¬ base.Awaits (lineOf 0x00012350#32) i x) ∧
    (let x := Txn.fresh (.rRead 0 1 0 8) lineA .probing
     let s := probing 3 .keep (locked 3 lineA [] (base.putTxn 3 (some x)))
     s.BusFree ∧ s.Awaits (lineOf 0x00012350#32) 3 x ∧ s.Quiet) ∧
    (let x := Txn.fresh (.rRead 0 1 0 8) lineA .probeQueued
     let s := (locked 3 lineA [] (base.putTxn 3 (some x))).setQueue [3] |>.setChannel (.quiet 4)
     s.BusFree ∧ s.Awaits (lineOf 0x00012350#32) 3 x ∧ s.Quiet) := by
  simp only [↓not_awaits_iff, hypotheses_iff, awaits_iff]
  and_intros <;> decide +kernel

/-- The lock of a line held WB comes to a write, probed with INVALIDATE, and to a read, probed with KEEP: while an EVICT
claims an entry that holds two beats, none, and four; and while the EVICT in LOCK_WAIT that stands in the wait list has its
four. -/
theorem test_hyp_WritebackCyclesClaimOrAttach_waits :
    let x := { Txn.fresh (.hRead 2 0x0F#8) lineA .memBusy with abandoned := true }
    let wr := Txn.fresh (.rWrite 1 2 1#32 data) lineA .lockWait
    let rd := Txn.fresh (.rRead 1 2 0 8) lineA .lockWait
    let z := { Txn.fresh (.hEvict 2) lineA .lockWait with buf := data, mask := BitVec.allOnes 32 }
    let s := fun (y : Txn) (c : Cycle) => (outstanding 3 .lineRead (locked 3 lineA [10, 0]
      (((withSet [entry 1 lineA .held .wb] base).putTxn 3 (some x)).putTxn 10 (some y)))).setCycle (some c)
    let served := cycle .evict (.served 0) 3 [2, 3, 0, 1]
    (∀ p ∈ [(s wr { cycle .evict .claiming 2 [2, 3] with held := fourBeats.take 2 }, wr, ProbeMode.invalidate),
        (s rd (cycle .probeWb .claiming 0 []), rd, .keep),
        (s wr { cycle .evict .claiming 3 [2, 3, 0, 1] with held := fourBeats }, wr, .invalidate),
        ((s rd served).putTxn 0 (some z), rd, .keep)],
      p.1.Running ∧ p.1.Quiet ∧ p.1.mp.outstanding = { txn := 3, kind := .lineRead, line := lineA, mask := 0#32 } :: [] ∧
        p.1.txn 3 = some x ∧ p.1.lockOf x.line = some { line := x.line, holder := .txn 3, waiters := 10 :: [0] } ∧
        p.1.txn 10 = some p.2.1 ∧ p.2.1.work.port? = some 1 ∧ p.2.1.wbData = false ∧ p.2.1.wbTimer = none ∧
        p.1.pu.queue = [] ∧ p.1.checksResult p.2.1.work.kind 1 x.line = .ok ∧
        p.1.NeedsProbe p.2.1.work.kind x.line p.2.2) ∧
    ((∀ p ∈ fourBeats.take 2, beatAt (Vector.ofFn fun k : Fin 32 => if 2 ≤ k.val / 8 then 1#8 else wr.buf[k.val]) p.1 = p.2) ∧
      (∀ p ∈ fourBeats, beatAt (Vector.replicate 32 1#8) p.1 = p.2)) ∧
    ((s rd served).putTxn 0 (some z)).txn 0 = some z ∧ z.phase = .lockWait ∧ z.work.kind = .hEvict ∧
      served.taken.length = 4 ∧ served.taken.Nodup ∧ (0 : EntryIx) ≠ recallEntry := by
  simp only [hypotheses_iff, needsProbe_iff]
  and_intros <;> decide +kernel

theorem test_hyp_SpecialCyclesAndFlushAck : base.BusFree ∧ base.Quiet := by
  simp only [hypotheses_iff]
  and_intros <;> decide +kernel

/-- A WRITE and an LWRITE in DATA_IN, of beat 2, that await neither beat 1 nor a WRITEBACK_BEAT; a READ, which awaits none; an
attached write-back that has had its four beats; an eviction that awaits beat 1; and an H_WRITE that awaits beat 2. -/
theorem test_hyp_WriteBeatIsTakenUnderItsMask_others :
    let w := Txn.fresh (.hWrite 2 0x0F#8) lineA .dataIn
    let l := Txn.fresh (.hLwrite 2 0x0F#8 true) lineA .dataIn
    let r := Txn.fresh (.hRead 2 1#8) lineA .memBusy
    let e := Txn.fresh (.hEvict 2) lineA .dataIn
    let s := fun (k : CycleKind) (x : Txn) => withCycle k (.served 10) 0 [] (base.putTxn 10 (some x))
    let c := fun k => cycle k (.served 10) 0 []
    let full := cycle .evict (.attached 3) 3 [0, 1, 2, 3]
    ((s .write w).Running ∧ (s .write w).hp.cycle = some (c .write) ∧ (s .lwrite l).hp.cycle = some (c .lwrite)) ∧
    ((s .write w).AwaitsNot (c .write) 1 ∧ (s .lwrite l).AwaitsNot (c .lwrite) 1 ∧ (s .read r).AwaitsNot (c .read) 2 ∧
      (base.setCycle (some full)).AwaitsNot full 0) ∧
    (¬ (s .evict e).AwaitsNot (c .evict) 1 ∧ ¬ (s .write w).AwaitsNot (c .write) 2) ∧
    ((s .write w).Carries (c .write) 10 w ∧ w.work.kind ≠ .hEvict ∧ (s .lwrite l).Carries (c .lwrite) 10 l ∧
      l.work.kind ≠ .hEvict) := by
  have served : ∀ (k : CycleKind) (x : Txn) (b : Beat),
      (withCycle k (.served 10) 0 [] (base.putTxn 10 (some x))).AwaitsNot (cycle k (.served 10) 0 []) b ↔
        (x.phase ≠ .dataIn ∨ ((∀ m, x.work ≠ .hWrite b m) ∧ (∀ m e, x.work ≠ .hLwrite b m e) ∧ x.work.kind ≠ .hEvict)) := by
    intro k x b
    have ht : (withCycle k (.served 10) 0 [] (base.putTxn 10 (some x))).txn 10 = some x := rfl
    refine ⟨fun h => ?_, fun h => .inr (.inr (.inr ⟨10, rfl, fun y hy => ?_⟩))⟩
    · rcases h with h | h | ⟨i, h, -⟩ | ⟨i, h, hx⟩
      · cases h
      · cases h
      · cases h
      · cases h
        exact hx x ht
    · cases ht.symm.trans hy
      exact h
  simp only [served, hypotheses_iff]
  refine ⟨⟨?_, ?_, ?_⟩, ⟨?_, ?_, ?_, .inr (.inr (.inl ⟨3, rfl, ?_⟩))⟩, ⟨?_, ?_⟩, ?_⟩
  all_goals decide +kernel

/-- No cycle, one that is CLAIMING, one whose beat is taken, and one that awaits none; a WRITE on an unlocked and on a locked
line; an LWRITE whose line is locked, joins a set with room, and is in the set. -/
theorem test_hyp_WriteBeatIsTakenUnderItsMask :
    let x := Txn.fresh (.hWrite 2 0x0F#8) lineA .dataIn
    let y := Txn.fresh (.hLwrite 2 0x0F#8 true) lineA .dataIn
    let s := withCycle .write (.served 10) 0 [] (base.putTxn 10 (some x))
    let t := withCycle .lwrite (.served 10) 0 [] (base.putTxn 10 (some y))
    let r := withCycle .read (.served 10) 0 [] (withTxn 10 (.hRead 2 1#8) lineA .memBusy base)
    (base.Running ∧ base.hp.cycle = none ∧
      (withCycle .evict .claiming 0 [] base).hp.cycle = some (cycle .evict .claiming 0 []) ∧
      (cycle .evict .claiming 0 []).standing = .claiming ∧ (2 : Beat) ∈ (cycle .write (.served 10) 1 [2]).taken ∧
      r.Carries (cycle .read (.served 10) 0 []) 10 (Txn.fresh (.hRead 2 1#8) lineA .memBusy)) ∧
    (s.Running ∧ s.Quiet ∧ s.Carries (cycle .write (.served 10) 0 []) 10 x ∧ (2 : Beat) ∉ ([] : List Beat) ∧
      s.lockOf x.line = none ∧ x.work.isLocked = false ∧ (locked 3 lineA [] s).Quiet ∧
      (locked 3 lineA [] s).Carries (cycle .write (.served 10) 0 []) 10 x ∧
      (locked 3 lineA [] s).lockOf x.line = some { line := lineA, holder := .txn 3, waiters := [] }) ∧
    ((lockedBySet lineB t).Quiet ∧ (lockedBySet lineB t).Carries (cycle .lwrite (.served 10) 0 []) 10 y ∧
      (lockedBySet lineB t).lockOf y.line = none ∧ y.work.isLocked = true ∧ y.line ∉ (lockedBySet lineB t).hp.lockSet ∧
      (lockedBySet lineB t).hp.lockSet.length < 2) ∧
    ((locked 3 lineA [] t).Quiet ∧ (locked 3 lineA [] t).Carries (cycle .lwrite (.served 10) 0 []) 10 y ∧
      y.line ∉ (locked 3 lineA [] t).hp.lockSet) ∧
    (lockedBySet lineA t).Quiet ∧ (lockedBySet lineA t).Carries (cycle .lwrite (.served 10) 0 []) 10 y ∧
      y.line ∈ (lockedBySet lineA t).hp.lockSet := by
  simp only [hypotheses_iff]
  and_intros <;> decide +kernel

/-- An eviction at its third beat; and one whose four are complete, at its fourth beat and handed back with all four: with an
entry, with none, and with its line quarantined. -/
theorem test_hyp_EvictionTakesItsBeatsAndLooksUp :
    let x := Txn.fresh (.hEvict 2) lineA .dataIn
    let early := withCycle .evict (.served 0) 2 [2, 3] (base.putTxn 0 (some x))
    let fourth := withCycle .evict (.served 0) 3 [2, 3, 0] (base.putTxn 0 (some x))
    let ones : BeatData := Vector.replicate 8 1#8
    let back := { cycle .evict .claiming 3 [2, 3, 0, 1] with held := fourBeats }
    let again := crowded (base.setCycle (some back))
    let q : QuarRec := { line := lineA, cause := .answerTimeout, late := false }
    (early.Running ∧ early.Carries (cycle .evict (.served 0) 2 [2, 3]) 0 x ∧ (0 : Beat) ∉ ([2, 3] : List Beat)) ∧
    fourth.EvictionCompletes (.hostWriteBeat 1 ones) (cycle .evict (.served 0) 3 ([2, 3, 0] ++ [1])) 0 lineA (.hEvict 2)
      (Vector.ofFn fun k : Fin 32 => if k.val / 8 = 1 then 1#8 else x.buf[k.val]) ∧
    again.EvictionCompletes .admissionGrant { back with standing := .served 10, held := [] } 10 lineA (.hEvict 2)
      (Vector.replicate 32 1#8) ∧
    ∀ s ∈ [fourth, again], s.Running ∧ s.Quiet ∧ s.lockOf lineA = none ∧ s.isQuarantined lineA = false ∧
      s.hasEntry lineA = false ∧ (withSet [entry 1 lineA .held .wb] s).hasEntry lineA = true ∧
      (s.setQuarantine [q]).isQuarantined lineA = true := by
  simp only [hypotheses_iff]
  refine ⟨?_, evictionCompletes_fourth (cycle .evict (.served 0) 3 [2, 3, 0]) (Txn.fresh (.hEvict 2) lineA .dataIn) 2 1 ?_,
    evictionCompletes_admitted { cycle .evict .claiming 3 [2, 3, 0, 1] with held := fourBeats } ?_, ?_⟩
  all_goals decide +kernel

/-- An eviction whose line is locked by a transaction that awaits no data; by one in PROBING; by one of each kind in WB_WAIT;
and by a write in PROBE_QUEUED, of this command and of the admission of a cycle that was handed back with all four beats. -/
theorem test_hyp_EvictionTakesItsBeatsAndLooksUp_locked :
    let x := Txn.fresh (.hEvict 2) lineA .dataIn
    let r := Txn.fresh (.hRead 0 1#8) lineA .memWait
    let y := Txn.fresh (.rWrite 1 2 1#32 data) lineA .probing
    let awaits := fun (p : Phase) (w : Work) (m : ProbeMode) => { Txn.fresh w lineA p with probeMode := some m }
    let s := fun (j : EntryIx) (w : Txn) => locked j lineA []
      ((withCycle .evict (.served 0) 3 [2, 3, 0] (base.putTxn 0 (some x))).putTxn j (some w))
    let back := { cycle .evict .claiming 3 [2, 3, 0, 1] with held := fourBeats }
    let again := fun (j : EntryIx) (w : Txn) => locked j lineA [] ((base.setCycle (some back)).putTxn j (some w))
    let queues := fun (j : EntryIx) (t : State) => (t.setQueue [j, 5]).setChannel (.quiet 4)
    (∀ u ∈ [s 3 r, again 3 r], u.Running ∧ u.Quiet ∧
      u.lockOf lineA = some { line := lineA, holder := .txn 3, waiters := [] } ∧ ∀ j v, ¬ u.Awaits lineA j v) ∧
    ((probing 3 .invalidate (s 3 y)).Quiet ∧ (probing 3 .invalidate (s 3 y)).Awaits lineA 3 y ∧ y.answer = none ∧
      back.taken.Nodup ∧ (([2, 3, 0] ++ [1] : List Beat)).Nodup) ∧
    (∀ p ∈ [(Phase.wbWait, Work.rRead 1 2 0 8, ProbeMode.keep), (.wbWait, .rWrite 1 2 1#32 data, .invalidate),
        (.wbWait, .rAtomic 1 2 28 (.fetchAdd32 (Vector.replicate 4 1#8)), .invalidate),
        (.probeQueued, .rWrite 1 2 1#32 data, .invalidate)],
      ∀ u ∈ [queues 10 (s 10 (awaits p.1 p.2.1 p.2.2)), queues 10 (again 10 (awaits p.1 p.2.1 p.2.2))],
        u.Running ∧ u.Quiet ∧ u.Awaits lineA 10 (awaits p.1 p.2.1 p.2.2) ∧ p.2.1.port?.isSome = true) ∧
    (∀ p ∈ [Phase.wbWait, .probeQueued],
      let w := awaits p (.recall .displace) .invalidate
      ∀ u ∈ [queues recallEntry (s recallEntry w), queues recallEntry (again recallEntry w)],
        u.Running ∧ u.Quiet ∧ u.Awaits lineA recallEntry w ∧ w.work.isRecall = true ∧ w.link = none) ∧
    (s 3 r).EvictionCompletes (.hostWriteBeat 1 (Vector.replicate 8 1#8)) (cycle .evict (.served 0) 3 ([2, 3, 0] ++ [1])) 0
      lineA (.hEvict 2) (Vector.ofFn fun k : Fin 32 => if k.val / 8 = 1 then 1#8 else x.buf[k.val]) ∧
    (again 3 r).EvictionCompletes .admissionGrant { back with standing := .served 0, held := [] } 0 lineA (.hEvict 2)
      (Vector.replicate 32 1#8) := by
  simp only [↓not_awaits_iff, hypotheses_iff, awaits_iff]
  refine ⟨?_, ?_, ?_, ?_,
    evictionCompletes_fourth (cycle .evict (.served 0) 3 [2, 3, 0]) (Txn.fresh (.hEvict 2) lineA .dataIn) 2 1 ?_,
    evictionCompletes_admitted { cycle .evict .claiming 3 [2, 3, 0, 1] with held := fourBeats } ?_⟩
  all_goals decide +kernel

/-- An attached write-back at its third beat; at its fourth for a read probed with KEEP, in PROBING before its answer, after it
and in WB_WAIT, and a write with INVALIDATE; and an eviction that has an entry of its own. -/
theorem test_hyp_WritebackBeatsCompleteTheHoldersData :
    (let x := { Txn.fresh (.rRead 0 1 0 8) lineA .wbWait with wbTimer := some (.running 4) }
     let s := withCycle .probeWb (.attached 3) 2 [0, 1] (base.putTxn 3 (some x))
     s.Running ∧ s.Quiet ∧ s.Feeds (cycle .probeWb (.attached 3) 2 [0, 1]) 3 x ∧ x.wbData = false ∧
       (2 : Beat) ∉ ([0, 1] : List Beat)) ∧
    (let x := { Txn.fresh (.hEvict 0) lineA .dataIn with buf := data }
     let s := withCycle .probeWb (.served 3) 3 [0, 1, 2] (base.putTxn 3 (some x))
     s.Carries (cycle .probeWb (.served 3) 3 [0, 1, 2]) 3 x ∧ x.work.kind = .hEvict) ∧
    (let x := fun (p : Phase) (a : Option Answer) => { Txn.fresh (.rRead 0 1 0 8) lineA p with
      probeMode := some .keep, answer := a, wbTimer := if p = .wbWait then some .stopped else none }
     let s := fun y => withCycle .probeWb (.attached 3) 3 [0, 1, 2] (base.putTxn 3 (some y))
     ∀ y ∈ [x .probing none, x .probing (some .clean), x .wbWait (some .dirty)], (s y).Running ∧ (s y).Quiet ∧
       (s y).Feeds (cycle .probeWb (.attached 3) 3 [0, 1, 2]) 3 y ∧ (3 : EntryIx) ≠ recallEntry ∧
       (3 : Beat) ∉ ([0, 1, 2] : List Beat) ∧ y.work.kind = .rRead ∧ y.wbData = false ∧
       (y.phase = .wbWait ∨ (y.phase = .probing ∧ y.answer.isSome = true) ∨ (y.phase = .probing ∧ y.answer = none))) ∧
    (let x := { Txn.fresh (.rWrite 1 2 0xFF#32 data) lineA .wbWait with
                probeMode := some .invalidate, wbTimer := some .stopped }
     let s := withSet [entry 0 lineA .held .wb]
       (withCycle .probeWb (.attached 3) 3 [0, 1, 2] (base.putTxn 3 (some x)))
     s.Running ∧ s.Quiet ∧ s.Feeds (cycle .probeWb (.attached 3) 3 [0, 1, 2]) 3 x ∧ x.work.kind = .rWrite) := by
  simp only [hypotheses_iff]
  and_intros <;> decide +kernel

/-- A RECALL's write-back at its fourth beat, with no fill linked, and with one that its freed way admits. -/
theorem test_hyp_WritebackBeatsCompleteTheHoldersData_recall :
    let x := { Txn.fresh (.recall .displace) lineA .wbWait with probeMode := some .invalidate, wbTimer := some .stopped }
    let z := { Txn.fresh (.hFill 0) lineB .wayWait with snapshot := some (Attr.afterReset true) }
    let e := entry 2 lineA .held .wb
    let c := cycle .probeWb (.attached recallEntry) 3 [0, 1, 2]
    let s := fun w => withSet [e] ((base.setCycle (some c)).putTxn recallEntry (some w))
    let t := (s { x with link := some 4 }).putTxn 4 (some z)
    ((s x).Running ∧ (s x).Quiet ∧ (s x).Feeds c recallEntry x ∧ (3 : Beat) ∉ c.taken ∧ c.taken.length = 3 ∧
      x.work.isRecall = true ∧ (s x).findEntry x.line = some e) ∧
    t.Running ∧ t.Quiet ∧ t.Feeds c recallEntry { x with link := some 4 } ∧ (4 : EntryIx) ≠ recallEntry ∧
      t.txn 4 = some z ∧ z.work.kind = .hFill ∧ (Attr.afterReset true).policy.entryPolicy = some .wb ∧
      t.msc.mode = .coherent ∧ t.msc.sweep.phase = .stopped ∧ setOf z.line = setOf x.line ∧ t.findEntry z.line = none ∧
      t.findEntry x.line = some e ∧ ∀ e' ∈ t.dirSet x.line, e'.way = e.way → e'.line = x.line := by
  simp only [hypotheses_iff]
  and_intros <;> decide +kernel

/-- A READ and an LREAD with their beat ready; a WRITE, an eviction and an LWRITE with their acknowledgment to take, the LWRITE
with and without END; a bus with nothing to take. -/
theorem test_hyp_TakenBeatsAndAcknowledgmentsEndCycles :
    (let x := { Txn.fresh (.hRead 2 0x0F#8) lineA .dataOut with result := some .ok, buf := data }
     let s := locked 0 lineA [] (withCycle .read (.served 0) 0 [] (base.putTxn 0 (some x)))
     s.Running ∧ s.Quiet ∧ s.Carries (cycle .read (.served 0) 0 []) 0 x ∧ (0 : EntryIx) ≠ recallEntry ∧
       x.work.isLocked = false ∧ s.HoldsAlone 0 x.line) ∧
    (let x := { Txn.fresh (.hLread 2 0x0F#8) lineA .dataOut with result := some .memError }
     let s := lockedBySet lineA (withCycle .lread (.served 0) 0 [] (base.putTxn 0 (some x)))
     s.Running ∧ s.Quiet ∧ s.Carries (cycle .lread (.served 0) 0 []) 0 x ∧ s.hp.lockSet ≠ [] ∧
       s.lockOf x.line = some { line := x.line, holder := .hostSet, waiters := [] }) ∧
    (let x := { Txn.fresh (.hWrite 2 0x0F#8) lineA .dataOut with result := some .memError }
     let s := locked 10 lineA [] (withCycle .write (.served 10) 1 [2] (base.putTxn 10 (some x)))
     s.Running ∧ s.Quiet ∧ s.Carries (cycle .write (.served 10) 1 [2]) 10 x ∧ s.HoldsAlone 10 x.line) ∧
    (let x := { Txn.fresh (.hEvict 2) lineA .dataOut with result := some .ok }
     let s := locked 10 lineA [] (withCycle .evict (.served 10) 4 [2, 3, 0, 1] (base.putTxn 10 (some x)))
     s.Running ∧ s.Quiet ∧ s.Carries (cycle .evict (.served 10) 4 [2, 3, 0, 1]) 10 x ∧ s.HoldsAlone 10 x.line) ∧
    (let x := { Txn.fresh (.hLwrite 2 0x0F#8 false) lineA .dataOut with result := some .ok }
     let s := lockedBySet lineA (withCycle .lwrite (.served 10) 1 [2] (base.putTxn 10 (some x)))
     s.Running ∧ s.Quiet ∧ s.Carries (cycle .lwrite (.served 10) 1 [2]) 10 x ∧ s.hp.lockSet ≠ [] ∧
       s.lockOf x.line = some { line := x.line, holder := .hostSet, waiters := [] }) ∧
    (let x := { Txn.fresh (.hLwrite 2 0x0F#8 true) lineA .dataOut with result := some .ok }
     let s := withCycle .lwrite (.served 10) 1 [2] (base.putTxn 10 (some x))
     s.Running ∧ s.Quiet ∧ s.Carries (cycle .lwrite (.served 10) 1 [2]) 10 x ∧ s.lockOf x.line = none) ∧
    base.hp.cycle = none := by
  simp only [hypotheses_iff]
  and_intros <;> decide +kernel

/-- A fill at its third beat, and at its fourth: admitted and OK, admitted and failed, declined. -/
theorem test_hyp_FillBeatsCarryTheGrant :
    let x := { Txn.fresh (.hFill 2) lineA .dataOut with result := some .ok, buf := data }
    let y := { Txn.fresh (.hFill 2) lineA .dataOut with result := some .memError }
    let s := withSet [entry 3 lineA .reserved .wb] (locked 0 lineA [] (withCycle .fill (.served 0) 2 [] (base.putTxn 0 (some x))))
    let t := withSet [entry 3 lineA .reserved .wb] (locked 0 lineA [] (withCycle .fill (.served 0) 3 [] (base.putTxn 0 (some x))))
    let u := withSet [entry 3 lineA .reserved .wt] (locked 0 lineA [] (withCycle .fill (.served 0) 3 [] (base.putTxn 0 (some y))))
    let v := locked 0 lineA [] (withCycle .fill (.served 0) 3 [] (base.putTxn 0 (some x)))
    (s.Running ∧ s.Quiet ∧ s.Carries (cycle .fill (.served 0) 2 []) 0 x ∧ s.HoldsAlone 0 x.line) ∧
    (t.Running ∧ t.Quiet ∧ t.Carries (cycle .fill (.served 0) 3 []) 0 x ∧ t.HoldsAlone 0 x.line ∧ t.isReserved x.line = true) ∧
    (u.Running ∧ u.Quiet ∧ u.Carries (cycle .fill (.served 0) 3 []) 0 y ∧ u.HoldsAlone 0 y.line ∧ u.isReserved y.line = true) ∧
    (v.Running ∧ v.Quiet ∧ v.Carries (cycle .fill (.served 0) 3 []) 0 x ∧ v.HoldsAlone 0 x.line ∧
      v.isReserved x.line = false) := by
  simp only [hypotheses_iff]
  and_intros <;> decide +kernel

/-- Nothing that claims an entry, and none free; a claiming READ with entry 0 free and with entry 10 alone free; an EVICT that
holds two beats; an LREAD whose line joins a set with room, and one whose line is in the set; and an LREAD and an LWRITE with
END under the mark. -/
theorem test_hyp_HostCyclesAreAdmittedByKind :
    let c := cycle .read .claiming 0 []
    let e := { cycle .evict .claiming 2 [2, 3] with
      held := [((2 : Beat), Vector.replicate 8 5#8), ((3 : Beat), Vector.replicate 8 6#8)] }
    let l := cycle .lread .claiming 0 []
    let w := { cycle .lwrite .claiming 0 [] with endMark := true }
    let marked := fun s : State => ({ s with hp := { s.hp with broken := true } } : State)
    (let s := withTxn 10 (.rRead 0 3 0 8) lineB .memBusy (crowded (base.setCycle (some c)))
     s.Running ∧ (∀ i, i ≠ recallEntry → (s.txn i).isSome = true) ∧ base.Running ∧ base.hp.cycle = none ∧
       ∀ p, (base.port p).ingress = []) ∧
    (let s := base.setCycle (some c)
     s.Running ∧ s.Quiet ∧ s.Claims c ∧ s.LowestFree 0 ∧ c.kind ≠ .fill ∧ c.taken.length < 4 ∧ s.lockOf c.line = none) ∧
    (let s := crowded (base.setCycle (some c))
     s.Running ∧ s.Quiet ∧ s.Claims c ∧ s.LowestFree 10 ∧ s.lockOf c.line = none) ∧
    (let s := base.setCycle (some e)
     s.Running ∧ s.Quiet ∧ s.Claims e ∧ s.LowestFree 0 ∧ e.taken.length < 4 ∧ (e.held.map Prod.fst).Nodup) ∧
    (let s := lockedBySet lineB (base.setCycle (some l))
     s.Running ∧ s.Quiet ∧ s.Claims l ∧ s.LowestFree 0 ∧ s.hp.broken = false ∧ s.lockOf l.line = none ∧
       l.line ∉ s.hp.lockSet ∧ s.hp.lockSet.length < 2) ∧
    (let s := lockedBySet lineA (base.setCycle (some l))
     s.Running ∧ s.Quiet ∧ s.Claims l ∧ s.LowestFree 0 ∧ l.line ∈ s.hp.lockSet) ∧
    ∀ k ∈ [l, w], let s := marked (base.setCycle (some k))
      s.Running ∧ s.Quiet ∧ s.Claims k ∧ s.LowestFree 0 ∧ s.hp.broken = true ∧ s.lockOf k.line = none := by
  simp only [hypotheses_iff]
  and_intros <;> decide +kernel

/-- On a line that a transaction holds and another waits for: a claiming FILL, a READ, an LREAD, an LREAD under the mark, and a
request. -/
theorem test_hyp_ALockedLineIsWaitedFor :
    let r : LockRec := { line := lineA, holder := .txn 5, waiters := [6] }
    let c := fun k : CycleKind => cycle k .claiming 0 []
    let s := fun k : CycleKind => locked 5 lineA [6] (base.setCycle (some (c k)))
    (let t := crowded (s .fill)
     t.Running ∧ t.Quiet ∧ t.Claims (c .fill) ∧ t.LowestFree 10 ∧ (c .fill).held = [] ∧ t.lockOf lineA = some r) ∧
    (∀ k ∈ [CycleKind.read, .lread], (s k).Running ∧ (s k).Quiet ∧ (s k).Claims (c k) ∧ (s k).LowestFree 0 ∧
      (s k).lockOf (c k).line = some r ∧ (c k).line ∉ (s k).hp.lockSet) ∧
    (let t : State := { s .lread with hp := { (s .lread).hp with broken := true } }
     t.Running ∧ t.Quiet ∧ t.Claims (c .lread) ∧ t.LowestFree 0 ∧ t.lockOf lineA = some r ∧ t.hp.broken = true) ∧
    (let q := request 6 (.read 24 8)
     let t := locked 5 lineA [6] (queued [q] base)
     t.Running ∧ t.Quiet ∧ t.PortClaims 1 q [] ∧ t.LowestFree 0 ∧ t.lockOf q.line = some r) := by
  simp only [hypotheses_iff, portClaims_iff]
  and_intros <;> decide +kernel

/-- A claiming FILL that finds its entry, a free way 3 of a set of three, a full set under DECLINE and one whose entries are
all RESERVED, PASS mode, and a sweep that runs. -/
theorem test_hyp_FillIsReservedOrDeclined :
    let c := cycle .fill .claiming 0 []
    let three := [entry 2 26#27 .reserved .wb, entry 1 282#27 .reserved .wt, entry 0 538#27 .reserved .wb]
    let s := withSet (entry 3 lineA .held .wt :: three) (base.setCycle (some c))
    let t := withSet three (base.setCycle (some c))
    let u := withSet (entry 3 794#27 .reserved .wb :: three) (base.setCycle (some c))
    let v : State := { s with pd := { u.pd with admitPolicy := .decline } }
    let p := State.reset.setCycle (some c)
    let w : State := ({ s with msc := { s.msc with sweep := { s.msc.sweep with phase := .recalling } } } : State).putTxn
      recallEntry (some (Txn.fresh (.recall .sweep) lineB .memBusy))
    (∀ z ∈ [s, t, u, v, p, w], z.Running ∧ z.Quiet ∧ z.Claims c ∧ z.LowestFree 0 ∧ z.lockOf c.line = none) ∧
    c.kind = .fill ∧ s.FillDecides c.line (entry 3 lineA .reserved .wb :: three) 0#32 ∧
    t.FillDecides c.line (entry 3 lineA .reserved .wb :: three) 0#32 ∧
    u.FillDecides c.line (entry 3 794#27 .reserved .wb :: three) 1#32 ∧
    v.FillDecides c.line (entry 3 794#27 .reserved .wb :: three) 1#32 ∧
    p.FillDecides c.line [] 1#32 ∧ w.FillDecides c.line (entry 3 lineA .held .wt :: three) 1#32 := by
  simp only [hypotheses_iff]
  and_intros
  all_goals first
    | decide +kernel
    | exact fill_other (by decide +kernel)
    | exact fill_declined .wb (by decide +kernel)
    | exact fill_reserved .wb (entry 3 lineA .held .wt) (by decide +kernel)
    | exact fill_made .wb 3 (by decide +kernel)

/-- Section 1.8 of chapter 1: a full set whose oldest entry is locked; the next oldest is the victim. Entry 11 is free, or
holds another recall; the channel is idle, quiet, or has another's probe outstanding. -/
theorem test_hyp_FullSetStartsADisplacementRecall :
    let c := cycle .fill .claiming 0 []
    let v := entry 1 282#27 .held .wb
    let newer := [entry 3 794#27 .held .wb, entry 2 538#27 .held .wt]
    let older := [entry 0 26#27 .held .wb]
    let s := locked 5 26#27 [] (withTxn 5 (.rRead 1 2 0 8) 26#27 .memBusy
      (withSet (newer ++ v :: older) (base.setCycle (some c))))
    let t := withTxn recallEntry (.recall .displace) 7#27 .memBusy s
    let busy := (withTxn 6 (.rRead 1 3 0 8) 7#27 .probing s).setChannel (.outstanding 6 7#27 .keep 5)
    (∀ z ∈ [s, t, s.setChannel (.quiet 4), busy], z.Running ∧ z.Quiet ∧ z.msc.sweep.phase = .stopped ∧ z.Claims c ∧
      z.LowestFree 0 ∧
      z.lockOf c.line = none ∧ z.msc.mode = .coherent ∧ z.isQuarantined c.line = false ∧
      (z.rm.resolve c.line).policy.entryPolicy = some .wb ∧ z.findEntry c.line = none ∧
      (∀ w : Way, ∃ e ∈ z.dirSet c.line, e.way = w) ∧ z.pd.admitPolicy = .displace ∧
      z.dirSet c.line = newer ++ v :: older ∧ setOf v.line = setOf c.line ∧ z.Recallable v ∧
      ∀ e ∈ older, ¬ z.Recallable e) ∧
    (s.isHeld v.line = true ∧ s.txn recallEntry = none ∧ s.pu.channel = .idle ∧ busy.txn recallEntry = none ∧
      busy.pu.channel ≠ .idle) ∧ (t.txn recallEntry).isSome = true := by
  simp only [hypotheses_iff]
  and_intros <;> decide +kernel

/-- RP1's request with RP0's queue empty and RP3 granted last: the mode PASS, a line held WT and read, a line held WB and read,
with the channel idle and with it quiet and with an EVICT of the
line in DATA_IN, and a line held WT and written. -/
theorem test_hyp_RequesterIsAdmittedInTurnAndProbed :
    let r := request 6 (.read 24 8)
    let wr := request 6 (.write 1#32 data)
    let s := queued [r] (State.afterReset false false false)
    let t := withSet [entry 0 lineA .held .wt] (queued [r] base)
    let u := withSet [entry 0 lineA .held .wb] (queued [r] base)
    let v := u.setChannel (.quiet 4)
    let busy := withCycle .evict (.served 5) 1 [2] (withTxn 5 (.hEvict 2) lineA .dataIn u)
    let w := withSet [entry 0 lineA .held .wt] (queued [wr] base)
    (∀ z ∈ [s, t, u, v, busy], z.Running ∧ z.Quiet ∧ z.PortClaims 1 r [] ∧ z.LowestFree 0 ∧ z.lockOf lineA = none ∧
      z.checksResult (r.toWork 1).kind 1 r.line = .ok) ∧
    (∀ z ∈ [w, queued [wr] base], z.Running ∧ z.Quiet ∧ z.PortClaims 1 wr [] ∧ z.LowestFree 0 ∧ z.lockOf wr.line = none ∧
      z.checksResult (wr.toWork 1).kind 1 wr.line = .ok) ∧
    (s.NeedsNoProbe (r.toWork 1).kind r.line ∧ t.NeedsNoProbe (r.toWork 1).kind r.line ∧
      (queued [wr] base).NeedsNoProbe (wr.toWork 1).kind wr.line) ∧
    u.NeedsProbe (r.toWork 1).kind r.line .keep ∧ u.pu.channel = .idle ∧
    v.NeedsProbe (r.toWork 1).kind r.line .keep ∧ v.pu.channel ≠ .idle ∧
    busy.NeedsProbe (r.toWork 1).kind r.line .keep ∧ w.NeedsProbe (wr.toWork 1).kind wr.line .invalidate ∧
      ∀ z ∈ [u, v, busy, w], z.NoneAttaches lineA := by
  simp only [hypotheses_iff, portClaims_iff, needsNoProbe_iff, needsProbe_iff, noneAttaches_iff]
  and_intros <;> decide +kernel

/-- One request for each of the four refusals of R92. -/
theorem test_hyp_RefusalAtLookupAnswersAtOnce :
    let rd := request 6 (.read 24 8)
    let wr := request 6 (.write 1#32 data)
    let at' := request 6 (.atomic 0 (.fetchAdd32 (Vector.replicate 4 1#8)))
    let q := (queued [rd] base).setQuarantine [{ line := lineA, cause := .answerTimeout, late := false }]
    let d : State := { queued [wr] base with rm := { base.rm with defaults := { base.rm.defaults with writers := 13#4 } } }
    ∀ z ∈ [(q, rd, ResultCode.quarantined), (d, wr, .accessDenied), (queued [at'] base, at', .atomicRefused),
        (queued [rd] faulted, rd, .bridgeFaulted)],
      z.1.Running ∧ z.1.Quiet ∧ z.1.PortClaims 1 z.2.1 [] ∧ z.1.LowestFree 0 ∧ z.1.lockOf z.2.1.line = none ∧
        z.2.2 = z.1.checksResult (z.2.1.toWork 1).kind 1 z.2.1.line ∧ z.2.2 ≠ .ok := by
  simp only [hypotheses_iff, portClaims_iff]
  decide +kernel

/-- A probed R_WRITE with INVALIDATE and a probed R_READ with KEEP, no cycle on the bus. -/
theorem test_hyp_MissAndCleanSettleTheEntry :
    (let x := { Txn.fresh (.rWrite 1 2 1#32 data) lineA .probing with probeMode := some .invalidate }
     let s := probing 10 .invalidate (withSet [entry 0 lineA .held .wb] (base.putTxn 10 (some x)))
     s.Running ∧ s.Quiet ∧ s.Probes 10 x ∧ (10 : EntryIx) ≠ recallEntry ∧ x.work.isRecall = false ∧ s.NotAttached 10) ∧
    (let x := { Txn.fresh (.rRead 1 2 0 8) lineA .probing with probeMode := some .keep }
     let s := probing 0 .keep (withSet [entry 0 lineA .held .wb] (base.putTxn 0 (some x)))
     s.Running ∧ s.Quiet ∧ s.Probes 0 x ∧ x.probeMode ≠ some .invalidate ∧ s.NotAttached 0) := by
  simp only [hypotheses_iff, probes_iff, notAttached_iff]
  and_intros <;> decide +kernel

/-- An eviction attached to a transaction in PROBING with its probe out: two beats in, the four of an R_WRITE, and the four of
a RECALL. -/
theorem test_hyp_MissAndCleanSettleTheEntry_attached :
    let x := { Txn.fresh (.rWrite 1 2 1#32 data) lineA .probing with probeMode := some .invalidate }
    let full := { x with wbData := true, mask := BitVec.allOnes 32 }
    let victim := { full with work := .recall .displace }
    let s := fun (i : EntryIx) (y : Txn) (bs : List Beat) => probing i .invalidate
      (withSet [entry 0 lineA .held .wb] (withCycle .evict (.attached i) 2 bs (base.putTxn i (some y))))
    (∀ z ∈ [((3 : EntryIx), x, ([2, 3] : List Beat)), (10, full, [2, 3, 0, 1]), (recallEntry, victim, [2, 3, 0, 1])],
      let t := s z.1 z.2.1 z.2.2
      t.Running ∧ t.Quiet ∧ t.Feeds (cycle .evict (.attached z.1) 2 z.2.2) z.1 z.2.1 ∧
        t.pu.channel = .outstanding z.1 lineA .invalidate 5 ∧ t.pu.queue = [] ∧ z.2.1.phase = .probing) ∧
    x.work.port?.isSome = true ∧ victim.work.isRecall = true ∧ victim.link = none ∧ full.mask = BitVec.allOnes 32 := by
  simp only [hypotheses_iff]
  and_intros <;> decide +kernel

/-- A RECALL whose probe is out: with no link, with a fill of its set linked, and with a fill at the head of the recall wait
list, of its own set (way 1 then free) and of another set, full, whose oldest entry is the victim. -/
theorem test_hyp_RecallEndsAndHandsOver :
    let x := { Txn.fresh (.recall .displace) lineA .probing with probeMode := some .invalidate }
    let e := entry 1 lineA .held .wb
    let before := [entry 0 282#27 .held .wt, e]
    let z := { Txn.fresh (.hFill 0) lineB .wayWait with snapshot := some (Attr.afterReset true) }
    let y := { Txn.fresh (.hFill 0) 27#27 .wayWait with snapshot := some (Attr.afterReset true) }
    let v := entry 3 1051#27 .held .wb
    let newer := [entry 0 283#27 .held .wb, entry 1 539#27 .held .wb, entry 2 795#27 .reserved .wb]
    let s := fun w => locked recallEntry lineA [] (probing recallEntry .invalidate
      (withSet before (base.putTxn recallEntry (some w))))
    let t := (s { x with link := some 4 }).putTxn 4 (some z)
    let u := waitingForRecall 4 ((s x).putTxn 4 (some z))
    let w := waitingForRecall 4 (((s x).putTxn 4 (some y)).putSet 27#27 (newer ++ [v]))
    ((s x).Running ∧ (s x).Probes recallEntry x ∧ x.work.isRecall = true ∧ (s x).NotAttached recallEntry ∧
      (s x).HoldsAlone recallEntry x.line ∧ (s x).msc.sweep.phase = .stopped ∧
      (∀ p, ((s x).port p).state ≠ .draining) ∧ (s x).findEntry x.line = some e ∧ (s x).tt.recallWait = []) ∧
    (t.Probes recallEntry { x with link := some 4 } ∧ t.HoldsAlone recallEntry x.line ∧ t.NotAttached recallEntry ∧
      t.txn 4 = some z ∧ (4 : EntryIx) ≠ recallEntry ∧ z.work.kind = .hFill ∧
      (Attr.afterReset true).policy.entryPolicy = some .wb ∧ setOf z.line = setOf x.line ∧ t.findEntry z.line = none ∧
      t.findEntry x.line = some e ∧ (∀ e' ∈ t.dirSet x.line, e'.way = e.way → e'.line = x.line) ∧
      t.msc.mode = .coherent ∧ (t.setMode .faulted).msc.mode ≠ .coherent) ∧
    (u.Probes recallEntry x ∧ u.HoldsAlone recallEntry x.line ∧ u.txn 4 = some z ∧ u.tt.recallWait = [4] ∧
      u.isQuarantined z.line = false ∧ (∀ e' ∈ [entry 0 282#27 .held .wt], e'.way ≠ 1) ∧
      (∀ k : Way, k < 1 → ∃ e' ∈ [entry 0 282#27 .held .wt], e'.way = k)) ∧
    w.DirectoryKept ∧ w.Probes recallEntry x ∧ w.HoldsAlone recallEntry x.line ∧ w.txn 4 = some y ∧ w.tt.recallWait = 4 :: [] ∧
      w.findEntry x.line = some e ∧ w.findEntry y.line = none ∧ setOf y.line ≠ setOf x.line ∧
      (∀ k : Way, ∃ e' ∈ w.dirSet y.line, e'.way = k) ∧ w.pd.admitPolicy = .displace ∧
      w.dirSet y.line = newer ++ v :: [] ∧ setOf v.line = setOf y.line ∧
      (v.state = .held ∧ w.isLocked v.line = false ∧ w.isQuarantined v.line = false) ∧ w.isHeld v.line = true ∧
      w.NoneAttaches v.line := by
  simp only [hypotheses_iff, probes_iff, noneAttaches_iff, notAttached_iff]
  and_intros <;> decide +kernel

theorem test_hyp_DirtyAwaitsTheWritebackAndRetracts :
    let x := { Txn.fresh (.rWrite 1 2 1#32 data) lineA .probing with probeMode := some .invalidate }
    let s := probing 3 .invalidate (withSet [entry 0 lineA .held .wb] (base.putTxn 3 (some x)))
    let c := cycle .read .claiming 0 []
    (s.Running ∧ s.Quiet ∧ s.Probes 3 x ∧ s.hp.cycle = none) ∧
    ((s.setCycle (some c)).Quiet ∧ (s.setCycle (some c)).Probes 3 x ∧ (s.setCycle (some c)).Claims c) := by
  simp only [hypotheses_iff, probes_iff]
  and_intros <;> decide +kernel

/-- A DIRTY answer with a served cycle in each phase of R49: a READ, a FILL with its RESERVED entry, and an LREAD behind
another's lock; and with three cycles that are not retracted. -/
theorem test_hyp_RetractWithdrawsAServedCycle :
    let x := { Txn.fresh (.rWrite 1 2 1#32 data) lineA .probing with probeMode := some .invalidate }
    let s := fun (k : CycleKind) (g : Nat) (z : Txn) => probing 3 .invalidate
      (withCycle k (.served 0) g [] ((base.putTxn 3 (some x)).putTxn 0 (some z)))
    let rd := fun p => Txn.fresh (.hRead 2 0x0F#8) lineB p
    let fl := fun p => Txn.fresh (.hFill 2) lineB p
    let lr := fun p => Txn.fresh (.hLread 2 0x0F#8) lineB p
    (∀ p ∈ [Phase.dataIn, .lockWait, .memBusy],
      (s .read 0 (rd p)).Running ∧ (s .read 0 (rd p)).Quiet ∧ (s .read 0 (rd p)).Probes 3 x ∧
        (s .read 0 (rd p)).Carries (cycle .read (.served 0) 0 []) 0 (rd p)) ∧
    (∀ p ∈ [Phase.wayWait, .memWait, .dataOut],
      let t := (locked 0 lineB [] (s .fill 0 (fl p))).putSet lineB [entry 0 lineB .reserved .wb]
      t.Running ∧ t.Quiet ∧ t.Probes 3 x ∧ t.Carries (cycle .fill (.served 0) 0 []) 0 (fl p) ∧ t.HoldsAlone 0 lineB ∧
        t.isReserved lineB = true) ∧
    (let t := locked 5 lineB [0] (s .lread 0 (lr .lockWait))
     t.Quiet ∧ t.Probes 3 x ∧ t.Carries (cycle .lread (.served 0) 0 []) 0 (lr .lockWait) ∧
       t.lockOf lineB = some { line := lineB, holder := .txn 5, waiters := [0] }) ∧
    ((s .fill 1 (fl .dataOut)).Quiet ∧ (s .fill 1 (fl .dataOut)).Probes 3 x ∧
      (s .fill 1 (fl .dataOut)).Carries (cycle .fill (.served 0) 1 []) 0 (fl .dataOut)) ∧
    (let t := lockedBySet lineB (s .lread 0 (lr .memWait))
     t.Quiet ∧ t.Probes 3 x ∧ t.Carries (cycle .lread (.served 0) 0 []) 0 (lr .memWait) ∧ lineB ∈ t.hp.lockSet) ∧
    (let t := (s .probeWb 1 (rd .wbWait)).setCycle (some (cycle .probeWb (.attached 0) 1 [0]))
     t.Quiet ∧ t.Probes 3 x ∧ t.Feeds (cycle .probeWb (.attached 0) 1 [0]) 0 (rd .wbWait)) := by
  simp only [hypotheses_iff, probes_iff]
  and_intros <;> decide +kernel

/-- No probe outstanding, on a channel that is IDLE and on one that is QUIET; no timer of any kind running. -/
theorem test_hyp_LateAnswersAndStaleExpiries :
    base.Running ∧ (∀ i l m n, base.pu.channel ≠ .outstanding i l m n) ∧
      (∀ i l m n, (base.setChannel (.quiet 1)).pu.channel ≠ .outstanding i l m n) ∧
      (∀ n, base.pu.channel ≠ .quiet n) ∧ base.txn 3 = none ∧ base.hp.lockTimer = none := by
  simp only [hypotheses_iff, not_probed_iff, resting_iff]
  and_intros <;> decide +kernel

/-- With seven records in the table: a probed read, alone on its line, with an eviction attached, and with a write and an
atomic behind it; and one whose write-back timer runs, or counts behind a host write. -/
theorem test_hyp_TimeoutsQuarantineTheLine :
    let seven : List QuarRec := (List.range 7).map fun n => { line := BitVec.ofNat 27 n, cause := .answerTimeout, late := false }
    let x := Txn.fresh (.rRead 1 2 0 8) lineA .probing
    let y := Txn.fresh (.rWrite 1 3 1#32 data) lineA .lockWait
    let z := Txn.fresh (.rAtomic 0 3 28 (.fetchAdd32 (Vector.replicate 4 1#8))) lineA .lockWait
    let waits := fun w => { Txn.fresh (.rRead 1 2 0 8) lineA .wbWait with wbTimer := some w }
    let meets := fun (s : State) (t : Txn) (ws : List EntryIx) => s.Running ∧ s.Quiet ∧ s.txn 3 = some t ∧
      t.work.port? = some 1 ∧ t.work.tag? = some 2 ∧ s.lockOf t.line = some { line := lineA, holder := .txn 3, waiters := ws } ∧
      ws.Nodup ∧ 3 ∉ ws ∧ s.isQuarantined t.line = false ∧ s.msc.quarantine.length < 8
    let s := fun (t : Txn) (ws : List EntryIx) => (locked 3 lineA ws (base.putTxn 3 (some t))).setQuarantine seven
    (let a := probing 3 .keep (s x [])
     let b := a.setCycle (some (cycle .evict (.attached 3) 2 [2, 3]))
     meets a x [] ∧ a.NotAttached 3 ∧ a.pu.channel = .outstanding 3 lineA .keep 5 ∧ meets b x [] ∧
       b.hp.cycle = some (cycle .evict (.attached 3) 2 [2, 3])) ∧
    (let a := probing 3 .keep (((s x [10, 0]).putTxn 10 (some y)).putTxn 0 (some z))
     meets a x [10, 0] ∧ a.txn 10 = some y ∧ a.txn 0 = some z ∧ y.line = x.line ∧ z.line = x.line ∧
       y.work.port?.isSome = true ∧ z.work.port?.isSome = true) ∧
    ∀ w ∈ [WbTimer.running 1, .pendingCounting 1], meets (s (waits w) []) (waits w) [] ∧ (waits w).wbTimer = some w := by
  simp only [hypotheses_iff, notAttached_iff]
  and_intros <;> decide +kernel

/-- A RECALL's probe with a fill linked and seven records in the table; a read's probe with eight, in FAULTED. -/
theorem test_hyp_TimeoutOfARecallAndEntryIntoFaulted :
    let records : Nat → List QuarRec := fun k =>
      (List.range k).map fun n => { line := BitVec.ofNat 27 n, cause := .answerTimeout, late := false }
    (let x := { Txn.fresh (.recall .displace) lineA .probing with link := some 4 }
     let z := Txn.fresh (.hFill 0) lineB .wayWait
     let s := (probing recallEntry .invalidate (locked recallEntry lineA []
       ((base.putTxn recallEntry (some x)).putTxn 4 (some z)))).setQuarantine (records 7)
     s.Running ∧ s.pu.channel = .outstanding recallEntry lineA .invalidate 5 ∧ s.txn recallEntry = some x ∧
       x.work.isRecall = true ∧ s.NotAttached recallEntry ∧ s.HoldsAlone recallEntry x.line ∧
       s.isQuarantined x.line = false ∧ s.msc.quarantine.length < 8 ∧ s.msc.sweep.phase = .stopped ∧
       s.tt.recallWait = [] ∧ (∀ p, (s.port p).state ≠ .draining) ∧ s.txn 4 = some z ∧ z.work.kind = .hFill) ∧
    (let x := Txn.fresh (.rRead 1 2 0 8) lineA .probing
     let s := (probing 3 .keep (locked 3 lineA [] (faulted.putTxn 3 (some x)))).setQuarantine (records 8)
     s.Running ∧ s.Quiet ∧ s.pu.channel = .outstanding 3 lineA .keep 5 ∧ s.txn 3 = some x ∧
       x.work.port? = some 1 ∧ x.work.tag? = some 2 ∧ s.NotAttached 3 ∧ s.HoldsAlone 3 x.line ∧
       s.isQuarantined x.line = false ∧ 8 ≤ s.msc.quarantine.length ∧ s.msc.mode = .faulted) := by
  simp only [hypotheses_iff, notAttached_iff]
  and_intros <;> decide +kernel

/-- The entry into FAULTED with the probe queue empty; with a write and an atomic in it; with a RECALL in it whose link names a
fill; and with a sweep that SET_MODE began. -/
theorem test_hyp_TimeoutOfARecallAndEntryIntoFaulted_queue :
    let eight : List QuarRec := (List.range 8).map fun n => { line := BitVec.ofNat 27 n, cause := .answerTimeout, late := false }
    let x := Txn.fresh (.rRead 1 2 0 8) lineA .probing
    let y := Txn.fresh (.rWrite 1 3 1#32 data) lineB .probeQueued
    let v := Txn.fresh (.rAtomic 0 3 28 (.fetchAdd32 (Vector.replicate 4 1#8))) 27#27 .probeQueued
    let r := { Txn.fresh (.recall .displace) 28#27 .probeQueued with link := some 0 }
    let z := Txn.fresh (.hFill 0) 29#27 .wayWait
    let s := (probing 3 .keep (locked 3 lineA [] (base.putTxn 3 (some x)))).setQuarantine eight
    let t := (locked 10 27#27 [] (locked 4 lineB [] ((s.putTxn 4 (some y)).putTxn 10 (some v)))).setQueue [4, 10]
    let u := (locked recallEntry 28#27 [] ((s.putTxn recallEntry (some r)).putTxn 0 (some z))).setQueue [recallEntry]
    let w : State := { s with msc := { s.msc with sweep := { s.msc.sweep with phase := .recalling, origin := .setMode } } }
    (∀ a ∈ [s, t, u, w], a.Running ∧ a.pu.channel = .outstanding 3 lineA .keep 5 ∧ a.txn 3 = some x ∧
      x.work.port? = some 1 ∧ x.work.tag? = some 2 ∧ a.NotAttached 3 ∧ a.HoldsAlone 3 x.line ∧
      a.isQuarantined x.line = false ∧ 8 ≤ a.msc.quarantine.length ∧ a.msc.mode = .coherent ∧ a.tt.recallWait = [] ∧
      (∀ q, (a.port q).state ≠ .draining) ∧ a.pu.queue.Nodup ∧ 3 ∉ a.pu.queue) ∧
    (t.pu.queue = [4, 10] ∧ t.txn 4 = some y ∧ t.HoldsAlone 4 y.line ∧ y.work.port?.isSome = true ∧
      t.txn 10 = some v ∧ t.HoldsAlone 10 v.line ∧ v.work.port?.isSome = true) ∧
    (u.pu.queue = [recallEntry] ∧ u.txn recallEntry = some r ∧ u.HoldsAlone recallEntry r.line ∧ r.work.isRecall = true ∧
      r.link = some 0 ∧ u.txn 0 = some z ∧ z.work.kind = .hFill ∧ (0 : EntryIx) ∉ [3, recallEntry]) ∧
    w.msc.sweep.phase ≠ .stopped := by
  simp only [hypotheses_iff, notAttached_iff]
  and_intros <;> decide +kernel

/-- The end of the quiet period with an empty queue, with a head whose line is held, and with one whose entry has gone. -/
theorem test_hyp_QuietAndLockTimersExpire :
    (let s := base.setChannel (.quiet 1)
     s.Running ∧ s.Quiet ∧ s.pu.channel = .quiet 1 ∧ s.pu.queue = []) ∧
    (let x := { Txn.fresh (.rWrite 1 2 1#32 data) lineA .probeQueued with probeMode := some .invalidate }
     let s := ((withSet [entry 0 lineA .held .wb] (base.putTxn 3 (some x))).setChannel (.quiet 1)).setQueue [3]
     let t := ((base.putTxn 3 (some x)).setChannel (.quiet 1)).setQueue [3]
     s.Running ∧ s.Quiet ∧ s.pu.queue = [3] ∧ s.msc.mode ≠ .faulted ∧ s.txn 3 = some x ∧ s.isHeld x.line = true ∧
       (s.setMode .faulted).Quiet ∧ t.Quiet ∧ t.txn 3 = some x ∧ x.work.port?.isSome = true ∧ t.isHeld x.line = false ∧
       x.wbData = false) := by
  simp only [hypotheses_iff]
  and_intros <;> decide +kernel

/-- A RECALL at the head of the probe queue, its victim's entry gone, with nothing and with a fill that waits for entry 11. -/
theorem test_hyp_QuietAndLockTimersExpire_skip :
    let x := { Txn.fresh (.recall .displace) lineA .probeQueued with probeMode := some .invalidate }
    let z := { Txn.fresh (.hFill 2) lineB .wayWait with snapshot := some (Attr.afterReset true) }
    let s := ((locked recallEntry lineA [] (base.putTxn recallEntry (some x))).setChannel (.quiet 1)).setQueue [recallEntry]
    let t := withSet [entry 1 538#27 .held .wb, entry 0 282#27 .held .wb] (waitingForRecall 0 (s.putTxn 0 (some z)))
    (∀ u ∈ [s, t], u.Running ∧ u.Quiet ∧ u.pu.channel = .quiet 1 ∧ u.pu.queue = [recallEntry] ∧ u.msc.mode = .coherent ∧
      u.txn recallEntry = some x ∧ u.isHeld x.line = false ∧ u.HoldsAlone recallEntry x.line ∧
      u.msc.sweep.phase = .stopped) ∧
    (x.work.isRecall = true ∧ x.link = none ∧ s.tt.recallWait = []) ∧
    (t.tt.recallWait = [0] ∧ (0 : EntryIx) ≠ recallEntry ∧ t.txn 0 = some z ∧ z.work.kind = .hFill ∧
      (Attr.afterReset true).policy.entryPolicy = some .wb ∧ t.isQuarantined z.line = false ∧ t.findEntry z.line = none ∧
      (∀ e ∈ t.dirSet z.line, e.way ≠ 2) ∧ ∀ v : Way, v < 2 → ∃ e ∈ t.dirSet z.line, e.way = v) := by
  simp only [hypotheses_iff]
  and_intros <;> decide +kernel

/-- The lock timer running, with a set of two lines. -/
theorem test_hyp_QuietAndLockTimersExpire_lock :
    let s0 := lockedBySet lineA (lockedBySet lineB base)
    let s : State := { s0 with hp := { s0.hp with lockTimer := some 1, lastLocked := some .hLwrite } }
    s.Running ∧ s.Quiet ∧ s.hp.lockTimer = some 1 ∧ s.hp.lockSet = lineB :: [lineA] ∧ s.hp.lastLocked = some .hLwrite ∧
      (lineB :: [lineA]).Nodup ∧
      (∀ l ∈ lineB :: [lineA], s.lockOf l = some { line := l, holder := .hostSet, waiters := [] }) := by
  simp only [hypotheses_iff]
  and_intros
  all_goals first
    | exact two_of rfl (by decide +kernel) (by decide +kernel)
    | decide +kernel

/-- Seven and eight requests queued, a request of each shape at its bounds, and no response and one to take. -/
theorem test_hyp_RequestsAreQueuedAndResponsesTaken :
    let seven := queued (List.replicate 7 (request 6 (.read 0 1))) base
    let eight := queued (List.replicate 8 (request 6 (.read 0 1))) base
    (seven.Running ∧ (seven.port 1).state = .enabled ∧ (seven.port 1).ingress.length < 8 ∧
      (seven.port 1).tags[3] = false ∧ 8 ≤ (eight.port 1).ingress.length ∧ (eight.port 1).state = .enabled) ∧
    ((offsetOf 0x00090018#32).val + 8 ≤ 32 ∧ (offsetOf 0x00090000#32).val + 32 ≤ 32 ∧
      (offsetOf 0x0009001F#32).val + 1 ≤ 32 ∧ (0x80000000#32 : LineMask) ≠ 0#32 ∧
      (offsetOf 0x0009001C#32).val % 4 = 0 ∧ (offsetOf 0x00090018#32).val % 8 = 0) ∧
    (base.port 1).responses = [] ∧
    (base.modPort 1 fun q => { q with responses := [⟨15, .ok, .none⟩] }).port 1 =
      { (base.port 1) with responses := [⟨15, .ok, .none⟩] } := by
  refine ⟨⟨rfl, ?_⟩, ?_, ?_, ?_⟩ <;> decide +kernel

/-- A draining port, a tag in use, and malformed shapes just past their bounds. -/
theorem test_hyp_RefusedRequestsAreAnsweredOnTheHandshake :
    ((base.setPortState 1 .draining).port 1).state ≠ .enabled ∧
    ((base.modPort 1 fun q => { q with tags := q.tags.set 3 true }).port 1).tags[3] = true ∧
    ((base.modPort 1 fun q => { q with tags := q.tags.set 3 true }).port 1).state = .enabled ∧
    32 < (offsetOf 0x00090018#32).val + 9 ∧ (offsetOf 0x0009001E#32).val % 4 ≠ 0 ∧
    (offsetOf 0x0009001C#32).val % 8 ≠ 0 ∧ (base.port 1).tags[3] = false := by decide +kernel

/-- Nothing that waits; one that waits behind seven requests outstanding, and behind eight. -/
theorem test_hyp_AcceptedRequestBecomesOutstanding :
    let s0 := outstanding 1 .lineRead (withTxn 3 (.hWrite 2 0x0F#8) lineA .memWait base)
    let behind : Nat → State := fun n => { s0 with
      mp := { outstanding := List.replicate n { txn := 1, kind := .lineRead, line := 5#27, mask := 0#32 }, waiting := [3] } }
    let s := behind 7
    base.Running ∧ base.mp.waiting = [] ∧ (behind 8).Running ∧ 8 ≤ (behind 8).mp.outstanding.length ∧
      s.Running ∧ s.mp.waiting = 3 :: [] ∧ s.mp.outstanding.length < 8 ∧
      s.txn 3 = some (Txn.fresh (.hWrite 2 0x0F#8) lineA .memWait) := by
  simp only [hypotheses_iff]
  and_intros <;> decide +kernel

/-- A WRITE, an eviction, and an LWRITE with END under a set of two lines. -/
theorem test_hyp_HostCompletionsReachDataOut :
    (let x := Txn.fresh (.hWrite 2 0x0F#8) lineA .memBusy
     let s := locked 3 lineA [] (outstanding 3 .maskedWrite (withCycle .write (.served 3) 1 [2] (base.putTxn 3 (some x))))
     s.Running ∧ s.Quiet ∧ s.txn 3 = some x) ∧
    (let x := Txn.fresh (.hEvict 2) lineA .memBusy
     let s := locked 3 lineA [] (outstanding 3 .lineWrite (withCycle .evict (.served 3) 3 [2, 3, 0, 1] (base.putTxn 3 (some x))))
     s.Running ∧ s.Quiet ∧ s.txn 3 = some x) ∧
    (let x := Txn.fresh (.hLwrite 2 0x0F#8 true) lineA .memBusy
     let s := lockedBySet lineA (lockedBySet lineB
       (outstanding 3 .maskedWrite (withCycle .lwrite (.served 3) 1 [2] (base.putTxn 3 (some x)))))
     s.Running ∧ s.Quiet ∧ s.txn 3 = some x ∧ s.hp.lockSet.Nodup ∧
       (∀ l ∈ s.hp.lockSet, s.lockOf l = some { line := l, holder := .hostSet, waiters := [] })) := by
  simp only [hypotheses_iff]
  and_intros
  all_goals first
    | exact two_of (a := lineB) (b := lineA) (by decide +kernel) (by decide +kernel) (by decide +kernel)
    | decide +kernel

/-- A host READ whose request is outstanding. -/
theorem test_hyp_HostCompletionsReachDataOut_read :
    let x := Txn.fresh (.hRead 2 0x0F#8) lineA .memBusy
    let s := outstanding 3 .lineRead (base.putTxn 3 (some x))
    s.Running ∧ s.Quiet ∧ s.mp.outstanding = { txn := 3, kind := .lineRead, line := lineA, mask := 0#32 } :: [] ∧
      s.txn 3 = some x ∧ x.abandoned = false := by
  simp only [hypotheses_iff]
  and_intros <;> decide +kernel

/-- An R_READ, an R_WRITE, and atomics with each outcome. -/
theorem test_hyp_RequesterCompletionsAreAnswered :
    (let x := Txn.fresh (.rRead 1 2 24 8) lineA .memBusy
     let s := locked 3 lineA [] (outstanding 3 .lineRead (base.putTxn 3 (some x)))
     s.Running ∧ s.Quiet ∧ s.txn 3 = some x ∧ s.NotAttached 3 ∧ s.HoldsAlone 3 x.line) ∧
    (let x := Txn.fresh (.rWrite 1 2 1#32 data) lineA .memBusy
     let s := locked 3 lineA [] (outstanding 3 .maskedWrite (base.putTxn 3 (some x)))
     s.Quiet ∧ s.txn 3 = some x ∧ s.HoldsAlone 3 x.line) ∧
    (let x := Txn.fresh (.rAtomic 1 2 28 (.fetchAdd32 (Vector.replicate 4 1#8))) lineA .memBusy
     let s := locked 3 lineA [] (outstanding 3 .lineRead (base.putTxn 3 (some x)))
     s.Quiet ∧ s.txn 3 = some x ∧ s.HoldsAlone 3 x.line ∧
       (runAtomic (.fetchAdd32 (Vector.replicate 4 1#8)) 28 data).outcome = .changed ∧
       (runAtomic (.fetchAdd32 (Vector.replicate 4 0#8)) 28 data).outcome = .unchanged) := by
  simp only [hypotheses_iff, notAttached_iff]
  and_intros <;> decide +kernel

/-- The write-back data of an R_READ and of a RECALL on its way to memory, its cycle still on the bus; and that of an R_WRITE
and of a RECALL whose cycle HRST has dropped. -/
theorem test_hyp_WritebackCompletionsEndTheirCycle :
    (let x := { Txn.fresh (.rRead 1 2 24 8) lineA .memBusy with wbData := true }
     let c := cycle .probeWb (.attached 3) 3 [0, 1, 2, 3]
     let s := locked 3 lineA [] (outstanding 3 .lineWrite ((base.putTxn 3 (some x)).setCycle (some c)))
     s.Running ∧ s.Quiet ∧ s.mp.outstanding = { txn := 3, kind := .lineWrite, line := lineA, mask := 0#32 } :: [] ∧
       s.Feeds c 3 x ∧ x.abandoned = false ∧ s.HoldsAlone 3 x.line ∧ (3 : EntryIx) ≠ recallEntry ∧
       x.work.port? = some 1 ∧ x.work.tag? = some 2) ∧
    (let x := { Txn.fresh (.recall .displace) lineA .memBusy with wbData := true }
     let c := cycle .probeWb (.attached recallEntry) 3 [0, 1, 2, 3]
     let s := locked recallEntry lineA []
       (outstanding recallEntry .lineWrite ((base.putTxn recallEntry (some x)).setCycle (some c)))
     s.Running ∧ s.Quiet ∧ s.Feeds c recallEntry x ∧ s.HoldsAlone recallEntry x.line ∧ x.work.isRecall = true ∧
       s.msc.sweep.phase = .stopped ∧ s.tt.recallWait = []) ∧
    (let x := { Txn.fresh (.rWrite 1 2 1#32 data) lineA .memBusy with wbData := true }
     let s := locked 10 lineA [] (outstanding 10 .lineWrite (withCycle .read .claiming 0 [] (base.putTxn 10 (some x))))
     s.Running ∧ s.Quiet ∧ s.NotAttached 10 ∧ s.txn 10 = some x ∧ x.abandoned = false ∧ s.HoldsAlone 10 x.line ∧
       (10 : EntryIx) ≠ recallEntry ∧ x.work.port? = some 1 ∧ x.work.tag? = some 2) ∧
    (let x := { Txn.fresh (.recall .sweep) lineA .memBusy with wbData := true }
     let s := locked recallEntry lineA [] (outstanding recallEntry .lineWrite (base.putTxn recallEntry (some x)))
     s.Running ∧ s.Quiet ∧ s.NotAttached recallEntry ∧ s.HoldsAlone recallEntry x.line ∧ x.work.isRecall = true ∧
       s.msc.sweep.phase = .stopped ∧ s.tt.recallWait = []) := by
  simp only [hypotheses_iff, notAttached_iff]
  and_intros <;> decide +kernel

/-- Nothing outstanding; an abandoned READ alone on its line; one with another behind it: a WRITE, an LREAD, an eviction, a
FILL, a request that is refused, one that needs no probe, and one that needs a probe, the channel idle and quiet. -/
theorem test_hyp_AbandonedCompletionFreesEntryAndPassesTheLock :
    let x := { Txn.fresh (.hRead 2 0x0F#8) lineA .memBusy with abandoned := true }
    let alone := fun (ws : List EntryIx) (z : State) => outstanding 3 .lineRead (locked 3 lineA ws (z.putTxn 3 (some x)))
    let s := fun (w : Work) (z : State) => alone [10, 0] (z.putTxn 10 (some (Txn.fresh w lineA .lockWait)))
    let rd := Work.rRead 1 2 0 8
    let wr := Work.rWrite 1 2 1#32 data
    let held := withSet [entry 1 lineA .held .wb] base
    let denied : State := { base with rm := { base.rm with defaults := { base.rm.defaults with writers := 13#4 } } }
    let one := alone [10] (denied.putTxn 10 (some (Txn.fresh wr lineA .lockWait)))
    (base.mp.outstanding = [] ∧ x.abandoned = true ∧ x.work.isHost = true) ∧
    (alone [] base).Running ∧ (alone [] base).Quiet ∧ (alone [] base).txn 3 = some x ∧ (alone [] base).HoldsAlone 3 x.line ∧
    (∀ z ∈ [((Work.hWrite 2 0x0F#8), base), (.hLread 2 0x0F#8, lockedBySet lineB base), (.hEvict 2, held), (.hFill 2, base),
        (rd, base), (wr, base), (wr, held), (wr, held.setChannel (.quiet 4))],
      (s z.1 z.2).Running ∧ (s z.1 z.2).Quiet ∧ (s z.1 z.2).txn 3 = some x ∧
        (s z.1 z.2).txn 10 = some (Txn.fresh z.1 lineA .lockWait) ∧
        (s z.1 z.2).lockOf x.line = some { line := x.line, holder := .txn 3, waiters := [10, 0] }) ∧
    (let t := s (.hLread 2 0x0F#8) (lockedBySet lineB base)
     x.line ∉ t.hp.lockSet ∧ t.hp.lockSet.length < 2) ∧
    (s (.hFill 2) base).FillDecides x.line [entry 0 lineA .reserved .wb] 0#32 ∧
    (one.Running ∧ one.Quiet ∧ one.lockOf x.line = some { line := x.line, holder := .txn 3, waiters := [10] } ∧
      one.checksResult .rWrite 1 x.line = .accessDenied) ∧
    ((s rd base).checksResult .rRead 1 x.line = .ok ∧ (s rd base).NeedsNoProbe .rRead x.line ∧
      (s wr base).checksResult .rWrite 1 x.line = .ok ∧ (s wr base).NeedsNoProbe .rWrite x.line) ∧
    (s wr held).checksResult .rWrite 1 x.line = .ok ∧ (s wr held).NeedsProbe .rWrite x.line .invalidate ∧
      (s wr held).pu.channel = .idle ∧ (s wr (held.setChannel (.quiet 4))).NeedsProbe .rWrite x.line .invalidate ∧
      (s wr (held.setChannel (.quiet 4))).checksResult .rWrite 1 x.line = .ok ∧
      ∀ z ∈ [s wr held, s wr (held.setChannel (.quiet 4)), withCycle .evict (.attached 5) 1 [2] (s wr held)],
        z.NoneAttaches x.line := by
  simp only [hypotheses_iff, needsNoProbe_iff, needsProbe_iff, noneAttaches_iff]
  and_intros
  all_goals first
    | decide +kernel
    | exact fill_made .wb 0 (by decide +kernel)

theorem test_hyp_ManagementBytesReachTheirRegisters :
    base.Running ∧ (0x58#7 : BitVec 7) = (0b10110#5 ++ BitVec.ofBool base.pins.ma1) ++ BitVec.ofBool base.pins.ma0 ∧
    (0x59#7 : BitVec 7) ≠ (0b10110#5 ++ BitVec.ofBool base.pins.ma1) ++ BitVec.ofBool base.pins.ma0 ∧
    (base.modMg fun m => { m with bus := .pointerNext }).mg.bus = .pointerNext ∧
    (atOffset 0x0C#8 0#8 base).AtByte .stage ∧ (atOffset 0x0E#8 0#8 base).AtByte .stage ∧
    (atOffset 0x0B#8 0x0B#8 base).mg.pointer = 0x0B#8 ∧ (atOffset 0x0B#8 0x0B#8 base).mg.staged.b0 = some 0x0B#8 ∧
    (0x0B#8 : Byte) < 0x0C#8 := by
  simp only [hypotheses_iff]
  and_intros <;> decide +kernel

/-- A read at the last byte of the window, its register captured among others, and at the first, whose register is not. -/
theorem test_hyp_ReadTransactionReturnsTheRegister :
    (base.Running ∧ (0x58#7 : BitVec 7) = (0b10110#5 ++ BitVec.ofBool base.pins.ma1) ++ BitVec.ofBool base.pins.ma0) ∧
    (let kept : List Capture := [{ word := 6#6, value := 9#32 }, { word := 63#6, value := 5#32 }]
     let s := base.modMg fun m => { m with bus := .reading, pointer := 0xFF#8, captures := kept }
     let t := base.modMg fun m => { m with bus := .reading, captures := kept }
     (s.Running ∧ s.pending = [] ∧ s.mg.bus = .reading ∧
       s.mg.captures.find? (fun k => k.word.toNat == s.mg.pointer.toNat / 4) = some { word := 63#6, value := 5#32 }) ∧
     t.Running ∧ t.pending = [] ∧ t.mg.bus = .reading ∧ ∀ k ∈ t.mg.captures, k.word.toNat ≠ t.mg.pointer.toNat / 4) := by
  simp only [hypotheses_iff]
  and_intros <;> decide +kernel

/-- A list of three records and a quarantine table of one. -/
theorem test_hyp_RegistersAndAlertShowTheState :
    let r : FaultRec := { kind := .malformed, issuer := .rp 0, line := lineA, txnKind := .rRead, tag := some 3 }
    let q : QuarRec := { line := lineA, cause := .writebackTimeout, late := true }
    let s : State := ({ base with ev := { base.ev with faults := List.replicate 3 r } } : State).setQuarantine [q]
    s.ev.faults.length ≤ 4 ∧ s.ev.faults[2]? = some r ∧ s.ev.faults[3]? = none ∧ s.msc.quarantine[0]? = some q ∧
      s.msc.quarantine[1]? = none ∧ s.msc.sweep.passedOver ≤ 1024 ∧ s.msc.sweep.remaining ≤ 1024 := by decide +kernel

theorem test_hyp_RegisterWritesAreTaken :
    (atOffset 0x0F#8 3#8 base).AtByte .register ∧ (atOffset 0x13#8 3#8 base).AtByte .register ∧
    (atOffset 0x33#8 3#8 base).AtByte .register ∧ (atOffset 0x1F#8 3#8 base).AtByte .eventEnable ∧
    (atOffset 0x17#8 3#8 base).AtByte .cmdStatus ∧ (0x04010203#32 : Reg).extractLsb' 24 8 = 4#8 ∧
    (0x04010203#32 : Reg).extractLsb' 16 8 = 1#8 ∧ (0x04010203#32 : Reg).extractLsb' 8 8 = 2#8 ∧
    (0x04010203#32 : Reg).extractLsb' 0 8 = 3#8 ∧
    (atOffset 0x23#8 3#8 base).AtByte .defaultAttr ∧ (atOffset 0x27#8 0#8 base).AtByte .probeTimes ∧
    (atOffset 0x2B#8 0xFF#8 base).AtByte .lockLimit ∧ (atOffset 0x2F#8 1#8 base).AtByte .admitPolicy := by
  simp only [hypotheses_iff]
  and_intros <;> decide +kernel

theorem test_hyp_EventFlagsAreWriteOneToClear : (atOffset 0x1B#8 3#8 base).AtByte .eventFlags := by
  simp only [hypotheses_iff]
  and_intros <;> decide +kernel

/-- Entry 8 (BAD_INDEX), entry 7 invalid, of size 2^11, 2^33 and with policy 3 (BAD_REGION), and of sizes 2^12 and 2^32. -/
theorem test_hyp_WriteRegionReplacesOrRefuses :
    (atCommand 1#8 8#32 0#32 base).AtCommand .writeRegion ∧
    (atCommand 1#8 7#32 0#32 base).AtCommand .writeRegion ∧
    ((0x177#32 : Reg).extractLsb' 5 6).toNat = 11 ∧ ((0x437#32 : Reg).extractLsb' 5 6).toNat = 33 ∧
    ((0x1997#32 : Reg).extractLsb' 11 2).toNat = 3 ∧ ((0x197#32 : Reg).extractLsb' 5 6).toNat = 12 ∧
    ((0x417#32 : Reg).extractLsb' 5 6).toNat = 32 ∧ (0x417#32 : Reg).getLsbD 4 = true ∧
    (atCommand 1#8 0x417#32 0#32 base).AtCommand .writeRegion ∧ (0x00001800#32 : Reg).toNat % 2 ^ 12 ≠ 0 := by
  simp only [hypotheses_iff]
  and_intros <;> decide +kernel

/-- FAULTED; a value naming no mode; PASS and COHERENT with each value; and SET_MODE(PASS) with an empty directory, and with
entries of quarantined lines alone. -/
theorem test_hyp_SetModeByModeAndArgument :
    let q : QuarRec := { line := lineA, cause := .answerTimeout, late := false }
    (atCommand 2#8 0#32 0#32 faulted).AtCommand .setMode ∧ (atCommand 2#8 2#32 0#32 base).AtCommand .setMode ∧
    (atCommand 2#8 1#32 0#32 State.reset).AtCommand .setMode ∧ State.reset.msc.mode = .pass ∧
    (atCommand 2#8 0#32 0#32 State.reset).AtCommand .setMode ∧ (atCommand 2#8 1#32 0#32 base).AtCommand .setMode ∧
    (let s := atCommand 2#8 0#32 0#32 base
     s.AtCommand .setMode ∧ s.msc.mode = .coherent ∧ s.Quiet ∧ s.msc.sweep.phase = .stopped ∧ s.txn recallEntry = none ∧
       ∀ n, s.MovesOver n) ∧
    (let s := atCommand 2#8 0#32 0#32 ((withSet [entry 1 lineA .held .wb] base).setQuarantine [q])
     s.AtCommand .setMode ∧ s.msc.mode = .coherent ∧ s.Quiet ∧ s.msc.sweep.phase = .stopped ∧ s.txn recallEntry = none ∧
       (∀ n, s.MovesOver n) ∧ s.entryCount = 1) := by
  simp only [hypotheses_iff]
  and_intros
  all_goals first
    | decide +kernel
    | exact fun k => movesOver_of (P := fun _ => true) (by decide +kernel) k rfl

/-- FAULTED; PASS; and SWEEP and SET_MODE(PASS) with one entry of two behind a quarantined one, the channel idle and quiet, and
with an EVICT of its line claiming an entry; with entry 11 busy, its link naming a fill; and with entry 11 busy and a fill in
the recall wait list. -/
theorem test_hyp_SweepStartsWithItsFirstRecall :
    let e := entry 3 lineA .held .wt
    let f := entry 1 lineB .held .wb
    let q : QuarRec := { line := lineB, cause := .answerTimeout, late := false }
    let s := (withSet [e, f, entry 0 282#27 .reserved .wb] base).setQuarantine [q]
    let one := (withSet [e, f] base).setQuarantine [q]
    let y := Txn.fresh (.recall .displace) 282#27 .probing
    let z := Txn.fresh (.hFill 0) 538#27 .wayWait
    let linked := (s.putTxn recallEntry (some { y with link := some 10 })).putTxn 10 (some z)
    let waiting := waitingForRecall 10 ((s.putTxn recallEntry (some y)).putTxn 10 (some z))
    let meets := fun t : State => t.msc.mode = .coherent ∧ t.Quiet ∧ t.msc.sweep.phase = .stopped
    let evict := { cycle .evict .claiming 2 [2, 3] with held := fourBeats.take 2 }
    let claimed := one.setCycle (some evict)
    (atCommand 3#8 0#32 0#32 faulted).AtCommand .sweep ∧ (atCommand 3#8 0#32 0#32 State.reset).AtCommand .sweep ∧
    (∀ t ∈ [one, one.setChannel (.quiet 4), claimed, linked, waiting], (atCommand 3#8 0#32 0#32 t).AtCommand .sweep ∧
      (atCommand 2#8 0#32 0#32 t).AtCommand .setMode ∧ (atCommand 2#8 0#32 0#32 t).mg.arg0.extractLsb' 0 2 = 0#2 ∧
      meets (atCommand 3#8 0#32 0#32 t) ∧ meets (atCommand 2#8 0#32 0#32 t)) ∧
    ((∀ t ∈ [one, one.setChannel (.quiet 4)], t.DirectoryKept ∧ t.txn recallEntry = none ∧ t.atWay 107 = some e ∧
        t.Recallable e ∧ t.NoneAttaches e.line) ∧
      (∀ k : Fin 1024, k < 107 → one.MovesOver k) ∧ (∀ k : Fin 1024, k < 107 → claimed.MovesOver k) ∧
      claimed.DirectoryKept ∧ claimed.txn recallEntry = none ∧ claimed.atWay 107 = some e ∧ claimed.Recallable e ∧
      evict.line = e.line ∧ evict.taken.length ≠ 4 ∧ (evict.held.map Prod.fst).Nodup) ∧
    (linked.txn recallEntry = some { y with link := some 10 } ∧ linked.tt.recallWait = [] ∧ linked.txn 10 = some z) ∧
    waiting.txn recallEntry = some y ∧ waiting.tt.recallWait = [10] ∧ waiting.txn 10 = some z ∧ z.work.kind = .hFill ∧
      y.link = none ∧ (10 : EntryIx) ≠ recallEntry := by
  simp only [hypotheses_iff, noneAttaches_iff]
  and_intros
  all_goals first
    | decide +kernel
    | exact fun k hk => movesOver_of (P := fun n => n < 107) (by decide +kernel) k (decide_eq_true hk)

/-- A sweep of SET_MODE at its recall of set 26's one entry, which holds its line alone. -/
def swept (x : Txn) (s : State) : State :=
  let t := locked recallEntry lineA [] (withSet [entry 1 lineA .held .wb] (s.putTxn recallEntry (some x)))
  { t with msc := { t.msc with
    sweep := { t.msc.sweep with phase := .recalling, origin := .setMode, cursor := 105, pass := 1#8 } } }

/-- A bridge whose set 27 holds one entry. -/
def behind (s : State) : State := s.putSet 27#27 [entry 3 27#27 .held .wt]

/-- A RECALL of the sweep. -/
def sweepRecall (p : Phase) : Txn := { Txn.fresh (.recall .sweep) lineA p with probeMode := some .invalidate }

/-- The bridge as the sweep's RECALL leaves entry 11 and its lock. -/
def recallEnded (s : State) : State := { (s.dropLock lineA).putTxn recallEntry none with out := [] }

/-- The same when it is answered MISS. -/
def answered (s : State) : State :=
  { (recallEnded s).putSet lineA ((s.dirSet lineA).filter fun e => e.line != lineA) with
    pu := { s.pu with channel := .idle } }

/-- The same when its LINE_WRITE, the one request outstanding, completes, its cycle on the bus. -/
def completed (s : State) : State :=
  { recallEnded s with
    mp := { s.mp with outstanding := [] }, hp := { s.hp with cycle := none }, out := [.finalAck false] }

/-- A bridge that has raised one error event of the RECALL, its first. -/
def raised (k : FaultKind) (s : State) : State :=
  { s with ev := { s.ev with
    flags := s.ev.flags ||| (1#17 <<< k.event.bit)
    faults := [{ kind := k, issuer := .internal, line := lineA, txnKind := .recall, tag := none }] } }

/-- The same when its LINE_WRITE fails, its cycle dropped. -/
def failed (s : State) : State := raised .memWriteErr { recallEnded s with mp := { s.mp with outstanding := [] } }

/-- The same when its probe's answer, or its write-back, times out, the channel then as named. -/
def timedOut (w : QuarCause) (c : Channel) (s : State) : State :=
  raised .probeTimeout { recallEnded s with
    pu := { s.pu with channel := c }
    msc := { s.msc with quarantine := s.msc.quarantine ++ [{ line := lineA, cause := w, late := false }] } }

/-- The same when its entry has gone and its probe is skipped. -/
def skipped (s : State) : State := { recallEnded s with pu := { s.pu with queue := [], channel := .idle } }

/-- What evaluation decides of each of these. -/
abbrev Recalled (s u : State) (x : Txn) : Prop :=
  x.line = lineA ∧ s.txn recallEntry = some x ∧ u.txn recallEntry = none ∧ ∀ j, j ≠ recallEntry → u.txn j = s.txn j

theorem answered_ends {s : State} {x : Txn} (h : Recalled s (answered s) x ∧
    (probed s.pu.channel = some recallEntry ∧ s.pu.queue = [] ∧ s.txn recallEntry = some x ∧ x.phase = .probing ∧
      x.wbData = false) ∧ x.probeMode = some .invalidate ∧
    s.hp.cycle.all (fun c => c.standing != .attached recallEntry) = true) :
    s.SweepRecallEnds (answered s) .probeAnswerMiss x :=
  have ⟨⟨hl, hx, ht⟩, hp, hm, ha⟩ := h
  ⟨rfl, hl ▸ lockBecomes_none rfl, hx, .inl ⟨.head _, (probes_iff ..).mpr hp, hm, (notAttached_iff ..).mpr ha, ht, rfl,
    hl ▸ setBecomes_of rfl⟩⟩

theorem completed_ends {s : State} {x : Txn} (q : MemReq) (b : Cycle) (h : (x.line = lineA ∧ s.txn recallEntry = some x) ∧
    s.mp.outstanding = [q] ∧ q.txn = recallEntry ∧ q.kind = .lineWrite ∧
    (s.hp.cycle = some b ∧ b.standing = .attached recallEntry) ∧
    (completed s).txn recallEntry = none ∧
    ∀ j, j ≠ recallEntry → (completed s).txn j = (s.txn j).map (Txn.timerStarted s.pu.wbLimit.toNat)) :
    s.SweepRecallEnds (completed s) (.memCompletion (.ok data)) x :=
  have ⟨⟨hl, hx⟩, hq, hi, hk, hb, ht⟩ := h
  ⟨rfl, hl ▸ lockBecomes_none rfl, hx, .inr (.inl ⟨.ok data, q, [], true, rfl, hq, hi, hk, ⟨b, hb.1, hb.2, hx⟩, ht, rfl,
    fun _ => rfl, fun h => nomatch h⟩)⟩

theorem failed_ends {s : State} {x : Txn} (q : MemReq) (h : Recalled s (failed s) x ∧ s.mp.outstanding = [q] ∧
    q.txn = recallEntry ∧ q.kind = .lineWrite ∧ s.hp.cycle.all (fun c => c.standing != .attached recallEntry) = true ∧
    s.ev.faults = []) : s.SweepRecallEnds (failed s) (.memCompletion .error) x :=
  have ⟨⟨hl, hx, ht⟩, hq, hi, hk, ha, hf⟩ := h
  ⟨rfl, hl ▸ lockBecomes_none rfl, hx, .inr (.inl ⟨.error, q, [], false, rfl, hq, hi, hk, (notAttached_iff ..).mpr ha, ht, rfl,
    fun h => absurd rfl h,
    fun _ => by rw [hl]; exact ⟨rfl, rfl, rfl, fun _ => ⟨by rw [hf]; rfl, rfl⟩, fun h => by simp [hf] at h⟩⟩)⟩

theorem timedOut_ends {s : State} {x : Txn} {c : Instr} (w : QuarCause) (channel : Channel)
    (h : Recalled s (timedOut w channel s) x ∧ s.hp.cycle.all (fun c => c.standing != .attached recallEntry) = true ∧
      s.isQuarantined x.line = false ∧ s.msc.quarantine.length < 8 ∧
      ((probed s.pu.channel = some recallEntry ∧ c = .answerTimerExpiry ∧ w = .answerTimeout ∧
          channel = .quiet s.pu.probeLimit.toNat) ∨
        (x.wbTimer = some (.running 1) ∧ c = .wbTimerExpiry recallEntry ∧ w = .writebackTimeout ∧ channel = s.pu.channel)) ∧
      s.ev.faults = []) : s.SweepRecallEnds (timedOut w channel s) c x :=
  have ⟨⟨hl, hx, ht⟩, ha, hq, hr, hw, hf⟩ := h
  ⟨rfl, hl ▸ lockBecomes_none rfl, hx, .inr (.inr (.inl ⟨w, channel, (notAttached_iff ..).mpr ha, hq, hr,
    hw.imp (fun ⟨hp, hc⟩ => have ⟨l, m, k, hk⟩ := (probed_iff ..).mpr hp; ⟨l, m, k, hk, hc⟩)
      (fun ⟨ht, hc⟩ => ⟨⟨1, .inl ht⟩, hc⟩), ht, by rw [hl]; rfl,
    by rw [hl]; exact ⟨rfl, rfl, rfl, fun _ => ⟨by rw [hf]; rfl, rfl⟩, fun h => by simp [hf] at h⟩⟩))⟩

theorem skipped_ends {s : State} {x : Txn} (n : Nat) (h : Recalled s (skipped s) x ∧ s.pu.channel = .quiet n ∧
    s.pu.queue = [recallEntry] ∧ s.isHeld x.line = false) : s.SweepRecallEnds (skipped s) .quietTimerExpiry x :=
  have ⟨⟨hl, hx, ht⟩, hc, hq, hh⟩ := h
  ⟨rfl, hl ▸ lockBecomes_none rfl, hx, .inr (.inr (.inr ⟨n, rfl, hc, hq, hh, ht, rfl⟩))⟩

/-- The sweep's recall is answered MISS, with nothing behind its entry, or with an entry of set 27. -/
theorem test_hyp_SweepGoesOnToItsEnd :
    let s := swept (sweepRecall .probing) (probing recallEntry .invalidate base)
    let t := behind s
    (s.Running ∧ s.msc.mode = .coherent ∧ s.msc.sweep.phase = .recalling ∧ s.tt.recallWait = [] ∧
      (∀ p, (s.port p).state ≠ .draining) ∧ s.msc.sweep.passedOver = 0 ∧ s.msc.sweep.cursor = 105) ∧
    (∀ z ∈ [s, t], z.DirectoryKept ∧ z.HoldsAlone recallEntry lineA) ∧ (answered s).pu.queue = [] ∧
    (∀ k, (105 : Fin 1024) < k → (answered s).MovesOver k) ∧
    (∀ k, (105 : Fin 1024) < k → k < 111 → (answered t).MovesOver k) ∧
    (answered t).atWay 111 = some (entry 3 27#27 .held .wt) ∧ (answered t).Recallable (entry 3 27#27 .held .wt) ∧
    (answered t).NoneAttaches 27#27 ∧
    s.SweepRecallEnds (answered s) .probeAnswerMiss (sweepRecall .probing) ∧
    t.SweepRecallEnds (answered t) .probeAnswerMiss (sweepRecall .probing) := by
  simp only [hypotheses_iff, noneAttaches_iff]
  refine ⟨?_, ?_, ?_, ?_, ?_, ?_, ?_, ?_, answered_ends ?_, answered_ends ?_⟩
  all_goals first
    | decide +kernel
    | exact fun k hk hn => movesOver_of (P := fun n => 105 < n && n < 111) (by decide +kernel) k
        (Bool.and_eq_true_iff.mpr ⟨decide_eq_true hk, decide_eq_true hn⟩)
    | exact fun k hk => movesOver_of (P := fun n => 105 < n) (by decide +kernel) k (decide_eq_true hk)

/-- Its LINE_WRITE completes, its cycle on the bus, and fails, its cycle dropped; its probe's answer times out; and its
write-back does, the channel idle, and with another's probe outstanding. -/
theorem test_hyp_SweepGoesOnToItsEnd_ends :
    let sent := { sweepRecall .memBusy with wbData := true }
    let late := { sweepRecall .wbWait with wbTimer := some (.running 1) }
    let c := cycle .probeWb (.attached recallEntry) 3 [0, 1, 2, 3]
    let fed := swept sent ((outstanding recallEntry .lineWrite base).setCycle (some c))
    let dropped := swept sent (outstanding recallEntry .lineWrite base)
    let silent := swept (sweepRecall .probing) (probing recallEntry .invalidate base)
    let lost := swept late base
    let busy := swept late ((withTxn 6 (.rRead 1 3 0 8) 7#27 .probing base).setChannel (.outstanding 6 7#27 .keep 5))
    (∀ s ∈ [fed, dropped, silent, lost, busy], s.Running ∧ s.DirectoryKept ∧ s.HoldsAlone recallEntry lineA ∧
      s.msc.mode = .coherent ∧ s.msc.sweep.phase = .recalling ∧ s.tt.recallWait = [] ∧
      (∀ p, (s.port p).state ≠ .draining) ∧ s.msc.sweep.passedOver = 0 ∧ s.msc.sweep.cursor = 105) ∧
    (∀ p ∈ [(completed fed, completed (behind fed)), (failed dropped, failed (behind dropped)),
        (timedOut .answerTimeout (.quiet 16) silent, timedOut .answerTimeout (.quiet 16) (behind silent)),
        (timedOut .writebackTimeout .idle lost, timedOut .writebackTimeout .idle (behind lost)),
        (timedOut .writebackTimeout busy.pu.channel busy, timedOut .writebackTimeout busy.pu.channel (behind busy))],
      (p.1.pu.channel ≠ .idle ∨ p.1.pu.queue = []) ∧
      (∀ q ∈ p.1.pd.sets.toList.zipIdx, ∀ e ∈ q.1, 4 * q.2 + e.way.val ≤ 105) ∧
      p.2.atWay 111 = some (entry 3 27#27 .held .wt) ∧ p.2.Recallable (entry 3 27#27 .held .wt) ∧ p.2.NoneAttaches 27#27) ∧
    fed.SweepRecallEnds (completed fed) (.memCompletion (.ok data)) sent ∧
    dropped.SweepRecallEnds (failed dropped) (.memCompletion .error) sent ∧
    silent.SweepRecallEnds (timedOut .answerTimeout (.quiet 16) silent) .answerTimerExpiry (sweepRecall .probing) ∧
    lost.SweepRecallEnds (timedOut .writebackTimeout .idle lost) (.wbTimerExpiry recallEntry) late ∧
    busy.SweepRecallEnds (timedOut .writebackTimeout busy.pu.channel busy) (.wbTimerExpiry recallEntry) late := by
  let q : MemReq := { txn := recallEntry, kind := .lineWrite, line := lineA, mask := 0#32 }
  simp only [hypotheses_iff, noneAttaches_iff]
  refine ⟨?_, ?_, completed_ends q (cycle .probeWb (.attached recallEntry) 3 [0, 1, 2, 3]) ?_, failed_ends q ?_,
    timedOut_ends _ _ ?_, timedOut_ends _ _ ?_, timedOut_ends _ _ ?_⟩
  all_goals decide +kernel

/-- Its entry gone, it is skipped at the end of the quiet period. -/
theorem test_hyp_SweepGoesOnToItsEnd_skip :
    let s := (((swept (sweepRecall .probeQueued) base).putSet lineA []).setChannel (.quiet 1)).setQueue [recallEntry]
    let t := behind s
    (s.Running ∧ s.msc.mode = .coherent ∧ s.msc.sweep.phase = .recalling ∧ s.tt.recallWait = [] ∧
      (∀ p, (s.port p).state ≠ .draining) ∧ s.msc.sweep.passedOver = 0 ∧ s.msc.sweep.cursor = 105) ∧
    (∀ z ∈ [s, t], z.DirectoryKept ∧ z.HoldsAlone recallEntry lineA) ∧ (skipped s).pu.queue = [] ∧
    (∀ q ∈ (skipped s).pd.sets.toList.zipIdx, q.1 = []) ∧
    (skipped t).atWay 111 = some (entry 3 27#27 .held .wt) ∧ (skipped t).Recallable (entry 3 27#27 .held .wt) ∧
    (skipped t).NoneAttaches 27#27 ∧
    s.SweepRecallEnds (skipped s) .quietTimerExpiry (sweepRecall .probeQueued) ∧
    t.SweepRecallEnds (skipped t) .quietTimerExpiry (sweepRecall .probeQueued) := by
  simp only [hypotheses_iff, noneAttaches_iff]
  refine ⟨?_, ?_, ?_, ?_, ?_, ?_, ?_, skipped_ends 1 ?_, skipped_ends 1 ?_⟩
  all_goals decide +kernel

/-- A sweep that meets one RESERVED entry; the release of a line while it waits, and in the middle of a pass; and the last
recall of a pass that has passed an entry over, with an event before it and with none. -/
theorem test_hyp_SweepPassesOverAndComesBack :
    let e := entry 1 lineA .held .wb
    (let s := atCommand 3#8 0#32 0#32 (withSet [entry 1 lineA .reserved .wb] base)
     s.AtCommand .sweep ∧ s.msc.mode = .coherent ∧ s.Quiet ∧ s.msc.sweep.phase = .stopped ∧ s.txn recallEntry = none ∧
       (∀ j : SetIx, j ≠ 26 → s.pd.sets[j.val] = []) ∧ s.pd.sets[(26 : SetIx).val] = [entry 1 lineA .reserved .wb] ∧
       s.isQuarantined lineA = false) ∧
    (let x := { Txn.fresh (.hRead 2 0x0F#8) lineA .memBusy with abandoned := true }
     let s0 := withSet [e] (outstanding 3 .lineRead (locked 3 lineA [] (base.putTxn 3 (some x))))
     let s : State := { s0 with msc := { s0.msc with sweep := { s0.msc.sweep with phase := .waiting, passedOver := 1 } } }
     let t1 := s0.putTxn recallEntry (some (Txn.fresh (.recall .sweep) lineB .memBusy))
     let t : State := { t1 with msc := { t1.msc with sweep := { t1.msc.sweep with phase := .recalling, passedOver := 1 } } }
     s.Running ∧ (∀ p, (s.port p).state ≠ .draining) ∧
       s.mp.outstanding = { txn := 3, kind := .lineRead, line := lineA, mask := 0#32 } :: [] ∧ s.txn 3 = some x ∧
       s.HoldsAlone 3 x.line ∧ s.pu.queue = [] ∧ s.msc.mode = .coherent ∧ s.msc.sweep.phase = .waiting ∧
       s.txn recallEntry = none ∧ s.pu.channel = .idle ∧ (∀ j : SetIx, j ≠ 26 → s.pd.sets[j.val] = []) ∧
       s.pd.sets[(26 : SetIx).val] = [e] ∧ setOf e.line = 26 ∧ s.isQuarantined e.line = false ∧ s.NoneAttaches e.line ∧
       (1#8 : BitVec 8).toNat = min 255 (s.msc.sweep.pass.toNat + 1) ∧ t.txn 3 = some x ∧ t.HoldsAlone 3 x.line ∧
       t.msc.sweep.phase = .recalling ∧ t.msc.sweep.passedOver ≠ 0 ∧ (t.txn recallEntry).isSome = true) ∧
    (let x := Txn.fresh (.recall .sweep) lineA .probing
     let f := entry 0 lineB .held .wb
     let s0 := locked recallEntry lineA [] (probing recallEntry .invalidate (withSet [f, e] (base.putTxn recallEntry (some x))))
     let s : State := { s0 with msc := { s0.msc with
       sweep := { s0.msc.sweep with phase := .recalling, cursor := 105, pass := 255#8, passedOver := 1, stirred := true } } }
     s.Running ∧ s.DirectoryKept ∧ s.Probes recallEntry x ∧ s.NotAttached recallEntry ∧ s.HoldsAlone recallEntry x.line ∧
       s.atWay s.msc.sweep.cursor = some e ∧ (∀ k, s.msc.sweep.cursor < k → s.MovesOver k) ∧
       (104 : Fin 1024) < s.msc.sweep.cursor ∧ (∀ k : Fin 1024, k < 104 → s.MovesOver k) ∧ s.atWay 104 = some f ∧
       (f.state = .held ∧ s.isLocked f.line = false ∧ s.isQuarantined f.line = false) ∧ s.NoneAttaches f.line ∧
       (255#8 : BitVec 8).toNat = min 255 (s.msc.sweep.pass.toNat + 1)) := by
  simp only [hypotheses_iff, probes_iff, noneAttaches_iff, notAttached_iff]
  and_intros
  all_goals first
    | decide +kernel
    | exact fun k hk => movesOver_of (P := fun n => n < 104) (by decide +kernel) k (decide_eq_true hk)
    | exact fun k hk => movesOver_of (P := fun n => 105 < n) (by decide +kernel) k (decide_eq_true hk)

theorem test_hyp_ResumeAndRelease :
    let seven : List QuarRec := (List.range 7).map fun n => { line := BitVec.ofNat 27 n, cause := .answerTimeout, late := false }
    let eight : List QuarRec := (List.range 8).map fun n => { line := BitVec.ofNat 27 n, cause := .answerTimeout, late := false }
    let q : QuarRec := { line := lineA, cause := .answerTimeout, late := true }
    ((atCommand 4#8 0#32 0#32 (faulted.setQuarantine seven)).AtCommand .resume ∧ seven.length < 8 ∧
      (atCommand 4#8 0#32 0#32 (faulted.setQuarantine eight)).AtCommand .resume ∧ 8 ≤ eight.length ∧
      (atCommand 4#8 0#32 0#32 base).AtCommand .resume) ∧
    ((atCommand 5#8 8#32 0#32 base).AtCommand .release ∧ (atCommand 5#8 7#32 0#32 base).AtCommand .release ∧
      (atCommand 5#8 7#32 0#32 (base.setQuarantine (List.replicate 7 q))).AtCommand .release ∧
      (let s := atCommand 5#8 7#32 0#32 (base.setQuarantine (List.replicate 8 q))
       s.AtCommand .release ∧ s.msc.quarantine = List.replicate 7 q ++ q :: [] ∧ (List.replicate 7 q).length = 7)) := by
  simp only [hypotheses_iff]
  and_intros <;> decide +kernel

/-- Port 4; port 3 DISABLED; port 1 ENABLED with two requests queued and no transaction in the table; and with the second of
its requests for the line of its transaction. -/
theorem test_hyp_PortDisableAndPortEnable :
    let a := request 6 (.read 0 8)
    let b : Accepted := { tag := 7, line := lineB, work := .read 0 8 }
    (atCommand 6#8 4#32 0#32 base).AtCommand .portDisable ∧
    (let s := atCommand 6#8 3#32 0#32 (base.setPortState 3 .disabled)
     s.AtCommand .portDisable ∧ (s.port 3).state = .disabled) ∧
    (let s := atCommand 6#8 1#32 0#32 (queued [a, b] base)
     s.AtCommand .portDisable ∧ (s.port 1).state = .enabled ∧ s.Quiet ∧ (s.port 1).ingress = [a, b] ++ [] ∧
       ∀ i x, s.txn i = some x → x.work.port? ≠ some 1) ∧
    (let s := atCommand 6#8 1#32 0#32 (queued [b, a] (withTxn 3 (.rRead 1 2 0 8) lineA .memBusy base))
     s.AtCommand .portDisable ∧ (s.port 1).state = .enabled ∧ s.Quiet ∧ (s.port 1).ingress = [b] ++ [a] ∧
       s.txn 3 = some (Txn.fresh (.rRead 1 2 0 8) lineA .memBusy) ∧
       ∀ r ∈ [b], ∀ i x, s.txn i = some x → x.work.port? = some 1 → x.line ≠ r.line) ∧
    (atCommand 7#8 4#32 0#32 base).AtCommand .portEnable ∧ (atCommand 7#8 3#32 0#32 base).AtCommand .portEnable ∧
    (atCommand 7#8 3#32 0#32 (base.setPortState 3 .disabled)).AtCommand .portEnable := by
  simp only [hypotheses_iff, ← Option.mem_def]
  and_intros <;> decide +kernel

/-- The completion of a DRAINING port's R_READ: its last transaction, two requests queued; and with another of its transactions
left, whose line the second request is for. -/
theorem test_hyp_PortDisableAndPortEnable_drain :
    let a := request 6 (.read 0 8)
    let b : Accepted := { tag := 7, line := lineB, work := .read 0 8 }
    let x := Txn.fresh (.rRead 1 2 24 8) lineA .memBusy
    let y := Txn.fresh (.rWrite 1 3 1#32 data) lineB .memWait
    let s := (queued [a, b] (locked 3 lineA [] (outstanding 3 .lineRead (base.putTxn 3 (some x))))).setPortState 1 .draining
    let t := s.putTxn 10 (some y)
    (∀ z ∈ [s, t], z.Running ∧ ((z.txn recallEntry).isSome ∨ (z.msc.sweep.phase = .stopped ∧ z.tt.recallWait = [])) ∧
      (z.pu.channel ≠ .idle ∨ z.msc.mode = .faulted ∨ z.pu.queue = []) ∧
      (z.msc.sweep.phase = .stopped ∨ (z.msc.sweep.phase ≠ .waiting ∧ z.msc.sweep.passedOver = 0)) ∧
      (z.port 1).state = .draining ∧ (∀ p, p ≠ 1 → (z.port p).state ≠ .draining) ∧
      z.mp.outstanding = { txn := 3, kind := .lineRead, line := lineA, mask := 0#32 } :: [] ∧ z.txn 3 = some x ∧
      z.HoldsAlone 3 x.line) ∧
    ((s.port 1).ingress = [a, b] ++ [] ∧ ∀ i, i ≠ 3 → ∀ v, s.txn i = some v → v.work.port? ≠ some 1) ∧
    ((t.port 1).ingress = [a] ++ [b] ∧ t.txn 10 = some y ∧ y.work.port? = some 1 ∧ y.line = b.line ∧
      ∀ r ∈ [a], ∀ i, i ≠ 3 → ∀ v, t.txn i = some v → v.work.port? = some 1 → v.line ≠ r.line) := by
  simp only [hypotheses_iff, ← Option.mem_def]
  and_intros <;> decide +kernel

theorem test_hyp_PopFaultRemovesTheOldestRecord :
    let r : FaultRec := { kind := .malformed, issuer := .rp 0, line := lineA, txnKind := .rRead, tag := some 3 }
    let s : State := { base with ev := { base.ev with faults := [r], overflow := 255#8 } }
    (atCommand 8#8 0#32 0#32 s).AtByte (.command .popFault) ∧ s.ev.faults = r :: [] ∧
    (atCommand 8#8 0#32 0#32 base).AtByte (.command .popFault) ∧ base.mg.status.state ≠ .busy ∧
    (atCommand 8#8 0#32 0#32 (base.setStatus .busy .none)).mg.status.state = .busy := by
  simp only [hypotheses_iff]
  and_intros <;> decide +kernel

/-- The last set and way, held; a set number of 256; way 4; a transaction entry in use, one free, and entry 12. -/
theorem test_hyp_InspectionCommandsFillTheSnapshot :
    (let e := entry 3 lineA .held .wb
     let s := atCommand 0x0A#8 26#32 3#32 (withSet [entry 0 26#27 .held .wt, e] base)
     s.AtCommand .readDir ∧ s.pd.sets[(26 : SetIx).val] = [entry 0 26#27 .held .wt] ++ e :: []) ∧
    (atCommand 0x0A#8 255#32 3#32 base).AtCommand .readDir ∧ (atCommand 0x0A#8 256#32 3#32 base).AtCommand .readDir ∧
    (atCommand 0x0A#8 255#32 4#32 base).AtCommand .readDir ∧
    (let s := atCommand 0x0B#8 11#32 0#32 (withTxn 11 (.recall .sweep) lineA .probing base)
     s.AtCommand .readTt ∧ s.txn 11 = some (Txn.fresh (.recall .sweep) lineA .probing)) ∧
    (atCommand 0x0B#8 11#32 0#32 base).AtCommand .readTt ∧ (atCommand 0x0B#8 12#32 0#32 base).AtCommand .readTt := by
  simp only [hypotheses_iff]
  and_intros <;> decide +kernel

theorem test_hyp_ClearCountersUnknownAndBusyCommands :
    (atCommand 9#8 0#32 0#32 base).AtCommand .clearCounters ∧ (atCommand 0#8 0#32 0#32 base).AtCommand .unknown ∧
    (atCommand 0x0C#8 0#32 0#32 base).AtCommand .unknown ∧
    (atCommand 3#8 0#32 0#32 (base.setStatus .busy .none)).AtByte (.command .sweep) ∧
    (base.setStatus .busy .none).mg.status.state = .busy := by
  simp only [hypotheses_iff]
  and_intros <;> decide +kernel

/-- Two regions that cover a line, the first of them invalid. -/
theorem test_hyp_FirstCoveringRegionSuppliesTheAttributes :
    let r : Region := { valid := true, base := 0x00010000#32, exponent := 16#6, attr := Attr.afterReset true }
    let rm : RegionMap := { regions := (Vector.replicate 8 Region.invalid).set 7 r, defaults := Attr.afterReset false }
    (rm.regions[7]).valid = true ∧ (rm.regions[7]).base.toNat / 32 ≤ (2048#27 : Line).toNat ∧
      (4095#27 : Line).toNat + 1 ≤ ((rm.regions[7]).base.toNat + 2 ^ (rm.regions[7]).exponent.toNat) / 32 ∧
      (∀ m : Fin 8, m < 7 → (rm.regions[m.val]).valid = false) := by decide +kernel

theorem test_hyp_AtomicOperationsRewriteTheirWord : (28 : Fin 32).val % 4 = 0 ∧ (24 : Fin 32).val % 8 = 0 := by decide

theorem test_hyp_FaultListKeepsTheOldestFour : base.ev.faults.length ≤ 4 ∧
    (List.replicate 4 ({ kind := .malformed, issuer := .hp, line := lineA, txnKind := .rRead, tag := none } : FaultRec)).length ≤ 4 := by
  decide +kernel

/-- Whether an outcome is a next state. -/
def isNext (o : Host.Outcome State Fault Refusal) : Bool :=
  match o with
  | .next _ => true
  | .fault _ => false
  | .refused _ => false

/-- An outcome that is a next state has one. -/
theorem next_of {o : Host.Outcome State Fault Refusal} (h : isNext o = true) : ∃ t, o = .next t := by
  cases o with
  | next t => exact ⟨t, rfl⟩
  | fault f => cases h
  | refused r => cases h

/-- A directory entry and a host cycle to work on. -/
def held : State := { withSet [entry 0 lineA .held .wb] base with pending := [.hostRead 0#32 1#8] }

/-- Whether an outcome is a next state whose outputs are as named. -/
def drives (os : List Output) (o : Host.Outcome State Fault Refusal) : Bool :=
  match o with
  | .next t => t.out == os
  | .fault _ => false
  | .refused _ => false

/-- R58: a write of a line held WB is admitted and its INVALIDATE probe goes out. -/
theorem test_probe_goes_out :
    drives [.probe lineA .invalidate]
      (exec .admissionGrant (queued [request 6 (.write 1#32 data)] (withSet [entry 0 lineA .held .wb] base))) = true := by
  decide +kernel

/-- R124: a request to a DISABLED port is refused on the handshake. -/
theorem test_refusal_goes_out :
    drives [.refusal 1 6 .portDisabled]
      (exec (.requestOffer 1 ⟨6, 0x00012340#32, .read 8⟩) (base.setPortState 1 .disabled)) = true := by decide +kernel

/-- Whether an outcome is a next state with the property. -/
def leaves (f : State → Bool) (o : Host.Outcome State Fault Refusal) : Bool :=
  match o with
  | .next t => f t
  | .fault _ => false
  | .refused _ => false

/-- R193, section 11.2: LOCK_LIMIT written with 0001_0205H, above 1023, keeps its value. -/
theorem test_lock_limit_above_its_range :
    leaves (fun t => t.hp.lockLimit == base.hp.lockLimit) (exec (.lockLimitWrite 0#8) (atOffset 0x2B#8 5#8 base)) = true := by
  decide +kernel

/-- R193: ADMIT_POLICY written with 0001_0201H keeps its value. -/
theorem test_admit_policy_above_its_range :
    leaves (fun t => t.pd.admitPolicy == .displace) (exec (.admitPolicyWrite 0#8) (atOffset 0x2F#8 1#8 base)) = true := by
  decide +kernel

/-- R62, R63: a write-back timer's expiry for an entry that is free has no effect. -/
theorem test_stale_expiry : leaves (fun t => t == base) (exec (.wbTimerExpiry 3) base) = true := by decide +kernel

/-- R63: an answer is taken with 1 µs left, and the next probe, of entry 5, goes out. The tick that follows counts that probe's
timer and takes no expiry: 16 µs from the issue less one. -/
theorem test_answer_stops_its_timer :
    let s := ((withSet [entry 0 lineB .held .wb, entry 1 lineA .held .wb]
      ((base.putTxn 3 (some { Txn.fresh (.rRead 0 1 0 8) lineA .probing with probeMode := some .keep })).putTxn 5
        (some { Txn.fresh (.rRead 1 2 0 8) lineB .probeQueued with probeMode := some .keep }))).setChannel
          (.outstanding 3 lineA .keep 1)).setQueue [5]
    leaves (fun t => leaves (fun u => probed u.pu.channel == some 5 && u.timerLeft .answer == some 15 && u.ev.flags == 0#17)
      (step t)) (exec .probeAnswerClean s) = true := by decide +kernel

/-- R72: with 1 µs left the answer timer expires on the tick: the quiet period begins and PROBE_TIMEOUT is set. -/
theorem test_answer_timer_expires_on_its_tick :
    let s := locked 3 lineA [] ((base.putTxn 3 (some (Txn.fresh (.rRead 0 1 0 8) lineA .probing))).setChannel
      (.outstanding 3 lineA .keep 1))
    leaves (fun u => u.timerLeft .quiet == some 16 && u.ev.flags == 0x4#17 && (u.txn 3).isNone) (step s) = true := by
  decide +kernel

/-- R97: a beat presented while its EVICT claims an entry is not taken, and none is acknowledged. -/
theorem test_no_beat_while_claiming :
    leaves (fun t => t.out == [] && (t.hp.cycle.map Cycle.taken) == some [])
      (exec (.hostWriteBeat 2 (Vector.replicate 8 1#8)) (withCycle .evict .claiming 0 [] base)) = true := by decide +kernel

/-- A command of each port answers a next state, for OnlyTheirCommandsChangeSettingsAndRecords and
HeldEntriesAndOutputsComeFromTheirCommands (with the two tests above, whose steps drive outputs). -/
theorem test_hyp_rules_of_the_whole_machine :
    (∃ t, exec .hrstAssert held = .next t) ∧ (∃ t, exec (.hostRead 0#32 1#8) held = .next t) ∧
    (∃ t, exec (.requestOffer 1 ⟨6, 0x00012340#32, .read 8⟩) held = .next t) ∧
    (∃ t, exec .mgTransactionEnd (atOffset 0#8 0#8 held) = .next t) ∧ ∃ t, exec .probeAnswerMiss held = .next t := by
  and_intros <;> exact next_of (by decide +kernel)

/-- A state in which each property that every step keeps holds with something to keep, and whose step answers a next state, for
EveryStepKeepsTheDirectory, EveryStepKeepsTablesAndQueuesBounded and EveryStepKeepsKindsLimitsAndPass. -/
theorem test_hyp_properties_every_step_keeps :
    held.DirectoryKept ∧ held.WithinCapacity ∧ held.KindsInPlace ∧ held.LimitsInRange ∧ held.PassIsEmpty ∧
      held.dirSet lineA = [entry 0 lineA .held .wb] ∧ ∃ t, step held = .next t := by
  have hn : ∀ i, held.txn i = none := by decide +kernel
  refine ⟨?_, by constructor <;> decide +kernel, fun i t h => ?_, by constructor <;> decide +kernel, (fun h => nomatch h),
    by decide +kernel, next_of (by decide +kernel)⟩
  · simp only [hypotheses_iff]
    decide +kernel
  · rw [hn] at h
    cases h

/-- Two transactions behind a line's holder, two fills in the recall wait list, two members of the probe queue and of the
memory waiting order, two lines quarantined, and a step that answers. -/
theorem test_hyp_EveryStepKeepsTablesAndQueuesBounded :
    let q : Line → QuarRec := fun l => { line := l, cause := .answerTimeout, late := false }
    let s0 := ((locked 3 lineA [4, 10] (lockedBySet lineB base)).setQueue [5, recallEntry]).setQuarantine [q 7#27, q 8#27]
    let s : State := { s0 with
      tt := { s0.tt with recallWait := [6, 0] }, mp := { s0.mp with waiting := [1, 2] }, pending := [.hostRead 0#32 1#8] }
    s.WithinCapacity ∧ ∃ t, step s = .next t :=
  ⟨by constructor <;> decide +kernel, next_of (by decide +kernel)⟩

/-- RP1 with one request queued, one in the table and one answered, each tag in the set, and a step that answers. -/
theorem test_hyp_EveryStepKeepsTheTags :
    let x := Txn.fresh (.rRead 1 2 0 8) lineA .memBusy
    let s0 := (base.putTxn 3 (some x)).modPort 1 fun q => { q with
      tags := ((q.tags.set 2 true).set 6 true).set 15 true
      ingress := [request 6 (.read 0 8)]
      responses := [⟨15, .ok, .none⟩] }
    let s : State := { s0 with pending := [.responseTaken 1] }
    s.TagsAccounted ∧ s.tableTags 1 = [2] ∧ ∃ t, step s = .next t :=
  ⟨by unfold State.TagsAccounted; decide +kernel, by decide +kernel, next_of (by decide +kernel)⟩

end Sys2Proof.Tests
end

section
/-! SUPPORT. Proofs about the region map: how a line's attributes are resolved (R81, R82), what a command taken at the
highest byte of COMMAND does to the management port (R193, R195), and WRITE_REGION (R84 to R86). -/

namespace Sys2Proof.Machine

/-! ### Resolution (R81, R82) -/

/-- R82: an entry can supply a line's attributes when it is valid and its range holds the line. -/
theorem Region.valid_and_covers_iff (r : Region) (l : Line) :
    (r.valid && r.covers l) = true ↔
      r.valid = true ∧ r.base.toNat / 32 ≤ l.toNat ∧ l.toNat + 1 ≤ (r.base.toNat + 2 ^ r.exponent.toNat) / 32 := by
  rw [Bool.and_eq_true, Region.covers, decide_eq_true_iff]

/-- R82: the entries before the first that is valid and covers the line are passed over, and so are those behind it. -/
theorem RegionMap.resolve_of_first {rm : RegionMap} {l : Line} (n : Fin 8)
    (hn : (rm.regions[n.val].valid && rm.regions[n.val].covers l) = true)
    (hfirst : ∀ m : Fin 8, m < n → ¬ (rm.regions[m.val].valid && rm.regions[m.val].covers l) = true) :
    rm.resolve l = rm.regions[n.val].attr := by
  have hfind : rm.regions.toList.find? (fun r => r.valid && r.covers l) = some rm.regions[n.val] := by
    refine List.find?_eq_some_iff_getElem.mpr ⟨hn, n.val, by simp, by simp, fun j hj => ?_⟩
    have hj8 : j < 8 := hj.trans n.isLt
    rw [Bool.not_eq_true', Vector.getElem_toList]
    exact Bool.eq_false_iff.mpr (hfirst ⟨j, hj8⟩ hj)
  rw [RegionMap.resolve, hfind]

/-- R82: a line no valid entry covers has the default attributes. -/
theorem RegionMap.resolve_of_none {rm : RegionMap} {l : Line}
    (hnone : ∀ n : Fin 8, ¬ (rm.regions[n.val].valid && rm.regions[n.val].covers l) = true) :
    rm.resolve l = rm.defaults := by
  have hfind : rm.regions.toList.find? (fun r => r.valid && r.covers l) = none := by
    refine List.find?_eq_none.mpr fun r hr => ?_
    obtain ⟨n, hn, rfl⟩ := List.mem_iff_getElem.mp hr
    simpa using hnone ⟨n, by simpa using hn⟩
  rw [RegionMap.resolve, hfind]

/-- Settles O52: the entries are examined in order, by the first match of the list. -/
theorem firstCoveringRegionSuppliesTheAttributes : Obligations.FirstCoveringRegionSuppliesTheAttributes := by
  unfold Obligations.FirstCoveringRegionSuppliesTheAttributes
  intro rm l covers
  have hcovers : ∀ n : Fin 8, (rm.regions[n.val].valid && rm.regions[n.val].covers l) = true ↔ covers n :=
    fun n => Region.valid_and_covers_iff rm.regions[n.val] l
  exact ⟨fun n hn hfirst => RegionMap.resolve_of_first n ((hcovers n).mpr hn)
      fun m hm => mt (hcovers m).mp (hfirst m hm),
    fun hnone => RegionMap.resolve_of_none fun n => mt (hcovers n).mp (hnone n)⟩

/-! ### A command taken at the highest byte of COMMAND (R193, R195) -/

/-- A command reaches its effect when the RESET pin is released. -/
theorem live_of_running {s : State} (h : s.Running) (f : State → Result) : live f s = f s.clearOut := by
  rw [live, if_neg (Bool.eq_false_iff.mp h)]

/-- R193: a byte that reaches the row it names takes its register, and uses up what is staged. -/
theorem dataByte_of_row {s : State} {row : ByteRow} (hbus : s.mg.bus = .writing) (hrow : s.mg.byteRow = row)
    (take : State → State) :
    dataByte row take s =
      .next (((take s).modMg fun m => { m with staged := Staged.empty }.advance).emit .mgAck) := by
  simp only [dataByte, hbus, if_pos hrow]

/-- R195: the byte that takes a command is that of its code. -/
theorem Management.cmdOf_commandCode {m : Management} {c : Cmd} (h : m.byteRow = .command c) :
    cmdOf m.commandCode = c := by
  unfold Management.byteRow at h
  split at h
  · cases h
  · split at h <;> cases h
    rfl

/-- R195: WRITE_REGION has one code. -/
theorem cmdOf_eq_writeRegion {code : Byte} (h : cmdOf code = .writeRegion) : code = 1#8 := by
  unfold cmdOf at h
  split at h <;> cases h
  exact BitVec.eq_of_toNat_eq ‹_›

/-- R195: the state in which a command runs: its code stands in CMD_STATUS, and nothing has been driven outward yet. -/
def State.commandTaken (s : State) : State :=
  { s with mg := { s.mg with status := { s.mg.status with code := s.mg.commandCode } }, out := [] }

/-- R195: a command that is taken runs, and the byte is acknowledged. -/
theorem commandByte_of_atCommand {s : State} {c : Cmd} (h : s.AtCommand c) (run : State → State) :
    commandByte c run s =
      .next (((run s.commandTaken).modMg fun m => { m with staged := Staged.empty }.advance).emit .mgAck) := by
  obtain ⟨⟨hrun, hbus, hrow⟩, hidle⟩ := h
  have hbusy : ¬ s.clearOut.mg.status.state = .busy := hidle
  rw [commandByte, live_of_running hrun, dataByte_of_row (s := s.clearOut) hbus hrow, State.runCommand, if_neg hbusy]
  rfl

/-- R195: a command that touches the region map alone and leaves its state and reason in CMD_STATUS. -/
theorem commandByte_of_run_eq_setStatus {s : State} {c : Cmd} {run : State → State} {rm : RegionMap}
    {state : CmdState} {reason : Reason} (h : s.AtCommand c)
    (hrun : run s.commandTaken = { s.commandTaken with rm := rm }.setStatus state reason) :
    commandByte c run s = .next { s with
      rm := rm, mg := s.mg.afterCommand s.mg.commandCode state reason, out := [.mgAck] } := by
  rw [commandByte_of_atCommand h, hrun]
  rfl

/-! ### WRITE_REGION (R84 to R86) -/

/-- R194: each policy code but 3 names a policy. -/
theorem policyOf_of_ne_three {p : Nat} (hlt : p < 4) (hp : p ≠ 3) :
    policyOf p = some (if p = 0 then .uncached else if p = 1 then .wt else .wb) := by
  have hcases : p = 0 ∨ p = 1 ∨ p = 2 := by omega
  rcases hcases with rfl | rfl | rfl <;> rfl

/-- R194: arguments with valid 1 and a policy that is not 3 spell a valid region, field by field. -/
theorem Management.regionArg_of_ne_three {m : Management} (hv : m.arg0.getLsbD 4 = true)
    (hp : (m.arg0.extractLsb' 11 2).toNat ≠ 3) :
    m.regionArg = some
      { valid := true, base := m.arg1, exponent := m.arg0.extractLsb' 5 6,
        attr :=
          { policy := if (m.arg0.extractLsb' 11 2).toNat = 0 then .uncached
              else if (m.arg0.extractLsb' 11 2).toNat = 1 then .wt else .wb,
            coherent := m.arg0.getLsbD 13, writers := m.arg0.extractLsb' 14 4, atomics := m.arg0.getLsbD 18 } } := by
  rw [Management.regionArg, policyOf_of_ne_three (BitVec.isLt _) hp, hv]
  rfl

/-- R85: the checks of policy, size and base, on the arguments: a well formed region that they spell passes all. -/
theorem Management.checks_of_regionArg_wellFormed {m : Management} {r : Region} (harg : m.regionArg = some r)
    (hr : r.wellFormed = true) :
    12 ≤ (m.arg0.extractLsb' 5 6).toNat ∧ (m.arg0.extractLsb' 5 6).toNat ≤ 32 ∧
      m.arg1.toNat % 2 ^ (m.arg0.extractLsb' 5 6).toNat = 0 ∧ (m.arg0.extractLsb' 11 2).toNat ≠ 3 := by
  obtain ⟨p, hp, rfl⟩ := Option.map_eq_some_iff.mp harg
  obtain ⟨hlo, hhi, hbase⟩ := of_decide_eq_true hr
  refine ⟨hlo, hhi, hbase, fun h3 => ?_⟩
  rw [h3] at hp
  cases hp

/-- R85: an entry number above 7. -/
theorem State.cmdWriteRegion_of_index {s : State} (h : 7 < s.mg.index) :
    s.cmdWriteRegion = s.refuseCommand .badIndex := by
  rw [State.cmdWriteRegion, dif_neg (by omega)]

/-- R86: valid 0. -/
theorem State.cmdWriteRegion_of_invalid {s : State} (h : s.mg.index < 8) (hv : s.mg.arg0.getLsbD 4 = false) :
    s.cmdWriteRegion = (s.putRegion ⟨s.mg.index, h⟩ Region.invalid).commandDone := by
  rw [State.cmdWriteRegion, dif_pos h, if_neg (Bool.eq_false_iff.mp hv)]

/-- R85: arguments that spell no region, or one whose size or base is wrong. -/
theorem State.cmdWriteRegion_of_illFormed {s : State} (h : s.mg.index < 8) (hv : s.mg.arg0.getLsbD 4 = true)
    (hr : ∀ r, s.mg.regionArg = some r → r.wellFormed = false) :
    s.cmdWriteRegion = s.refuseCommand .badRegion := by
  rw [State.cmdWriteRegion, dif_pos h, if_pos hv]
  cases harg : s.mg.regionArg with
  | none => rfl
  | some r => exact if_neg (Bool.eq_false_iff.mp (hr r harg))

/-- R84: arguments that spell a well formed region. -/
theorem State.cmdWriteRegion_of_wellFormed {s : State} {r : Region} (h : s.mg.index < 8)
    (hv : s.mg.arg0.getLsbD 4 = true) (harg : s.mg.regionArg = some r) (hr : r.wellFormed = true) :
    s.cmdWriteRegion = (s.putRegion ⟨s.mg.index, h⟩ r).commandDone := by
  rw [State.cmdWriteRegion, dif_pos h, if_pos hv, harg]
  exact if_pos hr

/-- Settles O42, case by case of the checks of R85 in their order. -/
theorem writeRegionReplacesOrRefuses : Obligations.WriteRegionReplacesOrRefuses := by
  unfold Obligations.WriteRegionReplacesOrRefuses
  intro s b n k p hs hn hk hp
  subst hn hk hp
  have hcode : s.mg.commandCode = 1#8 := cmdOf_eq_writeRegion (Management.cmdOf_commandCode hs.byte.row)
  rw [← hcode]
  refine ⟨fun h7 => ?badIndex, fun h8 =>
    ⟨fun hv => ?invalid, fun hv hbad => ?badRegion, fun hv hlo hhi hbase hpol => ?taken⟩⟩
  case badIndex => exact commandByte_of_run_eq_setStatus hs (State.cmdWriteRegion_of_index (s := s.commandTaken) h7)
  case invalid => exact commandByte_of_run_eq_setStatus hs (State.cmdWriteRegion_of_invalid (s := s.commandTaken) h8 hv)
  case badRegion =>
    refine commandByte_of_run_eq_setStatus hs (State.cmdWriteRegion_of_illFormed (s := s.commandTaken) h8 hv
      fun r harg => Bool.eq_false_iff.mpr fun hr => ?_)
    obtain ⟨hlo, hhi, hbase, hpol⟩ := Management.checks_of_regionArg_wellFormed (m := s.mg) harg hr
    rcases hbad with h | h | h | h
    · exact absurd hlo (Nat.not_le_of_lt h)
    · exact absurd hhi (Nat.not_le_of_lt h)
    · exact h hbase
    · exact hpol h
  case taken =>
    exact commandByte_of_run_eq_setStatus hs (State.cmdWriteRegion_of_wellFormed (s := s.commandTaken) h8 hv
      (Management.regionArg_of_ne_three (m := s.mg) hv hpol) (decide_eq_true ⟨hlo, hhi, hbase⟩))

end Sys2Proof.Machine
end

section
/-! SUPPORT. Proofs about the requester ports: what reporting an error does to the event unit (R182, R186, R187), which
requests have a well-formed shape (R123), and the refusals of the request handshake (R121 to R124). -/

namespace Sys2Proof.Machine

/-! ### Reporting an error (R182, R187) -/

/-- R187: the overflow count rises by 1 up to 255. -/
theorem toNat_bumpOverflow (n : BitVec 8) : (bumpOverflow n).toNat = min 255 (n.toNat + 1) := by
  unfold bumpOverflow
  split
  · subst n; rfl
  · bv_omega

/-- R182, R187: an error event touches the event unit alone, and there sets its flag and stores or counts its record. -/
theorem State.exists_reportError (s : State) (r : FaultRec) :
    ∃ e, s.reportError r = { s with ev := e } ∧ s.ev.Reported r e := by
  rcases (s.raise r.kind.event).handRecord_cases r with ⟨hroom, hstored⟩ | ⟨hfull, hcounted⟩
  · exact ⟨_, hstored, rfl, rfl, rfl, fun _ => ⟨rfl, rfl⟩, fun h => absurd hroom (Nat.not_lt_of_le h)⟩
  · exact ⟨_, hcounted, rfl, rfl, rfl, fun h => absurd h (Nat.not_lt_of_le hfull), fun _ => ⟨rfl, toNat_bumpOverflow _⟩⟩

/-- R182: a command whose whole effect is to report one error and to drive one output. -/
theorem exists_next_of_reportError_emit {s : State} {c : Instr} {r : FaultRec} {o : Output}
    (h : exec c s = .next ((s.clearOut.reportError r).emit o)) :
    ∃ t, exec c s = .next t ∧ t = { s with ev := t.ev, out := [o] } ∧ s.ev.Reported r t.ev := by
  obtain ⟨e, he, hreported⟩ := s.clearOut.exists_reportError r
  rw [he] at h
  exact ⟨_, h, rfl, hreported⟩

/-! ### The shape of a request (R123) -/

/-- R123: a READ of at least one byte, within the line. -/
theorem acceptedOf_read_eq_none_iff {r : Request} {n : Nat} (h : r.body = .read n) :
    acceptedOf r = none ↔ n = 0 ∨ 32 < n ∨ 32 < (offsetOf r.addr).val + n := by
  simp only [acceptedOf, h, ite_eq_left_iff, reduceCtorEq, imp_false, not_not]

/-- R123: a WRITE of at least one byte. -/
theorem acceptedOf_write_eq_none_iff {r : Request} {m : LineMask} {d : LineData} (h : r.body = .write m d) :
    acceptedOf r = none ↔ m = 0#32 := by
  simp [acceptedOf, h]

/-- R123: an atomic whose operation is none of the three. -/
theorem acceptedOf_eq_none_of_noOperation {r : Request} (h : r.body = .atomic none) : acceptedOf r = none := by
  rw [acceptedOf, h]

/-- R123: an atomic at a multiple of its word's width. -/
theorem acceptedOf_atomic_eq_none_iff {r : Request} {op : AtomicOp} (h : r.body = .atomic (some op)) :
    acceptedOf r = none ↔ (offsetOf r.addr).val % atomicWidth op ≠ 0 := by
  simp [acceptedOf, h, atomicAligned]

/-! ### The refusals of the request handshake (R121 to R124) -/

/-- R121: check 1 is that of the port's state; a port that is not ready makes no other. -/
theorem exec_requestOffer_of_running {s : State} (hs : s.Running) (p : PortIx) (r : Request) :
    exec (.requestOffer p r) s =
      if (s.port p).state ≠ .enabled then .next (s.clearOut.emit (.refusal p r.tag .portDisabled))
      else if 8 ≤ (s.port p).ingress.length then .next s.clearOut
      else .next (s.clearOut.checkRequest p r) := by
  rw [exec, execRequestOffer, live_of_running hs]
  rfl

/-- R121: a port that is not ENABLED answers PORT_DISABLED, and nothing else happens. -/
theorem exec_requestOffer_of_notEnabled {s : State} {p : PortIx} {r : Request} (hs : s.Running)
    (h : (s.port p).state ≠ .enabled) :
    exec (.requestOffer p r) s = .next { s with out := [.refusal p r.tag .portDisabled] } :=
  (exec_requestOffer_of_running hs p r).trans (if_pos h)

/-- R121: a port that is ENABLED and ready makes the checks behind the first. -/
theorem exec_requestOffer_of_ready {s : State} {p : PortIx} {r : Request} (hs : s.Running)
    (h : (s.port p).state = .enabled) (hready : (s.port p).ingress.length < 8) :
    exec (.requestOffer p r) s = .next (s.clearOut.checkRequest p r) := by
  rw [exec_requestOffer_of_running hs, if_neg (not_not_intro h), if_neg (Nat.not_le_of_lt hready)]

/-- R122: an outstanding tag, before the shape is looked at. -/
theorem State.checkRequest_of_tagInUse {s : State} {p : PortIx} {r : Request} (h : (s.port p).tags[r.tag.val] = true) :
    s.checkRequest p r = (s.reportError (refusedRecord .tagInUse p r)).emit (.refusal p r.tag .tagInUse) :=
  if_pos h

/-- R123: a free tag, with a shape that is not well formed. -/
theorem State.checkRequest_of_malformed {s : State} {p : PortIx} {r : Request}
    (htag : (s.port p).tags[r.tag.val] = false) (hshape : acceptedOf r = none) :
    s.checkRequest p r = (s.reportError (refusedRecord .malformed p r)).emit (.refusal p r.tag .malformed) := by
  rw [State.checkRequest, if_neg (Bool.eq_false_iff.mp htag), hshape]

/-- Settles O31, check by check of R121 in their order. -/
theorem refusedRequestsAreAnsweredOnTheHandshake : Obligations.RefusedRequestsAreAnsweredOnTheHandshake := by
  unfold Obligations.RefusedRequestsAreAnsweredOnTheHandshake
  intro s p r k hs hk
  have hkind : reqKind r.body = k := by
    rw [hk]
    cases r.body <;> rfl
  subst hkind
  refine ⟨exec_requestOffer_of_notEnabled hs, fun hen hready htag => ?tagInUse, fun hen hready htag hshape => ?malformed⟩
  case tagInUse =>
    refine exists_next_of_reportError_emit (r := refusedRecord .tagInUse p r) ?_
    rw [exec_requestOffer_of_ready hs hen hready, State.checkRequest_of_tagInUse (s := s.clearOut) htag]
  case malformed =>
    have hnone : acceptedOf r = none := by
      rcases hshape with ⟨n, hb, hn⟩ | ⟨d, hb⟩ | hb | ⟨v, hb, hv⟩ | ⟨v, hb, hv⟩ | ⟨u, v, hb, hv⟩
      · exact (acceptedOf_read_eq_none_iff hb).mpr hn
      · exact (acceptedOf_write_eq_none_iff hb).mpr rfl
      · exact acceptedOf_eq_none_of_noOperation hb
      all_goals exact (acceptedOf_atomic_eq_none_iff hb).mpr hv
    refine exists_next_of_reportError_emit (r := refusedRecord .malformed p r) ?_
    rw [exec_requestOffer_of_ready hs hen hready, State.checkRequest_of_malformed (s := s.clearOut) htag hnone]

end Sys2Proof.Machine
end

section
/-! SUPPORT. Proofs about the event unit: a register taken at its highest byte, the flags that a write to EVENT_FLAGS
clears (R184), and the records that POP_FAULT removes (R188). -/

namespace Sys2Proof.Machine

/-! ### A byte that takes its register (R193, R195) -/

/-- R193: at the byte it names, a row takes its register on the running bridge, and the byte is acknowledged. -/
theorem live_dataByte_of_atByte {s : State} {row : ByteRow} (h : s.AtByte row) (take : State → State) :
    live (dataByte row take) s =
      .next (((take s.clearOut).modMg fun m => { m with staged := Staged.empty }.advance).emit .mgAck) := by
  obtain ⟨hrun, hbus, hrow⟩ := h
  rw [live_of_running hrun, dataByte_of_row (s := s.clearOut) hbus hrow]

/-- R195: while CMD_STATUS reads BUSY a command does not run, and only its mark is left. -/
theorem commandByte_of_busy {s : State} {c : Cmd} (h : s.AtByte (.command c)) (hbusy : s.mg.status.state = .busy)
    (run : State → State) :
    commandByte c run s = .next { s with
      mg := { s.mg.afterByte with status := { s.mg.status with mark := true } }, out := [.mgAck] } := by
  have hmark : s.clearOut.runCommand run = s.clearOut.setMark := if_pos hbusy
  rw [commandByte, live_dataByte_of_atByte h, hmark]
  rfl

/-- R195: a command that touches the event unit alone and leaves its state and reason in CMD_STATUS. -/
theorem commandByte_of_run_eq_setEv_setStatus {s : State} {c : Cmd} {run : State → State} {e : EventUnit}
    {state : CmdState} {reason : Reason} (h : s.AtCommand c)
    (hrun : run s.commandTaken = { s.commandTaken with ev := e }.setStatus state reason) :
    commandByte c run s = .next { s with
      ev := e, mg := s.mg.afterCommand s.mg.commandCode state reason, out := [.mgAck] } := by
  rw [commandByte_of_atCommand h, hrun]
  rfl

/-! ### EVENT_FLAGS (R184) -/

/-- R193: in the value of a write-one-to-clear register, a byte not written counts as 0. -/
theorem State.clearValue_eq (s : State) (top : Byte) :
    s.clearValue top =
      top ++ s.mg.staged.b2.getD 0#8 ++ s.mg.staged.b1.getD 0#8 ++ s.mg.staged.b0.getD 0#8 := rfl

/-- R184: a flag stays set exactly when it is set and its position is not written with 1. -/
theorem State.takeEventFlags_getLsbD (s : State) (top : Byte) (k : Fin 17) :
    (s.takeEventFlags top).ev.flags.getLsbD k.val =
      (s.ev.flags.getLsbD k.val && !(s.clearValue top).getLsbD k.val) := by
  simp [State.takeEventFlags]

/-- R184: beside the flags, a write to EVENT_FLAGS leaves the event unit and every other block as they are. -/
theorem exec_eventFlagsWrite_of_atByte {s : State} (h : s.AtByte .eventFlags) (b : Byte) :
    exec (.eventFlagsWrite b) s = .next { s with
      ev := { s.ev with flags := (s.takeEventFlags b).ev.flags }, mg := s.mg.afterByte, out := [.mgAck] } :=
  live_dataByte_of_atByte h (State.takeEventFlags b)

/-- Settles O41, position by position. -/
theorem eventFlagsAreWriteOneToClear : Obligations.EventFlagsAreWriteOneToClear := by
  unfold Obligations.EventFlagsAreWriteOneToClear
  rintro s b v hs rfl
  refine ⟨_, exec_eventFlagsWrite_of_atByte hs b, rfl, fun k => ?_⟩
  rw [← State.clearValue_eq]
  exact s.takeEventFlags_getLsbD b k

/-! ### POP_FAULT (R188) -/

/-- R195: POP_FAULT has one code. -/
theorem cmdOf_eq_popFault {code : Byte} (h : cmdOf code = .popFault) : code = 8#8 := by
  unfold cmdOf at h
  split at h <;> cases h
  exact BitVec.eq_of_toNat_eq ‹_›

/-- R188: FAULT_OVERFLOW is set to 0 exactly with the last record. -/
theorem EventUnit.pop_eq (rest : List FaultRec) (e : EventUnit) :
    e.pop rest = { e with faults := rest, overflow := if rest = [] then 0#8 else e.overflow } := by
  cases rest <;> rfl

/-- R188: with an empty list there is nothing to remove. -/
theorem State.cmdPopFault_of_nil {s : State} (h : s.ev.faults = []) : s.cmdPopFault = s.refuseCommand .empty := by
  rw [State.cmdPopFault, h]

/-- R188: the record at the head of the list is the oldest. -/
theorem State.cmdPopFault_of_cons {s : State} {r : FaultRec} {rest : List FaultRec} (h : s.ev.faults = r :: rest) :
    s.cmdPopFault = { s with ev := s.ev.pop rest }.commandDone := by
  rw [State.cmdPopFault, h]

/-- Settles O49, by the state of CMD_STATUS and the fault list. -/
theorem popFaultRemovesTheOldestRecord : Obligations.PopFaultRemovesTheOldestRecord := by
  unfold Obligations.PopFaultRemovesTheOldestRecord
  intro s b hs
  have hcode : s.mg.commandCode = 8#8 := cmdOf_eq_popFault (Management.cmdOf_commandCode hs.row)
  rw [← hcode]
  refine ⟨fun hidle => ⟨fun r rest hlist => ?removed, fun hempty => ?empty⟩, fun hbusy => ?busy⟩
  case removed =>
    rw [← EventUnit.pop_eq]
    exact commandByte_of_run_eq_setEv_setStatus ⟨hs, hidle⟩ (State.cmdPopFault_of_cons (s := s.commandTaken) hlist)
  case empty =>
    exact commandByte_of_run_eq_setEv_setStatus ⟨hs, hidle⟩ (State.cmdPopFault_of_nil (s := s.commandTaken) hempty)
  case busy => exact commandByte_of_busy hs hbusy State.cmdPopFault

end Sys2Proof.Machine
end

section
/-! SUPPORT. What a command may do to the bridge, said once: every command but those of the RESET pin is a course of the
primitive updates below, each with the condition under which the model makes it. What every step keeps is then read off
these updates. -/

set_option Elab.async false

namespace Sys2Proof.Machine

/-! ### The primitive updates -/

/-- The outputs a command may drive; those of a probe only when `probes` holds. -/
def MayDrive (c : Instr) (probes : Prop) : Output → Prop
  | .probe _ _ => probes
  | .lineRead _ _ | .lineWrite _ _ | .maskedWrite _ _ _ => c = .memRequestAccept
  | .beat _ _ _ _ => c = .hostBeatTaken
  | .response p _ => c = .responseTaken p
  | .refusal p _ _ => ∃ r, c = .requestOffer p r
  | .retract => c = .probeAnswerDirty
  | .busError => (∃ a m, c = .hostLread a m) ∨ ∃ a m e, c = .hostLwrite a m e
  | .specialAck | .beatAck | .finalAck _ | .mgAck | .mgByte _ => True

/-- The work of an entry's transaction. -/
def State.workAt (s : State) (i : EntryIx) : Option Work := (s.txn i).map Txn.work

/-- R14, R38: a queue of general entries, each at most once. -/
def GeneralQueue (q : List EntryIx) : Prop := q.Nodup ∧ recallEntry ∉ q

/-- `Does c probes s t`: the bridge comes from `s` to `t` in the course of command `c`. -/
inductive Does (c : Instr) (probes : Prop) (s₀ : State) : State → Prop where
  | start : Does c probes s₀ s₀.clearOut
  -- outputs and events
  | emit {s} (h : Does c probes s₀ s) (o : Output) (ho : MayDrive c probes o := by trivial) : Does c probes s₀ (s.emit o)
  | raise {s} (h : Does c probes s₀ s) (e : Event) : Does c probes s₀ (s.raise e)
  | handRecord {s} (h : Does c probes s₀ s) (r : FaultRec) : Does c probes s₀ (s.handRecord r)
  | setCounters {s} (h : Does c probes s₀ s) (k : Counters) :
      Does c probes s₀ { s with ev := { s.ev with counters := k } }
  | popFault {s} (h : Does c probes s₀ s) (hc : ∃ b, c = .popFault b) {r : FaultRec} {rest : List FaultRec}
      (hf : s.ev.faults = r :: rest) : Does c probes s₀ { s with ev := s.ev.pop rest }
  | takeEventFlags {s} (h : Does c probes s₀ s) (b : Byte) (hc : c = .eventFlagsWrite b) :
      Does c probes s₀ (s.takeEventFlags b)
  | takeEventEnable {s} (h : Does c probes s₀ s) (b : Byte) (hc : c = .eventEnableWrite b) :
      Does c probes s₀ (s.takeEventEnable b)
  -- the directory
  | insertEntry {s} (h : Does c probes s₀ s) (l : Line) (w : Way) (p : EntryPolicy) (hm : s.msc.mode = .coherent) :
      Does c probes s₀ (s.insertEntry l w p)
  | reReserve {s} (h : Does c probes s₀ s) (l : Line) (p : EntryPolicy) : Does c probes s₀ (s.reReserve l p)
  | dropEntry {s} (h : Does c probes s₀ s) (l : Line) : Does c probes s₀ (s.dropEntry l)
  | holdEntry {s} (h : Does c probes s₀ s) (hc : c = .hostBeatTaken) (l : Line) :
      Does c probes s₀
        (s.putSet l ((s.dirSet l).map fun e => if e.line = l then { e with state := .held } else e))
  | flush {s} (h : Does c probes s₀ s) : Does c probes s₀ { s with pd := s.pd.flush }
  | clearDirectory {s} (h : Does c probes s₀ s) : Does c probes s₀ s.clearDirectory
  | takeAdmitPolicy {s} (h : Does c probes s₀ s) (b : Byte) (hc : c = .admitPolicyWrite b) :
      Does c probes s₀ (s.takeAdmitPolicy b)
  -- the transaction table
  | modTxn {s} (h : Does c probes s₀ s) (i : EntryIx) (f : Txn → Txn)
      (hf : ∀ t, (f t).work = t.work := by intro t; rfl) :
      Does c probes s₀ (s.modTxn i f)
  | startPendingTimers {s} (h : Does c probes s₀ s) : Does c probes s₀ s.startPendingTimers
  | freeEntry {s} (h : Does c probes s₀ s) (i : EntryIx) (hw : ∀ w, s.workAt i = some w → w.port? = none) :
      Does c probes s₀ (s.freeEntry i)
  | putTxn {s} (h : Does c probes s₀ s) (i : EntryIx) (t : Txn) (hfree : s.txn i = none) (hp : t.work.port? = none)
      (hk : t.work.kind = .recall ↔ i = recallEntry) : Does c probes s₀ (s.putTxn i (some t))
  | grant {s} (h : Does c probes s₀ s) (hc : c = .admissionGrant) (i : EntryIx) (p : PortIx) (r : Accepted)
      (rest : List Accepted) (hfree : s.txn i = none) (hi : i ≠ recallEntry) (hq : (s.port p).ingress = r :: rest) :
      Does c probes s₀ (((s.modPort p fun q => { q with ingress := rest }).setRoundRobin p).putTxn i
        (some (Txn.fresh (r.toWork p) r.line .lockWait)))
  | respond {s} (h : Does c probes s₀ s) (i : EntryIx) (code : ResultCode) : Does c probes s₀ (s.respond i code)
  | putLock {s} (h : Does c probes s₀ s) (r : LockRec) (hr : s₀.WithinCapacity → GeneralQueue r.waiters) :
      Does c probes s₀ (s.putLock r)
  | dropLock {s} (h : Does c probes s₀ s) (l : Line) : Does c probes s₀ (s.dropLock l)
  | setRecallWait {s} (h : Does c probes s₀ s) (q : List EntryIx) (hq : s₀.WithinCapacity → GeneralQueue q) :
      Does c probes s₀ { s with tt := { s.tt with recallWait := q } }
  -- the memory port
  | setWaiting {s} (h : Does c probes s₀ s) (q : List EntryIx) (hq : s.mp.waiting.Nodup → q.Nodup) :
      Does c probes s₀ { s with mp := { s.mp with waiting := q } }
  | issueRequest {s} (h : Does c probes s₀ s) (hc : c = .memRequestAccept) (i : EntryIx) (rest : List EntryIx)
      (q : MemReq) (hw : s.mp.waiting = i :: rest) (hroom : s.mp.outstanding.length < 8) :
      Does c probes s₀ { s with mp := { outstanding := s.mp.outstanding ++ [q], waiting := rest } }
  | takeOutstanding {s} (h : Does c probes s₀ s) (hc : ∃ k, c = .memCompletion k) {r : MemReq} {rest : List MemReq}
      (ho : s.mp.outstanding = r :: rest) : Does c probes s₀ { s with mp := { s.mp with outstanding := rest } }
  -- the probe unit
  | setQueue {s} (h : Does c probes s₀ s) (q : List EntryIx) (hq : s.pu.queue.Nodup → q.Nodup) :
      Does c probes s₀ (s.setQueue q)
  | setChannel {s} (h : Does c probes s₀ s) (k : Channel) : Does c probes s₀ (s.setChannel k)
  | takeProbeTimes {s} (h : Does c probes s₀ s) (b : Byte) (hc : c = .probeTimesWrite b) :
      Does c probes s₀ (s.takeProbeTimes b)
  -- the host port
  | setCycle {s} (h : Does c probes s₀ s) (k : Option Cycle) : Does c probes s₀ (s.setCycle k)
  | setLockState {s} (h : Does c probes s₀ s) (n : Option Nat) (b : Bool) (k : Option LockedKind) :
      Does c probes s₀ { s with hp := { s.hp with lockTimer := n, broken := b, lastLocked := k } }
  | joinLockSet {s} (h : Does c probes s₀ s) (l : Line) (hroom : s.hp.lockSet.length < 2) (hl : l ∉ s.hp.lockSet) :
      Does c probes s₀ { s with hp := { s.hp with lockSet := s.hp.lockSet ++ [l] } }
  | emptyLockSet {s} (h : Does c probes s₀ s) : Does c probes s₀ s.emptyLockSet
  | takeLockLimit {s} (h : Does c probes s₀ s) (b : Byte) (hc : c = .lockLimitWrite b) :
      Does c probes s₀ (s.takeLockLimit b)
  -- the requester ports
  | setPortState {s} (h : Does c probes s₀ s) (p : PortIx) (st : PortState) : Does c probes s₀ (s.setPortState p st)
  | answerHead {s} (h : Does c probes s₀ s) (p : PortIx) {r : Accepted} {rest : List Accepted} (code : ResultCode)
      (hq : (s.port p).ingress = r :: rest) :
      Does c probes s₀ ((s.modPort p fun q => { q with ingress := rest }).placeResponse p
        { tag := r.tag, result := code, data := .none })
  | accept {s} (h : Does c probes s₀ s) (p : PortIx) (a : Accepted) (hc : ∃ r, c = .requestOffer p r)
      (hfree : (s.port p).tags[a.tag.val] = false) (hroom : (s.port p).ingress.length < 8) :
      Does c probes s₀ (s.modPort p (Port.accept a))
  | deliver {s} (h : Does c probes s₀ s) (p : PortIx) (hc : c = .responseTaken p) {r : Response} {rest : List Response}
      (hq : (s.port p).responses = r :: rest) : Does c probes s₀ (s.modPort p (Port.deliver r rest))
  -- mode, sweep and quarantine
  | setSweep {s} (h : Does c probes s₀ s) (w : Sweep) : Does c probes s₀ (s.setSweep w)
  | setMode {s} (h : Does c probes s₀ s) (m : Mode) (hm : m = .pass → ∀ k : SetIx, s.pd.sets[k.val] = []) :
      Does c probes s₀ (s.setMode m)
  | addQuarantine {s} (h : Does c probes s₀ s) (q : QuarRec) (hroom : s.msc.quarantine.length < 8)
      (hq : s.isQuarantined q.line = false) : Does c probes s₀ (s.setQuarantine (s.msc.quarantine ++ [q]))
  | markLate {s} (h : Does c probes s₀ s) (l : Line) :
      Does c probes s₀ (s.setQuarantine (markLate l s.msc.quarantine))
  | eraseQuarantine {s} (h : Does c probes s₀ s) (n : Nat) (hc : ∃ b, c = .release b) :
      Does c probes s₀ (s.setQuarantine (s.msc.quarantine.eraseIdx n))
  -- the management port, the region map, the pins, the free values
  | setMg {s} (h : Does c probes s₀ s) (m : Management) : Does c probes s₀ { s with mg := m }
  | putRegion {s} (h : Does c probes s₀ s) (hc : ∃ b, c = .writeRegion b) (n : Fin 8) (r : Region) :
      Does c probes s₀ (s.putRegion n r)
  | setDefaults {s} (h : Does c probes s₀ s) (hc : ∃ b, c = .defaultAttrWrite b) (a : Attr) :
      Does c probes s₀ { s with rm := { s.rm with defaults := a } }
  | setHrst {s} (h : Does c probes s₀ s) (level : Bool) : Does c probes s₀ (s.setHrst level)
  | setFreeCount {s} (h : Does c probes s₀ s) (n : Nat) : Does c probes s₀ { s with freeCount := n }

/-! ### The work of an entry after an update -/

theorem State.workAt_putTxn (s : State) (i j : EntryIx) (t : Option Txn) :
    (s.putTxn i t).workAt j = if j = i then t.map Txn.work else s.workAt j := by
  unfold State.workAt
  rw [State.txn_putTxn]
  split <;> rfl

theorem State.workAt_modTxn (s : State) (i j : EntryIx) {f : Txn → Txn} (hf : ∀ t, (f t).work = t.work) :
    (s.modTxn i f).workAt j = s.workAt j := by
  rw [State.modTxn, State.workAt_putTxn]
  split
  · subst j
    simp [State.workAt, Option.map_map, Function.comp_def, hf]
  · rfl

theorem State.workAt_startPendingTimers (s : State) (j : EntryIx) : s.startPendingTimers.workAt j = s.workAt j := by
  simp only [State.workAt, State.txn_startPendingTimers, Option.map_map, Function.comp_def]

theorem State.workAt_freeEntry (s : State) (i j : EntryIx) :
    (s.freeEntry i).workAt j = if j = i then none else s.workAt j := State.workAt_putTxn s i j none

/-- An entry is free exactly when it has no work. -/
theorem State.txn_eq_none_iff_workAt (s : State) (i : EntryIx) : s.txn i = none ↔ s.workAt i = none := by
  simp [State.workAt]

/-! ### A response and the entry it frees -/

/-- R133: a response touches one port and one entry. -/
theorem State.respond_cases (s : State) (i : EntryIx) (code : ResultCode) :
    (s.respond i code = s ∧ s.txn i = none) ∨
    (∃ t p g, s.txn i = some t ∧ t.work.port? = some p ∧ t.work.tag? = some g ∧ s.respond i code =
      (s.placeResponse p { tag := g, result := code, data := if code = .ok then t.responseData else .none }).freeEntry i) ∨
    (∃ t, s.txn i = some t ∧ t.work.port? = none ∧ s.respond i code = s.freeEntry i) := by
  unfold State.respond
  split
  · exact .inl ⟨rfl, ‹_›⟩
  · rename_i t ht
    split
    · rename_i p g hp hg
      exact .inr (.inl ⟨t, p, g, ht, hp, hg, rfl⟩)
    · rename_i hno
      refine .inr (.inr ⟨t, ht, ?_, rfl⟩)
      cases hw : t.work <;> simp_all [Work.port?, Work.issuer, Work.tag?]

/-! ### What every course keeps: the bounds of tables and queues -/

theorem GeneralQueue.nil : GeneralQueue [] := ⟨.nil, by simp⟩

theorem GeneralQueue.filter {q : List EntryIx} (h : GeneralQueue q) (f : EntryIx → Bool) : GeneralQueue (q.filter f) :=
  ⟨h.1.filter f, fun hm => h.2 (List.mem_filter.mp hm).1⟩

theorem GeneralQueue.tail {q : List EntryIx} (h : GeneralQueue q) : GeneralQueue q.tail :=
  ⟨h.1.tail, fun hm => h.2 (List.mem_of_mem_tail hm)⟩

theorem GeneralQueue.join {q : List EntryIx} (h : GeneralQueue q) (i : EntryIx) : GeneralQueue (joinGeneral q i) :=
  joinGeneral_keeps i h

/-- R38: the wait list of a lock record. -/
theorem State.WithinCapacity.waitersOf {s : State} (h : s.WithinCapacity) {l : Line} {r : LockRec}
    (hr : s.lockOf l = some r) : GeneralQueue r.waiters :=
  (h.waiters r (List.mem_of_find?_eq_some hr)).2

theorem State.WithinCapacity.recallWaiters {s : State} (h : s.WithinCapacity) : GeneralQueue s.tt.recallWait :=
  h.recallWait.2

theorem GeneralQueue.bounded {q : List EntryIx} (h : GeneralQueue q) :
    q.length ≤ 11 ∧ q.Nodup ∧ recallEntry ∉ q := ⟨length_le_of_general h, h⟩

theorem nodup_bounded {q : List EntryIx} (h : q.Nodup) : q.length ≤ 12 ∧ q.Nodup := ⟨length_le_of_nodup h, h⟩

/-- R37: one lock record a line, whichever record is put. -/
theorem State.WithinCapacity.putLock {s : State} (h : s.WithinCapacity) {r : LockRec} (hr : GeneralQueue r.waiters) :
    (s.putLock r).WithinCapacity :=
  { h with
    locks := by
      refine List.nodup_cons.mpr ⟨fun hm => ?_, (List.filter_sublist.map _).nodup h.locks⟩
      obtain ⟨q, hq, hl⟩ := List.mem_map.mp hm
      simpa [hl] using (List.mem_filter.mp hq).2
    waiters := fun q hq => by
      rcases List.mem_cons.mp hq with rfl | hq
      · exact hr.bounded
      · exact h.waiters q (List.mem_filter.mp hq).1 }

theorem State.WithinCapacity.dropLock {s : State} (h : s.WithinCapacity) (l : Line) : (s.dropLock l).WithinCapacity :=
  { h with
    locks := (List.filter_sublist.map _).nodup h.locks
    waiters := fun q hq => h.waiters q (List.mem_filter.mp hq).1 }

theorem State.WithinCapacity.handRecord {s : State} (h : s.WithinCapacity) (r : FaultRec) :
    (s.handRecord r).WithinCapacity := by
  rcases s.handRecord_cases r with ⟨hroom, e⟩ | ⟨-, e⟩ <;> rw [e]
  · exact { h with faults := by simpa using hroom }
  · exact { h with }

/-- R125: a port's change that leaves at most 8 requests queued. -/
theorem State.WithinCapacity.modPort {s : State} (h : s.WithinCapacity) (p : PortIx) {f : Port → Port}
    (hf : (f (s.port p)).ingress.length ≤ 8) : (s.modPort p f).WithinCapacity :=
  { h with
    ingress := fun q => by
      rw [State.port_modPort]
      split
      · exact hf
      · exact h.ingress q }

theorem State.WithinCapacity.respond {s : State} (h : s.WithinCapacity) (i : EntryIx) (code : ResultCode) :
    (s.respond i code).WithinCapacity := by
  rcases s.respond_cases i code with ⟨e, -⟩ | ⟨t, p, g, -, -, -, e⟩ | ⟨t, -, -, e⟩ <;> rw [e]
  · exact h
  · have h1 (r : Response) : (s.placeResponse p r).WithinCapacity := h.modPort p (h.ingress p)
    exact { h1 _ with }
  · exact { h with }

theorem markLate_lines (l : Line) (q : List QuarRec) : (markLate l q).map QuarRec.line = q.map QuarRec.line := by
  simp only [markLate, List.map_map]
  refine List.map_congr_left fun r _ => ?_
  simp only [Function.comp_def]
  split <;> rfl

/-- R178: a line that no record names joins the table's end. -/
theorem State.nodup_addQuarantine {s : State} {q : QuarRec} (h : (s.msc.quarantine.map QuarRec.line).Nodup)
    (hq : s.isQuarantined q.line = false) : ((s.msc.quarantine ++ [q]).map QuarRec.line).Nodup := by
  rw [List.map_append, List.map_singleton]
  refine List.nodup_append.mpr ⟨h, by simp, fun a ha b hb hab => ?_⟩
  obtain ⟨r, hr, rfl⟩ := List.mem_map.mp ha
  rw [List.mem_singleton.mp hb] at hab
  exact (List.any_eq_false.mp hq r hr) (by simpa using hab)

/-- The bounds hold all along a course. -/
theorem Does.withinCapacity {c : Instr} {P : Prop} {s₀ s : State} (h : Does c P s₀ s) (h₀ : s₀.WithinCapacity) :
    s.WithinCapacity := by
  induction h with
  | start => exact { h₀ with }
  | handRecord _ r ih => exact ih.handRecord r
  | popFault _ _ hf ih =>
    have hle := ih.faults
    rw [hf, List.length_cons] at hle
    exact { ih with faults := Nat.le_of_succ_le hle }
  | insertEntry _ l w p _ ih =>
    rcases State.insertEntry_cases l w p _ with ⟨-, e⟩ | e <;> rw [e]
    · exact { ih with }
    · exact ih
  | reReserve _ l p ih =>
    unfold State.reReserve
    split
    · exact ih
    · exact { ih with }
  | dropEntry _ l ih =>
    rcases State.dropEntry_cases l _ with e | e <;> rw [e]
    · exact ih
    · exact { ih with }
  | takeAdmitPolicy _ b _ ih =>
    unfold State.takeAdmitPolicy
    split
    · exact { ih with }
    · exact ih
  | takeLockLimit _ b _ ih =>
    unfold State.takeLockLimit
    dsimp only
    split
    · exact ih
    · exact { ih with }
  | grant _ _ i p r rest _ _ hq ih =>
    have hle := ih.ingress p
    rw [hq, List.length_cons] at hle
    exact { ih.modPort p (f := fun q => { q with ingress := rest }) (Nat.le_of_succ_le hle) with }
  | respond _ i code ih => exact ih.respond i code
  | putLock _ r hr ih => exact ih.putLock (hr h₀)
  | dropLock _ l ih => exact ih.dropLock l
  | setRecallWait _ q hq ih => exact { ih with recallWait := (hq h₀).bounded }
  | setWaiting _ q hq ih => exact { ih with waiting := nodup_bounded (hq ih.waiting.2) }
  | issueRequest _ _ i rest q hw hroom ih =>
    have hn := ih.waiting.2
    rw [hw] at hn
    exact { ih with outstanding := by simpa using hroom, waiting := nodup_bounded hn.of_cons }
  | takeOutstanding _ _ ho ih =>
    have hle := ih.outstanding
    rw [ho, List.length_cons] at hle
    exact { ih with outstanding := Nat.le_of_succ_le hle }
  | setQueue _ q hq ih => exact { ih with probeQueue := nodup_bounded (hq ih.probeQueue.2) }
  | joinLockSet _ l hroom hl ih =>
    exact { ih with lockSet := ⟨by simpa using hroom, List.nodup_append.mpr
      ⟨ih.lockSet.2, by simp, fun a ha b hb hab => hl (List.mem_singleton.mp hb ▸ hab ▸ ha)⟩⟩ }
  | emptyLockSet _ ih => exact { ih with lockSet := ⟨by simp, by simp⟩ }
  | setPortState _ p st ih => exact ih.modPort p (ih.ingress p)
  | answerHead _ p code hq ih =>
    have hle := ih.ingress p
    rw [hq, List.length_cons] at hle
    have h1 := ih.modPort p (f := fun q => { q with ingress := _ }) (Nat.le_of_succ_le hle)
    exact h1.modPort p (h1.ingress p)
  | accept _ p a _ _ hroom ih => exact ih.modPort p (by simpa [Port.accept] using hroom)
  | deliver _ p _ _ ih => exact ih.modPort p (ih.ingress p)
  | addQuarantine _ q hroom hq ih =>
    exact { ih with quarantine := ⟨by simpa using hroom, State.nodup_addQuarantine ih.quarantine.2 hq⟩ }
  | markLate _ l ih =>
    exact { ih with quarantine := ⟨by simpa [Machine.markLate] using ih.quarantine.1, by
      simpa [markLate_lines] using ih.quarantine.2⟩ }
  | eraseQuarantine _ n _ ih =>
    exact { ih with quarantine := ⟨(List.length_eraseIdx_le _ n).trans ih.quarantine.1,
      ((List.eraseIdx_sublist _ n).map _).nodup ih.quarantine.2⟩ }
  | _ => rename_i ih; exact { ih with }

end Sys2Proof.Machine
end

section
/-! SUPPORT. The operations that several commands share, as courses of primitive updates: one lemma per operation. -/

set_option Elab.async false

namespace Sys2Proof.Machine

namespace Does

variable {c : Instr} {P : Prop} {s₀ s : State}

/-! ### Small operations -/

theorem reportError (h : Does c P s₀ s) (r : FaultRec) : Does c P s₀ (s.reportError r) := (h.raise _).handRecord r

theorem bump (h : Does c P s₀ s) (k : Counter) : Does c P s₀ (s.bump k) := h.setCounters _

theorem setPhase (h : Does c P s₀ s) (i : EntryIx) (p : Phase) : Does c P s₀ (s.setPhase i p) :=
  h.modTxn i _

theorem clearLink (h : Does c P s₀ s) : Does c P s₀ s.clearLink := h.modTxn recallEntry _

theorem setStatus (h : Does c P s₀ s) (a : CmdState) (r : Reason) : Does c P s₀ (s.setStatus a r) := h.setMg _

theorem endCycle (h : Does c P s₀ s) : Does c P s₀ s.endCycle := (h.setCycle none).startPendingTimers

theorem leaveQueue (h : Does c P s₀ s) (i : EntryIx) : Does c P s₀ (s.leaveQueue i) := h.setQueue _ fun hq => hq.filter _

theorem leaveMemWait (h : Does c P s₀ s) (i : EntryIx) : Does c P s₀ (s.leaveMemWait i) :=
  h.setWaiting _ fun hq => hq.filter _

theorem loadWrite_work (t : Txn) : t.loadWrite.work = t.work := by
  unfold Txn.loadWrite
  split
  · split <;> rfl
  · rfl

theorem workOnData_work (t : Txn) : t.workOnData.work = t.work := by
  unfold Txn.workOnData
  split <;> rfl

theorem toMemWait (h : Does c P s₀ s) (i : EntryIx) : Does c P s₀ (s.toMemWait i) :=
  (h.modTxn i (fun t => { t.loadWrite with phase := .memWait }) loadWrite_work).setWaiting _ (nodup_joinTail i)

theorem wakeSweep (h : Does c P s₀ s) : Does c P s₀ s.wakeSweep := by
  obtain ⟨w, e⟩ := s.wakeSweep_cases
  exact e ▸ h.setSweep w

theorem hearRelease (h : Does c P s₀ s) (i : EntryIx) : Does c P s₀ (s.hearRelease i) := by
  obtain ⟨w, e⟩ := s.hearRelease_cases i
  exact e ▸ h.setSweep w

theorem endLongOperation (h : Does c P s₀ s) : Does c P s₀ s.endLongOperation := by
  unfold State.endLongOperation
  split
  · exact h.setStatus _ _
  · exact h

theorem lockedDone (h : Does c P s₀ s) (k : LockedKind) : Does c P s₀ (s.lockedDone k) := by
  unfold State.lockedDone
  split
  · exact h
  · exact h.setLockState _ _ _

theorem startLockTimer (h : Does c P s₀ s) : Does c P s₀ s.startLockTimer := by
  unfold State.startLockTimer
  split
  · exact h
  · exact h.setLockState _ _ _

theorem leaveWaiters (h : Does c P s₀ s) (i : EntryIx) (l : Line) : Does c P s₀ (s.leaveWaiters i l) := by
  unfold State.leaveWaiters
  split
  · rename_i r hr
    exact h.putLock _ fun h₀ => ((h.withinCapacity h₀).waitersOf hr).filter _
  · exact h

theorem joinWaiters (h : Does c P s₀ s) (i : EntryIx) {l : Line} {r : LockRec} (hr : s.lockOf l = some r) :
    Does c P s₀ (s.joinWaiters i r) :=
  (h.putLock _ fun h₀ => ((h.withinCapacity h₀).waitersOf hr).join i).setPhase i _

/-! ### The directory -/

theorem removeEntry (h : Does c P s₀ s) (l : Line) : Does c P s₀ (s.removeEntry l) := by
  unfold State.removeEntry
  split
  · exact (h.dropEntry l).wakeSweep
  · exact h

theorem removeReserved (h : Does c P s₀ s) (l : Line) : Does c P s₀ (s.removeReserved l) := by
  unfold State.removeReserved
  split
  · exact h.removeEntry l
  · exact h

theorem makeHeld (h : Does c P s₀ s) (hc : c = .hostBeatTaken) (l : Line) : Does c P s₀ (s.makeHeld l) := by
  unfold State.makeHeld
  split
  · exact (h.holdEntry hc l).wakeSweep
  · exact h

theorem flushHeld (h : Does c P s₀ s) : Does c P s₀ s.flushHeld := by
  unfold State.flushHeld
  dsimp only
  by_cases e : s.pd.flush.count = s.pd.count
  · rw [if_pos e]; exact h.flush
  · rw [if_neg e]; exact h.flush.wakeSweep

/-! ### Locks, fills and the probed line -/

theorem takeLock (h : Does c P s₀ s) (i : EntryIx) (w : Work) (l : Line) {ws : List EntryIx}
    (hw : s₀.WithinCapacity → GeneralQueue ws) : Does c P s₀ (s.takeLock i w l ws) := by
  rcases s.takeLock_cases i w l ws with e | ⟨hroom, hl, e⟩ <;> rw [e]
  · exact h.putLock _ hw
  · exact (h.joinLockSet l hroom hl).putLock _ hw

theorem declineFill (h : Does c P s₀ s) (f : EntryIx) : Does c P s₀ (s.declineFill f) := (h.bump _).toMemWait f

theorem declineLinked (h : Does c P s₀ s) : Does c P s₀ s.declineLinked := by
  unfold State.declineLinked
  split
  · exact h.clearLink.declineFill _
  · exact h

theorem handOverWay (h : Does c P s₀ s) (w : Way) : Does c P s₀ (s.handOverWay w) := by
  unfold State.handOverWay
  split
  · exact h
  · dsimp only
    split
    · exact h.clearLink
    · split
      · rename_i hm
        split
        · exact (h.clearLink.insertEntry _ _ _ hm.1).toMemWait _
        · exact h.clearLink.declineFill _
      · exact h.clearLink.declineFill _

theorem removeProbed (h : Does c P s₀ s) (i : EntryIx) (l : Line) : Does c P s₀ (s.removeProbed i l) := by
  unfold State.removeProbed
  split
  · split
    · exact (h.dropEntry l).handOverWay _
    · exact h.removeEntry l
  · split
    · exact h.declineLinked
    · exact h

theorem dataTaken (h : Does c P s₀ s) (i : EntryIx) : Does c P s₀ (s.dataTaken i) := by
  unfold State.dataTaken
  split
  · exact h
  · dsimp only
    split
    · exact ((h.removeProbed i _).modTxn i (fun t => { t.workOnData with wbTimer := none }) workOnData_work).toMemWait i
    · exact (h.modTxn i (fun t => { t.workOnData with wbTimer := none }) workOnData_work).toMemWait i

theorem afterBeats (h : Does c P s₀ s) (i : EntryIx) : Does c P s₀ (s.afterBeats i) := by
  unfold State.afterBeats
  split
  · exact h
  · split
    · exact h.dataTaken i
    · exact h

theorem attach (h : Does c P s₀ s) (i : EntryIx) (k : Cycle) (bs : List (Beat × BeatData)) :
    Does c P s₀ (s.attach i k bs) := by
  unfold State.attach
  dsimp only
  split
  · exact ((((h.setCycle _).leaveQueue i).setPhase i _).modTxn i (Txn.takeBeats bs _)).afterBeats i
  · exact ((h.setCycle _).modTxn i (Txn.takeBeats bs _)).afterBeats i

/-- A host eviction that waits behind the line it attaches to is freed. -/
theorem attachWaiting (h : Does c P s₀ s) (i : EntryIx) (l : Line) : Does c P s₀ (s.attachWaiting i l) := by
  unfold State.attachWaiting
  split
  · exact h
  · split
    · split
      · exact h.attach i _ _
      · rename_i j _
        split
        · rename_i t ht
          split
          · rename_i hk
            refine ((h.leaveWaiters j l).freeEntry j fun w hw => ?_).attach i _ _
            have hj : (s.leaveWaiters j l).workAt j = some t.work := by
              unfold State.leaveWaiters
              split <;> simp [State.workAt, State.txn] <;> exact ⟨t, ht, rfl⟩
            rw [hj] at hw
            cases hw
            have hke := hk.2
            cases hw : t.work <;> simp_all [Work.kind, Work.port?, Work.issuer]
          · exact h
        · exact h
      · exact h
    · exact h

theorem enterProbeQueued (h : Does c P s₀ s) (i : EntryIx) (l : Line) (m : ProbeMode) :
    Does c P s₀ (s.enterProbeQueued i l m) :=
  ((h.modTxn i _).setQueue _ (nodup_joinTail i)).attachWaiting i l

/-- R13: a recall starts in entry 11 while that is free. -/
theorem startRecall (h : Does c P s₀ s) (k : RecallCause) (l : Line) (link : Option EntryIx)
    (hfree : s.txn recallEntry = none) : Does c P s₀ (s.startRecall k l link) :=
  (((h.putTxn recallEntry _ hfree rfl ⟨fun _ => rfl, fun _ => rfl⟩).putLock
    { line := l, holder := .txn recallEntry, waiters := [] } fun _ => GeneralQueue.nil).bump _).enterProbeQueued
    recallEntry l _

/-! ### Lookups and lock hand-off -/

theorem askRecall (h : Does c P s₀ s) (f : EntryIx) (v : DirEntry) : Does c P s₀ (s.askRecall f v) := by
  unfold State.askRecall
  dsimp only
  split
  · rename_i hfree
    exact (h.setPhase f _).startRecall _ _ _ (Option.isNone_iff_eq_none.mp hfree)
  · have h1 := h.setPhase f .wayWait
    exact h1.setRecallWait _ fun h₀ => (h1.withinCapacity h₀).recallWaiters.join f

theorem decideFill (h : Does c P s₀ s) (f : EntryIx) (l : Line) (a : Attr) : Does c P s₀ (s.decideFill f l a) := by
  unfold State.decideFill
  split
  · exact h.declineFill f
  · rename_i hd
    have hm : s.msc.mode = .coherent := by
      simp only [State.declines, Bool.or_eq_true, not_or, bne_iff_ne, ne_eq, not_not] at hd
      exact hd.1.1.1
    split
    · exact h.declineFill f
    · split
      · exact (h.reReserve _ _).toMemWait f
      · split
        · exact (h.insertEntry _ _ _ hm).toMemWait f
        · split
          · exact h.declineFill f
          · split
            · exact h.declineFill f
            · exact h.askRecall f _

theorem lookupEvict (h : Does c P s₀ s) (i : EntryIx) (l : Line) : Does c P s₀ (s.lookupEvict i l) := by
  have h1 := h.modTxn i (fun t => { t with dirResult := some (s.dirResult l) })
  unfold State.lookupEvict
  dsimp only
  split
  · have hlate := (h1.removeEntry l).markLate l
    have hq : ((s.modTxn i fun t => { t with dirResult := some (s.dirResult l) }).removeEntry l).msc.quarantine =
        s.msc.quarantine := by
      rcases State.removeEntry_cases l (s.modTxn i fun t => { t with dirResult := some (s.dirResult l) }) with e | e <;> rw [e]
      · rfl
      · obtain ⟨w, e⟩ := State.wakeSweep_cases (State.putSet (s.modTxn i fun t => { t with dirResult := some (s.dirResult l) }) l _)
        rw [e]; rfl
    rw [hq] at hlate
    exact (hlate.raise _).toMemWait i
  · split
    · exact (h1.removeEntry l).toMemWait i
    · exact (h1.bump _).toMemWait i

theorem reportRefusal (h : Does c P s₀ s) (t : Txn) (k : ResultCode) : Does c P s₀ (s.reportRefusal t k) := by
  unfold State.reportRefusal
  split
  · exact h.reportError _
  · exact h.reportError _
  · exact h

theorem lookupRequester (h : Does c P s₀ s) (i : EntryIx) (t : Txn) (p : PortIx) :
    Does c P s₀ (s.lookupRequester i t p).state := by
  unfold State.lookupRequester
  dsimp only
  split
  · exact (h.reportRefusal t _).respond i _
  · split
    · exact (h.modTxn i _).enterProbeQueued i _ _
    · exact (h.modTxn i _).toMemWait i

theorem lookup (h : Does c P s₀ s) (i : EntryIx) : Does c P s₀ (s.lookup i).state := by
  unfold State.lookup
  split
  · exact h
  · split
    · exact (h.modTxn i _).decideFill i _ _
    · exact h.lookupEvict i _
    · exact h.toMemWait i
    · exact h.toMemWait i
    · exact h.toMemWait i
    · exact h.toMemWait i
    · exact h.lookupRequester i _ _
    · exact h.lookupRequester i _ _
    · exact h.lookupRequester i _ _
    · exact h

/-- R38: the new holder is given the members behind it, which are part of a wait list. -/
theorem handOff (h : Does c P s₀ s) (l : Line) {ws : List EntryIx} (hw : s₀.WithinCapacity → GeneralQueue ws.tail) :
    Does c P s₀ (State.handOff l ws s) := by
  induction ws generalizing s with
  | nil => exact h.dropLock l
  | cons i rest ih =>
    have ht : s₀.WithinCapacity → GeneralQueue rest.tail := fun h₀ => (hw h₀).tail
    unfold State.handOff
    split
    · exact ih h ht
    · rename_i t _
      have h1 := (h.takeLock i t.work l hw).lookup i
      dsimp only
      split
      · exact ih h1.wakeSweep ht
      · exact h1

theorem releaseLock (h : Does c P s₀ s) (i : EntryIx) (l : Line) : Does c P s₀ (s.releaseLock i l) := by
  unfold State.releaseLock
  split
  · rename_i r hr
    split
    · exact (h.hearRelease i).handOff l fun h₀ => ((h.withinCapacity h₀).waitersOf hr).tail
    · exact h
  · exact h

theorem giveUpLine (h : Does c P s₀ s) (l : Line) : Does c P s₀ (s.giveUpLine l) := by
  unfold State.giveUpLine
  split
  · rename_i r hr
    split
    · exact h.wakeSweep.handOff l fun h₀ => ((h.withinCapacity h₀).waitersOf hr).tail
    · exact h
  · exact h

/-- A fold of operations each of which is a course of updates. -/
theorem foldl {α : Type} {f : State → α → State} (hf : ∀ {s}, Does c P s₀ s → ∀ a, Does c P s₀ (f s a)) (as : List α)
    (h : Does c P s₀ s) : Does c P s₀ (as.foldl f s) := by
  induction as generalizing s with
  | nil => exact h
  | cons a as ih => exact ih (hf h a)

theorem giveUpLockSet (h : Does c P s₀ s) : Does c P s₀ s.giveUpLockSet :=
  foldl (fun h l => h.giveUpLine l) _ h.emptyLockSet

theorem requestLock (h : Does c P s₀ s) (i : EntryIx) (l : Line) : Does c P s₀ (s.requestLock i l) := by
  unfold State.requestLock
  split
  · exact h.handOff l fun _ => GeneralQueue.nil
  · exact h.joinWaiters i ‹_›

theorem askLock (h : Does c P s₀ s) (i : EntryIx) (w : Work) (l : Line) : Does c P s₀ (s.askLock i w l) := by
  unfold State.askLock
  split
  · exact h.lookup i
  · exact h.requestLock i l

/-! ### The sweep and entry 11 -/

theorem stopSweep (h : Does c P s₀ s) : Does c P s₀ s.stopSweep := ((h.setSweep _).raise _).endLongOperation

/-- R1: a directory that counts no entry has every set empty. -/
theorem sets_eq_nil_of_count {d : Directory} (h : d.count = 0) (k : SetIx) : d.sets[k.val] = [] := by
  have hall := List.sum_eq_zero_iff.mp h
  exact List.length_eq_zero_iff.mp (hall _ (List.mem_map.mpr ⟨_, by simp, rfl⟩))

theorem endLongOperation_pd (s : State) : s.endLongOperation.pd = s.pd := by
  unfold State.endLongOperation
  split <;> rfl

theorem endSweep (h : Does c P s₀ s) : Does c P s₀ s.endSweep := by
  unfold State.endSweep
  dsimp only
  split
  · split
    · rename_i hcount
      refine (h.stopSweep.setMode _ fun _ k => ?_).raise _
      have hpd : s.stopSweep.pd = s.pd := endLongOperation_pd _
      rw [hpd]
      exact sets_eq_nil_of_count hcount k
    · exact h.stopSweep.raise _
  · exact h.stopSweep
  · exact h.stopSweep

theorem endSweepFaulted (h : Does c P s₀ s) : Does c P s₀ s.endSweepFaulted := by
  unfold State.endSweepFaulted
  split
  · split
    · exact h.stopSweep.raise _
    · exact h.stopSweep
    · exact h.stopSweep
  · exact h

theorem waitForEvent (h : Does c P s₀ s) (n : Nat) : Does c P s₀ (s.waitForEvent n) := (h.setSweep _).setFreeCount _

theorem examineFrom (h : Does c P s₀ s) (hfree : s.txn recallEntry = none) (pos : Nat) {rest : Nat → State → State}
    (hrest : ∀ n, Does c P s₀ (rest n s)) : Does c P s₀ (s.examineFrom pos rest) := by
  unfold State.examineFrom
  dsimp only
  split
  · exact (h.setSweep _).startRecall _ _ _ hfree
  · split
    · exact h.endSweep
    · exact hrest _

theorem passOver (h : Does c P s₀ s) (hfree : s.txn recallEntry = none) (n : Nat) : Does c P s₀ (s.passOver n) := by
  unfold State.passOver
  split
  · have h1 := h.setSweep s.msc.sweep.newPass
    exact h1.examineFrom hfree 0 fun m => h1.waitForEvent m
  · exact h.waitForEvent n

theorem advanceSweep (h : Does c P s₀ s) (hfree : s.txn recallEntry = none) (pos : Nat) :
    Does c P s₀ (s.advanceSweep pos) :=
  h.examineFrom hfree pos fun n => h.passOver hfree n

theorem serveRecallWait (h : Does c P s₀ s) {fs : List EntryIx} (hf : s₀.WithinCapacity → GeneralQueue fs) :
    Does c P s₀ (State.serveRecallWait fs s) := by
  induction fs generalizing s with
  | nil => exact h
  | cons f rest ih =>
    have ht : s₀.WithinCapacity → GeneralQueue rest := fun h₀ => (hf h₀).tail
    have h1 := h.setRecallWait rest ht
    unfold State.serveRecallWait
    dsimp only
    split
    · exact ih h1 ht
    · split
      · exact ih h1 ht
      · split
        · exact h1.decideFill f _ _
        · exact ih (h1.decideFill f _ _) ht

theorem giveEntry11 (h : Does c P s₀ s) : Does c P s₀ s.giveEntry11 := by
  unfold State.giveEntry11
  split
  · exact h
  · rename_i hfree
    have hfree : s.txn recallEntry = none := by simpa using hfree
    split
    · exact h.advanceSweep hfree _
    · exact h.advanceSweep hfree _
    · exact h
    · exact h.serveRecallWait fun h₀ => (h.withinCapacity h₀).recallWaiters

theorem port?_of_isRecall {w : Work} (h : w.isRecall = true) : w.port? = none := by
  cases w <;> simp_all [Work.isRecall, Work.port?, Work.issuer]

theorem port?_of_isHost {w : Work} (h : w.isHost = true) : w.port? = none := by
  cases w <;> simp_all [Work.isHost, Work.port?, Work.issuer]

/-- An entry whose transaction is no requester's may be freed. -/
theorem freeEntry_of_txn (h : Does c P s₀ s) {i : EntryIx} {t : Txn} (ht : s.txn i = some t) (hp : t.work.port? = none) :
    Does c P s₀ (s.freeEntry i) :=
  h.freeEntry i fun w hw => by
    simp only [State.workAt, ht, Option.map_some, Option.some.injEq] at hw
    exact hw ▸ hp

theorem endRecall (h : Does c P s₀ s) : Does c P s₀ s.endRecall := by
  unfold State.endRecall
  split
  · exact h
  · rename_i t ht
    split
    · exact ((h.freeEntry_of_txn ht (port?_of_isRecall ‹_›)).releaseLock _ _).giveEntry11
    · exact h

theorem goOnWithoutData (h : Does c P s₀ s) (i : EntryIx) : Does c P s₀ (s.goOnWithoutData i) := by
  unfold State.goOnWithoutData
  split
  · exact h
  · split
    · exact h.endRecall
    · exact h.toMemWait i

theorem afterMiss (h : Does c P s₀ s) (i : EntryIx) (b : Bool) : Does c P s₀ (s.afterMiss i b) := by
  unfold State.afterMiss
  split
  · exact h
  · split
    · exact (h.removeProbed i _).goOnWithoutData i
    · exact h.goOnWithoutData i

/-! ### The probe channel and the drain of a port -/

theorem issueProbe (h : Does c True s₀ s) (i : EntryIx) (t : Txn) (m : ProbeMode) :
    Does c True s₀ (s.issueProbe i t m) :=
  (((h.setPhase i _).setChannel _).bump _).emit _

theorem pumpProbes (h : Does c True s₀ s) (n : Nat) : Does c True s₀ (State.pumpProbes n s) := by
  induction n generalizing s with
  | zero => exact h
  | succ n ih =>
    unfold State.pumpProbes
    split
    · exact h
    · split
      · exact h
      · rename_i i rest hq
        have h1 := h.setQueue rest fun hn => by rw [hq] at hn; exact hn.of_cons
        dsimp only
        split
        · exact ih h1
        · split
          · exact h1.issueProbe _ _ _
          · refine ih ?_
            split
            · exact h1.declineLinked.goOnWithoutData _
            · exact h1.goOnWithoutData _

theorem drainQueue (h : Does c P s₀ s) (p : PortIx) {rs : List Accepted} (hq : (s.port p).ingress = rs) :
    Does c P s₀ (State.drainQueue p rs s) := by
  induction rs generalizing s with
  | nil => exact h
  | cons r rest ih =>
    unfold State.drainQueue
    split
    · exact h
    · exact ih (h.answerHead p _ hq) (by simp [State.placeResponse])

theorem drainPort (h : Does c P s₀ s) (p : PortIx) : Does c P s₀ (s.drainPort p) := by
  unfold State.drainPort
  split
  · have h1 := h.drainQueue p rfl
    dsimp only
    split
    · exact ((h1.setPortState p .disabled).raise _).endLongOperation
    · exact h1
  · exact h

theorem drainPorts (h : Does c P s₀ s) : Does c P s₀ s.drainPorts := foldl (fun h p => h.drainPort p) _ h

theorem settle (h : Does c True s₀ s) : Does c True s₀ s.settle := (h.giveEntry11.pumpProbes _).drainPorts

/-! ### Withdrawal, answers and timeouts -/

theorem withdrawFill (h : Does c P s₀ s) (i : EntryIx) (t : Txn) : Does c P s₀ (s.withdrawFill i t) := by
  unfold State.withdrawFill
  split
  · have h1 := h.removeReserved t.line
    have h2 := h1.setRecallWait ((s.removeReserved t.line).tt.recallWait.filter fun j => j != i)
      fun h₀ => (h1.withinCapacity h₀).recallWaiters.filter _
    dsimp only
    split
    · exact h2.clearLink
    · exact h2
  · exact h

theorem workAt_of_entries {s t : State} (h : t.tt.entries = s.tt.entries) (i : EntryIx) : t.workAt i = s.workAt i := by
  simp [State.workAt, State.txn, h]

theorem wakeSweep_entries (s : State) : s.wakeSweep.tt.entries = s.tt.entries := by
  obtain ⟨w, e⟩ := s.wakeSweep_cases
  rw [e]; rfl

theorem removeReserved_entries (s : State) (l : Line) : (s.removeReserved l).tt.entries = s.tt.entries := by
  unfold State.removeReserved
  split
  · rcases s.removeEntry_cases l with e | e <;> rw [e]
    rw [wakeSweep_entries]; rfl
  · rfl

theorem makeHeld_entries (s : State) (l : Line) : (s.makeHeld l).tt.entries = s.tt.entries := by
  unfold State.makeHeld
  split
  · rw [wakeSweep_entries]; rfl
  · rfl

theorem workAt_withdrawFill (s : State) (i j : EntryIx) (t : Txn) : (s.withdrawFill i t).workAt j = s.workAt j := by
  have h1 (q : List EntryIx) : State.workAt { s.removeReserved t.line with
      tt := { (s.removeReserved t.line).tt with recallWait := q } } j = s.workAt j :=
    workAt_of_entries (removeReserved_entries s t.line) j
  unfold State.withdrawFill
  split
  · dsimp only
    split
    · rw [State.clearLink, State.workAt_modTxn]
      · exact h1 _
      · exact fun _ => rfl
    · exact h1 _
  · rfl

theorem withdraw (h : Does c P s₀ s) (i : EntryIx) : Does c P s₀ (s.withdraw i) := by
  unfold State.withdraw
  split
  · exact h
  · rename_i t ht
    split
    · rename_i hhost
      have hp := port?_of_isHost hhost
      have hwork : s.workAt i = some t.work := by simp [State.workAt, ht]
      have hgone : Does c P s₀ ((((s.withdrawFill i t).leaveMemWait i).freeEntry i).releaseLock i t.line) := by
        refine (((h.withdrawFill i t).leaveMemWait i).freeEntry i fun w hw => ?_).releaseLock i _
        have he := (workAt_withdrawFill s i i t).trans hwork
        exact (Option.some.inj (hw.symm.trans he)) ▸ hp
      split
      · exact h.freeEntry_of_txn ht hp
      · refine ((h.leaveWaiters i t.line).freeEntry i fun w hw => ?_)
        have he : (s.leaveWaiters i t.line).workAt i = some t.work := by
          unfold State.leaveWaiters
          split <;> exact hwork
        exact (Option.some.inj (hw.symm.trans he)) ▸ hp
      · exact (h.withdrawFill i t).modTxn i _
      all_goals exact hgone
    · exact h

theorem retractCycle (h : Does c P s₀ s) (hc : c = .probeAnswerDirty) (k : Cycle) : Does c P s₀ (s.retractCycle k) := by
  have h1 := ((h.bump .retracts).emit .retract hc).endCycle
  unfold State.retractCycle
  dsimp only
  split
  · split
    · exact (h1.withdraw _).startLockTimer
    · exact h1.withdraw _
  · exact h1
  · exact h1

theorem retract (h : Does c P s₀ s) (hc : c = .probeAnswerDirty) : Does c P s₀ s.retract := by
  unfold State.retract
  split
  · split
    · exact h.retractCycle hc _
    · exact h
  · exact h

theorem awaitWriteback (h : Does c P s₀ s) (hc : c = .probeAnswerDirty) (i : EntryIx) (l : Line) :
    Does c P s₀ (s.awaitWriteback i l) := by
  have h1 := (h.modTxn i (fun t => { t with phase := .wbWait, wbTimer := some .pending })).retract hc
  unfold State.awaitWriteback
  dsimp only
  split
  · exact h1.startPendingTimers
  · split
    · exact h1.modTxn i _
    · exact h1

theorem actOnAnswer (h : Does c P s₀ s) (i : EntryIx) (a : Answer) (hc : a = .dirty → c = .probeAnswerDirty) :
    Does c P s₀ (s.actOnAnswer i a) := by
  unfold State.actOnAnswer
  split
  · exact h
  · split
    · split
      · exact (h.bump _).afterBeats i
      · exact h.afterBeats i
    · split
      · exact h.afterMiss i _
      · exact h.afterMiss i _
      · exact (h.bump _).awaitWriteback (hc rfl) i _
      · exact h

theorem endRequester (h : Does c P s₀ s) (i : EntryIx) (l : Line) (k : ResultCode) :
    Does c P s₀ (s.endRequester i l k) := (h.respond i k).releaseLock i l

theorem endProbing (h : Does c P s₀ s) (i : EntryIx) (t : Txn) (k : ResultCode) :
    Does c P s₀ (s.endProbing i t k) := by
  unfold State.endProbing
  split
  · exact h.declineLinked.endRecall
  · exact h.endRequester i _ _

theorem leaveAtFaulted (h : Does c P s₀ s) (i : EntryIx) : Does c P s₀ (s.leaveAtFaulted i) := by
  unfold State.leaveAtFaulted
  split
  · exact h
  · exact h.endProbing i _ _

theorem enterFaulted (h : Does c P s₀ s) : Does c P s₀ s.enterFaulted :=
  foldl (fun h i => h.leaveAtFaulted i) _
    ((h.setMode .faulted nofun).endSweepFaulted.setQueue [] fun _ => .nil)

theorem enterQuarantine (h : Does c P s₀ s) (t : Txn) (q : QuarCause) : Does c P s₀ (s.enterQuarantine t q) := by
  unfold State.enterQuarantine
  split
  · exact h
  · rename_i hq
    split
    · exact h.addQuarantine _ ‹_› (Bool.eq_false_iff.mpr hq)
    · dsimp only
      split
      · exact (h.reportError _).enterFaulted
      · exact h.reportError _

theorem timeout (h : Does c P s₀ s) (i : EntryIx) (q : QuarCause) : Does c P s₀ (s.timeout i q) := by
  unfold State.timeout
  split
  · exact h
  · rename_i t _
    obtain ⟨k, e⟩ := State.handBack_cases i t (s.modTxn i fun t => { t with answer := some .timeout, wbTimer := none })
    dsimp only
    rw [e]
    exact ((((h.modTxn i _).setCycle k).reportError _).enterQuarantine t q).endProbing i t _

/-! ### Beats and completions -/

theorem ackBeat (h : Does c P s₀ s) (k : Cycle) : Does c P s₀ (s.ackBeat k) := (h.setCycle _).emit _

theorem lastEvictBeat (h : Does c P s₀ s) (i : EntryIx) (k : Cycle) (hi : ∀ w, s.workAt i = some w → w.port? = none) :
    Does c P s₀ (s.lastEvictBeat i k) := by
  unfold State.lastEvictBeat
  split
  · exact h
  · split
    · exact (h.freeEntry i hi).attach _ _ _
    · exact h.requestLock i _

theorem ackAttached (h : Does c P s₀ s) (i : EntryIx) : Does c P s₀ (s.ackAttached i) := by
  unfold State.ackAttached
  split
  · exact (h.emit _).endCycle
  · exact h

theorem giveFinalAck (h : Does c P s₀ s) (i : EntryIx) (r : ResultCode) : Does c P s₀ (s.giveFinalAck i r) :=
  (h.modTxn i _).emit _

theorem load_work (k : Completion) (t : Txn) : (t.load k).work = t.work := by
  cases k <;> rfl

theorem completeRWrite (h : Does c P s₀ s) (i : EntryIx) (l : Line) (k : Completion) :
    Does c P s₀ (s.completeRWrite i l k) := (h.ackAttached i).endRequester i l _

theorem completeRRead (h : Does c P s₀ s) (i : EntryIx) (l : Line) (m : MemKind) (k : Completion) :
    Does c P s₀ (s.completeRRead i l m k) := by
  unfold State.completeRRead
  split
  · exact (h.modTxn i _ (load_work k)).endRequester i l _
  · exact (h.ackAttached i).endRequester i l _
  · exact (h.ackAttached i).endRequester i l _

theorem completeRAtomic (h : Does c P s₀ s) (i : EntryIx) (l : Line) (m : MemKind) (k : Completion) :
    Does c P s₀ (s.completeRAtomic i l m k) := by
  unfold State.completeRAtomic
  split
  · split
    · exact h.endRequester i l _
    · have h1 := h.modTxn i (fun t => (t.load k).workOnData) fun t => (workOnData_work _).trans (load_work k t)
      unfold State.completeAtomicRead
      dsimp only
      split
      · exact h1.toMemWait i
      · exact h1.endRequester i l _
  · exact h.completeRWrite i l k
  · exact h.completeRWrite i l k

theorem reportMemory (h : Does c P s₀ s) (t : Txn) (m : MemKind) (k : Completion) :
    Does c P s₀ (s.reportMemory t m k) := by
  unfold State.reportMemory
  split
  · exact h.reportError _
  · exact h

theorem completeTxn (h : Does c P s₀ s) (i : EntryIx) (t : Txn) (m : MemKind) (k : Completion) :
    Does c P s₀ (s.completeTxn i t m k) := by
  have h1 := h.reportMemory t m k
  have hread := h1.modTxn i (fun t => { t.load k with phase := .dataOut, result := some (completionCode k) }) (load_work k)
  unfold State.completeTxn
  dsimp only
  split
  · exact hread
  · exact hread
  · exact hread
  · exact h1.giveFinalAck i _
  · exact (h1.giveFinalAck i _).setCycle _
  · unfold State.completeLwrite
    dsimp only
    split
    · exact (h1.giveFinalAck i _).giveUpLockSet
    · exact h1.giveFinalAck i _
  · exact h1.completeRRead i _ m k
  · exact h1.completeRWrite i _ k
  · exact h1.completeRAtomic i _ m k
  · exact (h1.ackAttached i).endRecall

theorem complete (h : Does c P s₀ s) (hc : ∃ k, c = .memCompletion k) {r : MemReq} {rest : List MemReq} (k : Completion)
    (ho : s.mp.outstanding = r :: rest) : Does c P s₀ (s.complete r rest k) := by
  have h1 := h.takeOutstanding hc ho
  unfold State.complete
  dsimp only
  split
  · exact h1
  · rename_i t ht
    split
    · rename_i hab
      exact (h1.freeEntry_of_txn ht (port?_of_isHost (Bool.and_eq_true _ _ ▸ hab).2)).releaseLock _ _
    · exact h1.completeTxn _ _ _ _

/-! ### HRST -/

theorem dropDirectory (h : Does c P s₀ s) : Does c P s₀ s.dropDirectory := by
  unfold State.dropDirectory
  dsimp only
  split
  · exact (h.clearDirectory.endSweep.setRecallWait [] fun _ => GeneralQueue.nil).clearLink
  · exact (h.clearDirectory.setRecallWait [] fun _ => GeneralQueue.nil).clearLink

theorem abandonHost (h : Does c P s₀ s) (i : EntryIx) : Does c P s₀ (s.abandonHost i) := by
  unfold State.abandonHost
  split
  · exact h.withdraw i
  · exact h

theorem giveUpLineAtHrst (h : Does c P s₀ s) (l : Line) : Does c P s₀ (s.giveUpLineAtHrst l) := by
  unfold State.giveUpLineAtHrst
  split
  · rename_i r _ hr
    split
    · exact h.putLock { r with holder := _ } fun h₀ =>
        show GeneralQueue r.waiters from (h.withinCapacity h₀).waitersOf hr
    · exact h
  · exact h.giveUpLine l

theorem dropProbe (h : Does c P s₀ s) : Does c P s₀ s.dropProbe := by
  unfold State.dropProbe
  split
  · exact (h.setChannel _).modTxn _ _
  · exact h
  · exact h

theorem loseWriteback (h : Does c P s₀ s) (i : EntryIx) (t : Txn) : Does c P s₀ (s.loseWriteback i t) :=
  ((h.handRecord _).modTxn i _).afterMiss i _

theorem settleProbing (h : Does c P s₀ s) (a : Option EntryIx) (i : EntryIx) : Does c P s₀ (s.settleProbing a i) := by
  unfold State.settleProbing
  split
  · exact h
  · split
    · split
      · exact h.dataTaken i
      · split
        · exact h.loseWriteback i _
        · exact h.afterMiss i _
    · exact h.loseWriteback i _
    all_goals exact h

/-- R117: HRST up to the consequences of the event. -/
theorem hostResetWork (h : Does c P s₀ s) :
    Does c P s₀ (allEntries.foldl (State.settleProbing s.attachedEntry)
      (allEntries.foldl State.abandonHost ((s.raise .hostReset).dropHostSide).dropDirectory).dropLockSet.dropProbe) := by
  have h1 : Does c P s₀ ((s.raise .hostReset).dropHostSide).dropDirectory :=
    (((h.raise _).endCycle).setLockState none false none).dropDirectory
  have h2 := foldl (fun h i => h.abandonHost i) allEntries h1
  have h3 := foldl (fun h l => h.giveUpLineAtHrst l)
    (allEntries.foldl State.abandonHost ((s.raise .hostReset).dropHostSide).dropDirectory).hp.lockSet h2.emptyLockSet
  exact foldl (fun h i => h.settleProbing _ i) allEntries h3.dropProbe

end Does

end Sys2Proof.Machine
end

section
/-! SUPPORT. Every command but those of the RESET pin as a course of primitive updates. A probe goes out only as the
consequences of the event are brought about, and what follows it there leaves the probe unit, the directory and the mode as
they are. -/

set_option Elab.async false

namespace Sys2Proof.Machine


/-! ### Outputs and settings along a course -/

/-- A course drives only what its command may drive. -/
theorem Does.mayDrive {c : Instr} {P : Prop} {s₀ s : State} (h : Does c P s₀ s) : ∀ o ∈ s.out, MayDrive c P o := by
  induction h with
  | start => exact fun o ho => absurd ho (List.not_mem_nil)
  | emit _ o ho ih =>
    intro o' ho'
    rcases List.mem_append.mp ho' with h1 | h1
    · exact ih o' h1
    · exact List.mem_singleton.mp h1 ▸ ho
  | handRecord _ r ih =>
    rcases State.handRecord_cases r _ with ⟨-, e⟩ | ⟨-, e⟩ <;> rw [e] <;> exact ih
  | insertEntry _ l w p _ ih =>
    rcases State.insertEntry_cases l w p _ with ⟨-, e⟩ | e <;> rw [e] <;> exact ih
  | reReserve _ l p ih => unfold State.reReserve; split <;> exact ih
  | dropEntry _ l ih => rcases State.dropEntry_cases l _ with e | e <;> rw [e] <;> exact ih
  | takeAdmitPolicy _ b _ ih => unfold State.takeAdmitPolicy; split <;> exact ih
  | takeLockLimit _ b _ ih => unfold State.takeLockLimit; dsimp only; split <;> exact ih
  | respond _ i code ih =>
    rcases State.respond_cases _ i code with ⟨e, -⟩ | ⟨t, p, g, -, -, -, e⟩ | ⟨t, -, -, e⟩ <;> rw [e] <;> exact ih
  | _ => rename_i ih; exact ih

/-- R75: only a write of PROBE_TIMES changes PROBE_LIMIT. -/
theorem Does.probeLimit {c : Instr} {P : Prop} {s₀ s : State} (h : Does c P s₀ s) (hc : ∀ b, c ≠ .probeTimesWrite b := by intro b h; cases h) :
    s.pu.probeLimit = s₀.pu.probeLimit := by
  induction h with
  | start => rfl
  | handRecord _ r ih =>
    rcases State.handRecord_cases r _ with ⟨-, e⟩ | ⟨-, e⟩ <;> rw [e] <;> exact ih
  | insertEntry _ l w p _ ih =>
    rcases State.insertEntry_cases l w p _ with ⟨-, e⟩ | e <;> rw [e] <;> exact ih
  | reReserve _ l p ih => unfold State.reReserve; split <;> exact ih
  | dropEntry _ l ih => rcases State.dropEntry_cases l _ with e | e <;> rw [e] <;> exact ih
  | takeAdmitPolicy _ b _ ih => unfold State.takeAdmitPolicy; split <;> exact ih
  | takeLockLimit _ b _ ih => unfold State.takeLockLimit; dsimp only; split <;> exact ih
  | takeProbeTimes _ b hb _ => exact absurd hb (hc b)
  | respond _ i code ih =>
    rcases State.respond_cases _ i code with ⟨e, -⟩ | ⟨t, p, g, -, -, -, e⟩ | ⟨t, -, -, e⟩ <;> rw [e] <;> exact ih
  | _ => rename_i ih; exact ih

/-! ### The consequences of an event: at most one probe, and then the drains -/

/-- R137, R138: the drains touch the ports, the event unit and CMD_STATUS alone. -/
theorem State.drainQueue_frame (p : PortIx) (rs : List Accepted) (s : State) :
    ∃ rp, State.drainQueue p rs s = { s with rp := rp } := by
  induction rs generalizing s with
  | nil => exact ⟨s.rp, rfl⟩
  | cons r rest ih =>
    unfold State.drainQueue
    split
    · exact ⟨s.rp, rfl⟩
    · obtain ⟨rp, e⟩ := ih ((s.modPort p fun q => { q with ingress := rest }).placeResponse p
        { tag := r.tag, result := .portDisabled, data := .none })
      exact ⟨rp, e⟩

theorem State.endLongOperation_frame (s : State) : ∃ m, s.endLongOperation = { s with mg := m } := by
  unfold State.endLongOperation
  split
  · exact ⟨_, rfl⟩
  · exact ⟨s.mg, rfl⟩

theorem State.drainPort_frame (s : State) (p : PortIx) :
    ∃ rp e m, s.drainPort p = { s with rp := rp, ev := e, mg := m } := by
  unfold State.drainPort
  split
  · obtain ⟨rp, h⟩ := State.drainQueue_frame p (s.port p).ingress s
    dsimp only
    rw [h]
    split
    · obtain ⟨m, h2⟩ := State.endLongOperation_frame
        ((State.modPort p (fun q => { q with state := .disabled }) { s with rp := rp }).raise .portDrained)
      rw [h2]
      exact ⟨_, _, m, rfl⟩
    · exact ⟨rp, s.ev, s.mg, rfl⟩
  · exact ⟨s.rp, s.ev, s.mg, rfl⟩

theorem State.drainPorts_frame (s : State) : ∃ rp e m, s.drainPorts = { s with rp := rp, ev := e, mg := m } := by
  have key : ∀ (ps : List PortIx) (s : State), ∃ rp e m, ps.foldl State.drainPort s = { s with rp := rp, ev := e, mg := m } := by
    intro ps
    induction ps with
    | nil => exact fun s => ⟨s.rp, s.ev, s.mg, rfl⟩
    | cons p ps ih =>
      intro s
      obtain ⟨rp, e, m, h⟩ := s.drainPort_frame p
      obtain ⟨rp', e', m', h'⟩ := ih (s.drainPort p)
      exact ⟨rp', e', m', by rw [List.foldl_cons, h', h]⟩
  exact key _ s

/-- R58: the queue's members are skipped up to a state at which the channel is left, or a probe goes out. -/
theorem State.pumpProbes_cases (n : Nat) (s : State) :
    ∃ u, (∀ c P s₀, Does c P s₀ s → Does c P s₀ u) ∧ (State.pumpProbes n s = u ∨ ∃ i t m, u.isHeld t.line = true ∧
      u.msc.mode ≠ .faulted ∧ State.pumpProbes n s = u.issueProbe i t m) := by
  induction n generalizing s with
  | zero => exact ⟨s, fun _ _ _ h => h, .inl rfl⟩
  | succ n ih =>
    unfold State.pumpProbes
    split
    · exact ⟨s, fun _ _ _ h => h, .inl rfl⟩
    · rename_i hopen
      split
      · exact ⟨s, fun _ _ _ h => h, .inl rfl⟩
      · rename_i i rest hq
        have hrest : s.pu.queue.Nodup → rest.Nodup := fun hn => by rw [hq] at hn; exact hn.of_cons
        dsimp only
        split
        · obtain ⟨u, hu, hc⟩ := ih (s.setQueue rest)
          exact ⟨u, fun c P s₀ h => hu c P s₀ (h.setQueue rest hrest), hc⟩
        · rename_i t _
          split
          · exact ⟨s.setQueue rest, fun c P s₀ h => h.setQueue rest hrest,
              .inr ⟨i, t, _, ‹_›, fun hf => hopen (.inr hf), rfl⟩⟩
          · obtain ⟨u, hu, hc⟩ := ih
              ((if t.work.isRecall then (s.setQueue rest).declineLinked else s.setQueue rest).goOnWithoutData i)
            refine ⟨u, fun c P s₀ h => hu c P s₀ (Does.goOnWithoutData ?_ i), hc⟩
            split
            · exact (h.setQueue rest hrest).declineLinked
            · exact h.setQueue rest hrest

/-! ### Commands -/

/-- What a command ends with: a course of updates, and a probe that went out is the one outstanding (R58). -/
structure Ends (c : Instr) (s t : State) : Prop where
  course : Does c True s t
  probed : ∀ (l : Line) (m : ProbeMode), Output.probe l m ∈ t.out → t.isHeld l = true ∧ t.msc.mode ≠ .faulted ∧
    ∃ i, t.pu.channel = .outstanding i l m s.pu.probeLimit.toNat

namespace Ends

variable {c : Instr} {s t u : State}

/-- A course that may drive no probe. -/
theorem of (h : ∀ P, Does c P s t) : Ends c s t where
  course := h True
  probed := fun _ _ hm => ((h False).mayDrive _ hm).elim

theorem settle (h : ∀ P, Does c P s u) (hc : ∀ b, c ≠ .probeTimesWrite b := by intro b h; cases h) : Ends c s u.settle where
  course := (h True).settle
  probed := by
    obtain ⟨v, hv, hcase⟩ := State.pumpProbes_cases pumpBound u.giveEntry11
    have hvs : ∀ P, Does c P s v := fun P => hv c P s (h P).giveEntry11
    obtain ⟨rp, e, m, hd⟩ := (State.pumpProbes pumpBound u.giveEntry11).drainPorts_frame
    have hset : u.settle = { State.pumpProbes pumpBound u.giveEntry11 with rp := rp, ev := e, mg := m } := hd
    intro l k hk
    rw [hset] at hk ⊢
    rcases hcase with heq | ⟨i, x, k', hheld, hmode, heq⟩
    · rw [heq] at hk
      exact (((hvs False).mayDrive _ hk)).elim
    · rw [heq] at hk ⊢
      rcases List.mem_append.mp hk with h1 | h1
      · exact ((hvs False).mayDrive _ h1).elim
      · cases List.mem_singleton.mp h1
        exact ⟨hheld, hmode, i, by rw [← (hvs True).probeLimit hc]; rfl⟩

/-- R192, R193: the byte that the port acknowledges behind a command's effect. -/
theorem acknowledged (h : Ends c s t) (f : Management → Management) : Ends c s ((t.modMg f).emit .mgAck) where
  course := (h.course.setMg (f t.mg)).emit .mgAck
  probed := fun l m hm => by
    rcases List.mem_append.mp hm with h1 | h1
    · exact h.probed l m h1
    · cases List.mem_singleton.mp h1

theorem of_live {f : State → Result} (hf : ∀ {t}, f s.clearOut = .next t → Ends c s t) (h : live f s = .next t) :
    Ends c s t := by
  unfold live at h
  split at h
  · cases h
    exact of fun _ => .start
  · exact hf h

theorem of_onFreeBus {f : State → Result} (hf : ∀ {t}, f s.clearOut = .next t → Ends c s t)
    (h : live (onFreeBus f) s = .next t) : Ends c s t := by
  refine of_live (fun {t} h => ?_) h
  unfold onFreeBus at h
  split at h
  · cases h
    exact of fun _ => .start
  · split at h
    · cases h
    · exact hf h

theorem of_dataByte {row : ByteRow} {take : State → State} (ht : ∀ s', s' = s.clearOut → Ends c s (take s'))
    (h : live (dataByte row take) s = .next t) : Ends c s t := by
  refine of_live (fun {t} h => ?_) h
  unfold dataByte at h
  split at h
  · cases h
    exact of fun _ => .start
  · cases h
  · cases h
  · split at h
    · cases h
      exact (ht _ rfl).acknowledged _
    · cases h

theorem of_command {k : Cmd} {run : State → State} (hr : ∀ s', (∀ P, Does c P s s') → Ends c s (run s'))
    (h : commandByte k run s = .next t) : Ends c s t := by
  refine of_dataByte (fun s' hs => ?_) h
  subst hs
  unfold State.runCommand
  split
  · exact of fun _ => Does.start.setMg _
  · exact hr _ fun _ => Does.start.setMg _

/-! #### The processor's cycles and beats -/

theorem claim (h : ∀ P, Does c P s u) (k : CycleKind) (a : Addr) (m : BeatMask) (e : Bool) :
    Ends c s (u.claim k a m e) := of fun P => (h P).setCycle _

theorem claimOrAttach (h : ∀ P, Does c P s u) (k : CycleKind) (a : Addr)
    (hc : ∀ b, c ≠ .probeTimesWrite b := by intro b h; cases h) :
    Ends c s (u.claimOrAttach k a) := by
  unfold State.claimOrAttach
  split
  · exact settle (fun P => (h P).attach _ _ _) hc
  · exact claim h _ _ _ _

theorem overrun (h : ∀ P, Does c P s u) (k : TxnKind) (l : Line) (hc : ∀ P, MayDrive c P .busError) :
    Ends c s (u.overrun k l) := of fun P => ((h P).reportError _).emit .busError (hc P)

theorem takeMasked_work (b : Beat) (m : BeatMask) (d : BeatData) (t : Txn) : (t.takeMasked b m d).work = t.work := by
  unfold Txn.takeMasked
  rfl

theorem takeWhole_work (b : Beat) (d : BeatData) (t : Txn) : (t.takeWhole b d).work = t.work := by
  unfold Txn.takeWhole
  rfl

theorem takeBeats_work (bs : List (Beat × BeatData)) (n : Bool) (t : Txn) : (t.takeBeats bs n).work = t.work := rfl

theorem takeServedBeat (h : ∀ P, Does c P s u) (hc : ∀ b, c ≠ .probeTimesWrite b) {i : EntryIx} (k : Cycle) {x : Txn}
    (hx : u.txn i = some x) (b : Beat) (d : BeatData) : Ends c s (u.takeServedBeat i k x b d) := by
  have hsingle : ∀ b' m, Ends c s (u.takeSingleBeat i k x b' m d) := fun b' m =>
    settle (fun P => (((h P).modTxn i (Txn.takeMasked b' m d) (takeMasked_work _ _ _)).ackBeat _).askLock i _ _) hc
  unfold State.takeServedBeat
  split
  · exact of h
  · split
    · split
      · exact hsingle _ _
      · exact of h
    · split
      · exact hsingle _ _
      · exact of h
    · rename_i hw
      have h1 : ∀ P, Does c P s (u.modTxn i (Txn.takeWhole b d)) := fun P =>
        (h P).modTxn i (Txn.takeWhole b d) (takeWhole_work _ _)
      unfold State.takeEvictBeat
      dsimp only
      split
      · exact of fun P => (h1 P).ackBeat _
      · refine settle (fun P => ((h1 P).setCycle _).lastEvictBeat i _ fun w hwork => ?_) hc
        have he : State.workAt (u.modTxn i (Txn.takeWhole b d)) i = some x.work := by
          rw [State.workAt_modTxn u i i (takeWhole_work _ _), State.workAt, hx]
          rfl
        have := Option.some.inj (hwork.symm.trans he)
        rw [this, hw]
        rfl
    all_goals exact of h

theorem takeAttachedBeat (h : ∀ P, Does c P s u) (hc : ∀ b, c ≠ .probeTimesWrite b) (i : EntryIx) (k : Cycle) (b : Beat)
    (d : BeatData) : Ends c s (u.takeAttachedBeat i k b d) := by
  have h1 : ∀ P n, Does c P s (u.modTxn i (Txn.takeBeats [(b, d)] n)) := fun P n =>
    (h P).modTxn i (Txn.takeBeats [(b, d)] n) (takeBeats_work _ _)
  unfold State.takeAttachedBeat
  split
  · exact of h
  · unfold State.takeWritebackBeat
    dsimp only
    split
    · exact settle (fun P => ((h1 P _).ackBeat _).afterBeats i) hc
    · exact settle (fun P => ((h1 P _).setCycle _).afterBeats i) hc

/-- What the processor takes: its cycle's transaction is the host's, whose entry may be freed. -/
theorem takeDelivered (h : ∀ P, Does .hostBeatTaken P s u) {i : EntryIx} (k : Cycle) {x : Txn} (hx : u.txn i = some x)
    (r : ResultCode) : Ends .hostBeatTaken s (u.takeDelivered i k x r) := by
  have hend : x.work.port? = none → ∀ {v} P, Does .hostBeatTaken P s v → v.tt.entries = u.tt.entries →
      Does .hostBeatTaken P s (v.endCycle.freeEntry i) := fun hp v P hv he => by
    refine hv.endCycle.freeEntry i fun w hw => ?_
    have h1 : v.endCycle.workAt i = some x.work := by
      have h2 : (v.setCycle none).workAt i = u.workAt i := Does.workAt_of_entries he i
      rw [State.endCycle, State.workAt_startPendingTimers, h2, State.workAt, hx]
      rfl
    exact Option.some.inj (hw.symm.trans h1) ▸ hp
  have hwrite : x.work.port? = none → Ends .hostBeatTaken s (u.endWrite i x.line) := fun hp =>
    settle (fun P => (hend hp P (h P) rfl).releaseLock i _)
  unfold State.takeDelivered
  split
  · rename_i hw
    exact settle (fun P => (hend (by rw [hw]; rfl) P ((h P).emit _ (by exact rfl)) rfl).releaseLock i _)
  · rename_i hw
    exact settle (fun P => (((hend (by rw [hw]; rfl) P ((h P).emit _ (by exact rfl)) rfl).lockedDone _).startLockTimer).releaseLock
      i _)
  · rename_i hw
    unfold State.deliverFill
    dsimp only
    split
    · exact of fun P => ((h P).emit _ (by exact rfl)).setCycle _
    · refine settle (fun P => Does.releaseLock ?_ i _)
      unfold State.finishFill
      split
      · exact hend (by rw [hw]; rfl) P (((h P).emit _ (by exact rfl)).makeHeld rfl _) (Does.makeHeld_entries _ _)
      · exact hend (by rw [hw]; rfl) P (((h P).emit _ (by exact rfl)).removeReserved _) (Does.removeReserved_entries _ _)
  · rename_i hw
    exact hwrite (by rw [hw]; rfl)
  · rename_i hw
    exact hwrite (by rw [hw]; rfl)
  · rename_i hw
    have hp : x.work.port? = none := by rw [hw]; rfl
    unfold State.endLwrite
    dsimp only
    split
    · exact settle (fun P => (hend hp P (h P) rfl).releaseLock i _)
    · exact settle (fun P => (((hend hp P (h P) rfl).lockedDone _).startLockTimer).releaseLock i _)
  all_goals exact of h

/-! #### Admission -/

theorem freeGeneral_eq_some {s : State} {i : EntryIx} (h : s.freeGeneral = some i) :
    i ≠ recallEntry ∧ s.txn i = none := by
  have := List.find?_some h
  simpa using this

theorem cycleWork_isHost (k : Cycle) (b : Bool) : (k.work b).issuer = .hp := by
  unfold Cycle.work
  split <;> first | rfl | (split <;> rfl)

theorem admitHost (h : Does c P s u) {i : EntryIx} (hi : i ≠ recallEntry) (hfree : u.txn i = none) (k : Cycle) :
    Does c P s (u.admitHost i k) := by
  have hiss := cycleWork_isHost k u.hp.broken
  have hport : (k.work u.hp.broken).port? = none := by rw [Work.port?, hiss]
  have hkind : (k.work u.hp.broken).kind ≠ .recall := by
    cases hw : k.work u.hp.broken <;> simp_all [Work.kind, Work.issuer]
  have h1 := (h.putTxn i (k.admitted (k.work u.hp.broken)) hfree hport ⟨fun h => absurd h hkind, fun h => absurd h hi⟩).setCycle
    (some { k with standing := .served i, held := [] })
  have h2 : Does c P s (((u.putTxn i (some (k.admitted (k.work u.hp.broken)))).setCycle
      (some { k with standing := .served i, held := [] })).stopLockTimer (k.work u.hp.broken)) := by
    unfold State.stopLockTimer
    split
    · exact h1.setLockState _ _ _
    · exact h1
  unfold State.admitHost
  dsimp only
  split
  · split
    · refine h2.lastEvictBeat i _ fun w hw => ?_
      have he : State.workAt (((u.putTxn i (some (k.admitted (k.work u.hp.broken)))).setCycle
          (some { k with standing := .served i, held := [] })).stopLockTimer (k.work u.hp.broken)) i =
          some (k.work u.hp.broken) := by
        have h3 : State.workAt (u.putTxn i (some (k.admitted (k.work u.hp.broken)))) i = some (k.work u.hp.broken) := by
          rw [State.workAt_putTxn, if_pos rfl]; rfl
        unfold State.stopLockTimer
        split <;> exact h3
      exact Option.some.inj (hw.symm.trans he) ▸ hport
    · exact h2
  · exact h2.askLock i _ _

theorem claimant_port {s : State} {p : PortIx} {r : Accepted} {rest : List Accepted} (h : s.claimant = some (.port p r rest)) :
    (s.port p).state = .enabled ∧ (s.port p).ingress = r :: rest := by
  have key : (offerOrder s.tt.roundRobin).findSome? s.portClaim = some (.port p r rest) →
      (s.port p).state = .enabled ∧ (s.port p).ingress = r :: rest := by
    intro h
    obtain ⟨q, -, hq⟩ := List.exists_of_findSome?_eq_some h
    unfold State.portClaim at hq
    split at hq
    · split at hq
      · cases hq
      · cases hq
        exact ⟨‹_›, ‹_›⟩
    · cases hq
  unfold State.claimant at h
  split at h
  · split at h
    · cases h
    · exact key h
  · exact key h

end Ends

/-! ### Every command -/

/-- R121: what an ENABLED port that is ready does with an offer. -/
theorem Does.checkRequest {P : Prop} {s₀ s : State} {p : PortIx} {r : Request}
    (h : Does (.requestOffer p r) P s₀ s) (hroom : (s.port p).ingress.length < 8) :
    Does (.requestOffer p r) P s₀ (s.checkRequest p r) := by
  unfold State.checkRequest
  split
  · exact (h.reportError _).emit _ ⟨r, rfl⟩
  · rename_i hfree
    split
    · exact (h.reportError _).emit _ ⟨r, rfl⟩
    · rename_i a ha
      have htag : a.tag = r.tag := by
        unfold acceptedOf at ha
        split at ha
        · split at ha <;> cases ha; rfl
        · split at ha <;> cases ha; rfl
        · cases ha
        · split at ha <;> cases ha; rfl
      exact h.accept p a ⟨r, rfl⟩ (by simpa [htag] using hfree) hroom

theorem Ends.declineWaiting {c : Instr} {P : Prop} {s₀ s : State} (h : Does c P s₀ s) : Does c P s₀ s.declineWaiting :=
  (Does.foldl (fun h f => h.declineFill f) _ (h.setRecallWait [] fun _ => GeneralQueue.nil)).declineLinked

theorem Ends.beginSweep {c : Instr} {s u : State} (h : ∀ P, Does c P s u) (hc : ∀ b, c ≠ .probeTimesWrite b)
    (o : SweepOrigin) : Ends c s (u.beginSweep o) := by
  unfold State.beginSweep
  split
  · exact .of fun P => (h P).setMg _
  · exact .settle (fun P => Ends.declineWaiting (((h P).setSweep _).setMg _)) hc

theorem Ends.status {c : Instr} {s u : State} (h : ∀ P, Does c P s u) (a : CmdState) (r : Reason) :
    Ends c s (u.setStatus a r) := .of fun P => (h P).setMg _

theorem Does.becomeCoherent {c : Instr} {P : Prop} {s₀ s : State} (h : Does c P s₀ s) : Does c P s₀ s.becomeCoherent :=
  ((h.setMode .coherent nofun).raise _).setMg _

/-- A command begins with nothing driven outward (log 17). -/
theorem begun {s : State} {c : Instr} {P : Prop} : Does c P s s.clearOut := .start

theorem next_inj {s t : State} (h : (.next s : Result) = .next t) : s = t := Host.Outcome.next.inj h

/-- Section 3.4: an answer, at a command that may be a DIRTY answer when it is one. -/
theorem Ends.takeAnswer {c : Instr} {s : State} (a : Answer) (hd : a = .dirty → c = .probeAnswerDirty)
    (hc : ∀ b, c ≠ .probeTimesWrite b := by intro b h; cases h) : Ends c s (s.clearOut.takeAnswer a) := by
  unfold State.takeAnswer
  split
  · exact .settle (fun _ => ((begun.setChannel _).modTxn _ _).actOnAnswer _ _ hd) hc
  · exact .of fun _ => begun.raise _
  · exact .of fun _ => begun.raise _

theorem Ends.hrstAssert {s t : State} (h : exec .hrstAssert s = .next t) : Ends .hrstAssert s t := by
  simp only [exec, execHrstAssert] at h
  split at h
  · cases h
  · split at h <;> obtain rfl := next_inj h
    · exact .of fun _ => begun.setHrst true
    · exact .settle (fun P => (begun.setHrst true).hostResetWork)

theorem Ends.hrstRelease {s t : State} (h : exec .hrstRelease s = .next t) : Ends .hrstRelease s t := by
  simp only [exec, execHrstRelease] at h
  split at h <;> cases h
  exact .of fun _ => begun.setHrst false

theorem Ends.hostRead {s t : State} (a : Addr) (m : BeatMask) (h : exec (.hostRead a m) s = .next t) :
    Ends (.hostRead a m) s t := by
  replace h : execHostRead a m s = .next t := h
  exact .of_onFreeBus (fun h => by obtain rfl := next_inj h; exact .claim (fun _ => begun) _ _ _ _) h

theorem Ends.hostWrite {s t : State} (a : Addr) (m : BeatMask) (h : exec (.hostWrite a m) s = .next t) :
    Ends (.hostWrite a m) s t := by
  replace h : execHostWrite a m s = .next t := h
  exact .of_onFreeBus (fun h => by obtain rfl := next_inj h; exact .claim (fun _ => begun) _ _ _ _) h

theorem Ends.hostFill {s t : State} (a : Addr) (h : exec (.hostFill a) s = .next t) : Ends (.hostFill a) s t := by
  replace h : execHostFill a s = .next t := h
  exact .of_onFreeBus (fun h => by obtain rfl := next_inj h; exact .claim (fun _ => begun) _ _ _ _) h

theorem Ends.hostEvict {s t : State} (a : Addr) (h : exec (.hostEvict a) s = .next t) : Ends (.hostEvict a) s t := by
  replace h : execHostEvict a s = .next t := h
  exact .of_onFreeBus (fun h => by obtain rfl := next_inj h; exact .claimOrAttach (fun _ => begun) _ _) h

theorem Ends.hostProbeWb {s t : State} (a : Addr) (h : exec (.hostProbeWb a) s = .next t) :
    Ends (.hostProbeWb a) s t := by
  replace h : execHostProbeWb a s = .next t := h
  exact .of_onFreeBus (fun h => by obtain rfl := next_inj h; exact .claimOrAttach (fun _ => begun) _ _) h

theorem Ends.hostLread {s t : State} (a : Addr) (m : BeatMask) (h : exec (.hostLread a m) s = .next t) :
    Ends (.hostLread a m) s t := by
  replace h : execHostLread a m s = .next t := h
  refine .of_onFreeBus (fun h => ?_) h
  split at h
  · obtain rfl := next_inj h; exact .claim (fun _ => begun) _ _ _ _
  · split at h <;> obtain rfl := next_inj h
    · exact .claim (fun _ => begun) _ _ _ _
    · exact .overrun (fun _ => begun) _ _ fun _ => .inl ⟨a, m, rfl⟩

theorem Ends.hostLwrite {s t : State} (a : Addr) (m : BeatMask) (e : Bool) (h : exec (.hostLwrite a m e) s = .next t) :
    Ends (.hostLwrite a m e) s t := by
  replace h : execHostLwrite a m e s = .next t := h
  refine .of_onFreeBus (fun h => ?_) h
  split at h
  · obtain rfl := next_inj h
    split
    · exact .claim (fun _ => begun.setLockState _ false _) _ _ _ _
    · exact .claim (fun _ => begun) _ _ _ _
  · split at h <;> obtain rfl := next_inj h
    · exact .claim (fun _ => begun) _ _ _ _
    · exact .overrun (fun _ => begun) _ _ fun _ => .inr ⟨a, m, e, rfl⟩

theorem Ends.hostSpecial {s t : State} (k : SpecialCode) (h : exec (.hostSpecial k) s = .next t) :
    Ends (.hostSpecial k) s t := by
  replace h : execHostSpecial k s = .next t := h
  refine .of_onFreeBus (fun h => ?_) h
  cases k <;> obtain rfl := next_inj h
  · exact .settle (fun _ => (begun.emit .specialAck).flushHeld)
  · exact .of fun _ => begun.emit .specialAck

theorem Ends.hostWriteBeat {s t : State} (b : Beat) (d : BeatData) (h : exec (.hostWriteBeat b d) s = .next t) :
    Ends (.hostWriteBeat b d) s t := by
  replace h : execHostWriteBeat b d s = .next t := h
  refine .of_live (fun h => ?_) h
  split at h
  · obtain rfl := next_inj h; exact .of fun _ => begun
  · split at h
    · obtain rfl := next_inj h; exact .of fun _ => begun
    · obtain rfl := next_inj h; exact .takeAttachedBeat (fun _ => begun) (by intro _ h; cases h) _ _ _ _
    · split at h <;> obtain rfl := next_inj h
      · exact .of fun _ => begun
      · exact .takeServedBeat (fun _ => begun) (by intro _ h; cases h) _ ‹_› _ _

theorem Ends.writebackBeat {s t : State} (b : Beat) (d : BeatData) (h : exec (.writebackBeat b d) s = .next t) :
    Ends (.writebackBeat b d) s t := by
  replace h : execWritebackBeat b d s = .next t := h
  refine .of_live (fun h => ?_) h
  split at h
  · obtain rfl := next_inj h; exact .of fun _ => begun
  · split at h
    · obtain rfl := next_inj h; exact .of fun _ => begun
    · obtain rfl := next_inj h; exact .takeAttachedBeat (fun _ => begun) (by intro _ h; cases h) _ _ _ _
    · split at h
      · obtain rfl := next_inj h; exact .of fun _ => begun
      · split at h <;> obtain rfl := next_inj h
        · exact .takeServedBeat (fun _ => begun) (by intro _ h; cases h) _ ‹_› _ _
        · exact .of fun _ => begun

theorem Ends.hostBeatTaken {s t : State} (h : exec .hostBeatTaken s = .next t) : Ends .hostBeatTaken s t := by
  replace h : execHostBeatTaken s = .next t := h
  refine .of_live (fun h => ?_) h
  split at h
  · rename_i hd
    obtain rfl := next_inj h
    exact .takeDelivered (fun _ => begun) _ (State.delivering_eq_some.mp hd).1.txn _
  · obtain rfl := next_inj h; exact .of fun _ => begun

theorem Ends.admissionGrant {s t : State} (h : exec .admissionGrant s = .next t) : Ends .admissionGrant s t := by
  replace h : execAdmissionGrant s = .next t := h
  refine .of_live (fun h => ?_) h
  split at h
  · obtain rfl := next_inj h; exact .of fun _ => begun
  · rename_i k hk
    split at h
    · obtain rfl := next_inj h; exact .of fun _ => begun
    · rename_i i hi
      obtain ⟨hne, hfree⟩ := Ends.freeGeneral_eq_some hi
      obtain rfl := next_inj h
      refine .settle (fun P => ?_)
      unfold State.admitClaimant
      split
      · exact Ends.admitHost begun hne hfree _
      · exact (begun.grant rfl i _ _ _ hfree hne (Ends.claimant_port hk).2).requestLock i _

theorem Ends.probeAnswerMiss {s t : State} (h : exec .probeAnswerMiss s = .next t) : Ends .probeAnswerMiss s t := by
  replace h : execProbeAnswerMiss s = .next t := h
  exact .of_live (fun h => by obtain rfl := next_inj h; exact .takeAnswer _ nofun) h

theorem Ends.probeAnswerClean {s t : State} (h : exec .probeAnswerClean s = .next t) : Ends .probeAnswerClean s t := by
  replace h : execProbeAnswerClean s = .next t := h
  exact .of_live (fun h => by obtain rfl := next_inj h; exact .takeAnswer _ nofun) h

theorem Ends.probeAnswerDirty {s t : State} (h : exec .probeAnswerDirty s = .next t) : Ends .probeAnswerDirty s t := by
  replace h : execProbeAnswerDirty s = .next t := h
  exact .of_live (fun h => by obtain rfl := next_inj h; exact .takeAnswer _ (fun _ => rfl)) h

theorem Ends.answerTimerExpiry {s t : State} (h : exec .answerTimerExpiry s = .next t) :
    Ends .answerTimerExpiry s t := by
  replace h : execAnswerTimerExpiry s = .next t := h
  refine .of_live (fun h => ?_) h
  split at h <;> obtain rfl := next_inj h
  · exact .settle (fun _ => (begun.setChannel _).timeout _ _)
  · exact .of fun _ => begun
  · exact .of fun _ => begun

theorem Ends.wbTimerExpiry {s t : State} (i : EntryIx) (h : exec (.wbTimerExpiry i) s = .next t) :
    Ends (.wbTimerExpiry i) s t := by
  replace h : execWbTimerExpiry i s = .next t := h
  refine .of_live (fun h => ?_) h
  split at h <;> obtain rfl := next_inj h
  · exact .settle (fun _ => begun.timeout _ _)
  · exact .of fun _ => begun

theorem Ends.quietTimerExpiry {s t : State} (h : exec .quietTimerExpiry s = .next t) : Ends .quietTimerExpiry s t := by
  replace h : execQuietTimerExpiry s = .next t := h
  refine .of_live (fun h => ?_) h
  split at h <;> obtain rfl := next_inj h
  · exact .settle (fun _ => begun.setChannel _)
  · exact .of fun _ => begun
  · exact .of fun _ => begun

theorem Ends.lockTimerExpiry {s t : State} (h : exec .lockTimerExpiry s = .next t) : Ends .lockTimerExpiry s t := by
  replace h : execLockTimerExpiry s = .next t := h
  refine .of_live (fun h => ?_) h
  split at h <;> obtain rfl := next_inj h
  · exact .settle (fun _ => ((begun.reportError _).giveUpLockSet).setLockState _ true _)
  · exact .of fun _ => begun

theorem Ends.requestOffer {s t : State} (p : PortIx) (r : Request) (h : exec (.requestOffer p r) s = .next t) :
    Ends (.requestOffer p r) s t := by
  replace h : execRequestOffer p r s = .next t := h
  refine .of_live (fun h => ?_) h
  split at h
  · obtain rfl := next_inj h; exact .of fun _ => begun.emit _ ⟨r, rfl⟩
  · split at h <;> obtain rfl := next_inj h
    · exact .of fun _ => begun
    · exact .of fun _ => begun.checkRequest (Nat.lt_of_not_le ‹_›)

theorem Ends.responseTaken {s t : State} (p : PortIx) (h : exec (.responseTaken p) s = .next t) :
    Ends (.responseTaken p) s t := by
  replace h : execResponseTaken p s = .next t := h
  refine .of_live (fun h => ?_) h
  split at h <;> obtain rfl := next_inj h
  · exact .of fun _ => begun
  · exact .of fun _ => (begun.deliver p rfl ‹_›).emit _ (by exact rfl)

theorem Ends.memRequestAccept {s t : State} (h : exec .memRequestAccept s = .next t) : Ends .memRequestAccept s t := by
  replace h : execMemRequestAccept s = .next t := h
  refine .of_live (fun h => ?_) h
  split at h
  · obtain rfl := next_inj h; exact .of fun _ => begun
  · split at h
    · obtain rfl := next_inj h; exact .of fun _ => begun
    · split at h <;> obtain rfl := next_inj h
      · exact .of fun _ => begun
      · rename_i x _
        refine .of fun _ => ((begun.issueRequest rfl _ _ _ ‹_› (Nat.lt_of_not_le ‹_›)).setPhase _ _).emit _ ?_
        unfold Txn.memOutput
        split <;> rfl

theorem Ends.memCompletion {s t : State} (k : Completion) (h : exec (.memCompletion k) s = .next t) :
    Ends (.memCompletion k) s t := by
  replace h : execMemCompletion k s = .next t := h
  refine .of_live (fun h => ?_) h
  split at h <;> obtain rfl := next_inj h
  · exact .of fun _ => begun
  · exact .settle (fun _ => begun.complete ⟨k, rfl⟩ k ‹_›)

theorem Ends.mgPointerWrite {s t : State} (b : Byte) (h : exec (.mgPointerWrite b) s = .next t) :
    Ends (.mgPointerWrite b) s t := by
  replace h : execMgPointerWrite b s = .next t := h
  refine .of_live (fun h => ?_) h
  split at h <;> cases h
  · exact .of fun _ => begun
  · exact .of fun _ => (begun.setMg _).emit _

theorem Ends.mgByteStage {s t : State} (b : Byte) (h : exec (.mgByteStage b) s = .next t) :
    Ends (.mgByteStage b) s t := by
  replace h : execMgByteStage b s = .next t := h
  refine .of_live (fun h => ?_) h
  split at h
  · cases h; exact .of fun _ => begun
  · cases h
  · cases h
  · split at h <;> cases h
    exact .of fun _ => (begun.setMg _).emit _

theorem Ends.mgTransactionEnd {s t : State} (h : exec .mgTransactionEnd s = .next t) : Ends .mgTransactionEnd s t := by
  replace h : execMgTransactionEnd s = .next t := h
  exact .of_live (fun h => by obtain rfl := next_inj h; exact .of fun _ => begun.setMg _) h

theorem Ends.registerWrite {s t : State} (b : Byte) (h : exec (.registerWrite b) s = .next t) :
    Ends (.registerWrite b) s t := by
  replace h : execRegisterWrite b s = .next t := h
  refine .of_dataByte (fun s' hs => ?_) h
  subst hs
  unfold State.takeRegister
  split
  · exact .of fun _ => begun.setMg _
  · exact .of fun _ => begun.setMg _
  · exact .of fun _ => begun

theorem Ends.cmdStatusWrite {s t : State} (b : Byte) (h : exec (.cmdStatusWrite b) s = .next t) :
    Ends (.cmdStatusWrite b) s t := by
  replace h : execCmdStatusWrite b s = .next t := h
  refine .of_dataByte (fun s' hs => ?_) h
  subst hs
  unfold State.takeCmdStatus
  split
  · exact .of fun _ => begun.setMg _
  · exact .of fun _ => begun

theorem Ends.eventFlagsWrite {s t : State} (b : Byte) (h : exec (.eventFlagsWrite b) s = .next t) :
    Ends (.eventFlagsWrite b) s t := by
  replace h : execEventFlagsWrite b s = .next t := h
  exact .of_dataByte (fun s' hs => by subst hs; exact .of fun _ => begun.takeEventFlags b rfl) h

theorem Ends.eventEnableWrite {s t : State} (b : Byte) (h : exec (.eventEnableWrite b) s = .next t) :
    Ends (.eventEnableWrite b) s t := by
  replace h : execEventEnableWrite b s = .next t := h
  exact .of_dataByte (fun s' hs => by subst hs; exact .of fun _ => begun.takeEventEnable b rfl) h

theorem Ends.defaultAttrWrite {s t : State} (b : Byte) (h : exec (.defaultAttrWrite b) s = .next t) :
    Ends (.defaultAttrWrite b) s t := by
  replace h : execDefaultAttrWrite b s = .next t := h
  refine .of_dataByte (fun s' hs => ?_) h
  subst hs
  unfold State.takeDefaultAttr
  split
  · exact .of fun _ => begun.setDefaults ⟨b, rfl⟩ _
  · exact .of fun _ => begun

theorem Ends.probeTimesWrite {s t : State} (b : Byte) (h : exec (.probeTimesWrite b) s = .next t) :
    Ends (.probeTimesWrite b) s t := by
  replace h : execProbeTimesWrite b s = .next t := h
  exact .of_dataByte (fun s' hs => by subst hs; exact .of fun _ => begun.takeProbeTimes b rfl) h

theorem Ends.lockLimitWrite {s t : State} (b : Byte) (h : exec (.lockLimitWrite b) s = .next t) :
    Ends (.lockLimitWrite b) s t := by
  replace h : execLockLimitWrite b s = .next t := h
  exact .of_dataByte (fun s' hs => by subst hs; exact .of fun _ => begun.takeLockLimit b rfl) h

theorem Ends.admitPolicyWrite {s t : State} (b : Byte) (h : exec (.admitPolicyWrite b) s = .next t) :
    Ends (.admitPolicyWrite b) s t := by
  replace h : execAdmitPolicyWrite b s = .next t := h
  exact .of_dataByte (fun s' hs => by subst hs; exact .of fun _ => begun.takeAdmitPolicy b rfl) h

theorem Ends.writeRegion {s t : State} (b : Byte) (h : exec (.writeRegion b) s = .next t) :
    Ends (.writeRegion b) s t := by
  replace h : execWriteRegion b s = .next t := h
  refine .of_command (fun s' hs => ?_) h
  unfold State.cmdWriteRegion
  split
  · split
    · split
      · exact .status hs _ _
      · split
        · exact .status (fun P => (hs P).putRegion ⟨b, rfl⟩ _ _) _ _
        · exact .status hs _ _
    · exact .status (fun P => (hs P).putRegion ⟨b, rfl⟩ _ _) _ _
  · exact .status hs _ _

theorem Ends.setMode {s t : State} (b : Byte) (h : exec (.setMode b) s = .next t) : Ends (.setMode b) s t := by
  replace h : execSetMode b s = .next t := h
  refine .of_command (fun s' hs => ?_) h
  unfold State.cmdSetMode
  split
  · exact .status hs _ _
  · exact .status hs _ _
  · exact .beginSweep hs (by intro _ h; cases h) _
  · exact .status hs _ _
  · exact .of fun P => (hs P).becomeCoherent
  · exact .status hs _ _
  · exact .status hs _ _

theorem Ends.sweep {s t : State} (b : Byte) (h : exec (.sweep b) s = .next t) : Ends (.sweep b) s t := by
  replace h : execSweep b s = .next t := h
  refine .of_command (fun s' hs => ?_) h
  unfold State.cmdSweep
  split
  · exact .beginSweep hs (by intro _ h; cases h) _
  · exact .status (fun P => ((hs P).setSweep _).raise _) _ _
  · exact .status hs _ _

theorem Ends.resume {s t : State} (b : Byte) (h : exec (.resume b) s = .next t) : Ends (.resume b) s t := by
  replace h : execResume b s = .next t := h
  refine .of_command (fun s' hs => ?_) h
  unfold State.cmdResume
  split
  · split
    · exact .of fun P => (hs P).becomeCoherent
    · exact .status hs _ _
  · exact .status hs _ _
  · exact .status hs _ _

theorem Ends.release {s t : State} (b : Byte) (h : exec (.release b) s = .next t) : Ends (.release b) s t := by
  replace h : execRelease b s = .next t := h
  refine .of_command (fun s' hs => ?_) h
  unfold State.cmdRelease
  split
  · exact .status hs _ _
  · split
    · exact .status hs _ _
    · split
      · exact .status hs _ _
      · exact .status (fun P => (hs P).eraseQuarantine _ ⟨b, rfl⟩) _ _

theorem Ends.portDisable {s t : State} (b : Byte) (h : exec (.portDisable b) s = .next t) :
    Ends (.portDisable b) s t := by
  replace h : execPortDisable b s = .next t := h
  refine .of_command (fun s' hs => ?_) h
  unfold State.cmdPortDisable
  split
  · unfold State.disablePort
    split
    · exact .settle (fun P => ((hs P).setPortState _ _).setStatus _ _)
    · exact .status hs _ _
    · exact .of fun P => (hs P).setMg _
  · exact .status hs _ _

theorem Ends.portEnable {s t : State} (b : Byte) (h : exec (.portEnable b) s = .next t) : Ends (.portEnable b) s t := by
  replace h : execPortEnable b s = .next t := h
  refine .of_command (fun s' hs => ?_) h
  unfold State.cmdPortEnable
  split
  · unfold State.enablePort
    split
    · exact .status (fun P => (hs P).setPortState _ _) _ _
    · exact .status hs _ _
    · exact .of fun P => (hs P).setMg _
  · exact .status hs _ _

theorem Ends.popFault {s t : State} (b : Byte) (h : exec (.popFault b) s = .next t) : Ends (.popFault b) s t := by
  replace h : execPopFault b s = .next t := h
  refine .of_command (fun s' hs => ?_) h
  unfold State.cmdPopFault
  split
  · exact .status hs _ _
  · exact .status (fun P => (hs P).popFault ⟨b, rfl⟩ ‹_›) _ _

theorem Ends.clearCounters {s t : State} (b : Byte) (h : exec (.clearCounters b) s = .next t) :
    Ends (.clearCounters b) s t := by
  replace h : execClearCounters b s = .next t := h
  exact .of_command (fun s' hs => .status (fun P => (hs P).setCounters _) _ _) h

theorem Ends.readDir {s t : State} (b : Byte) (h : exec (.readDir b) s = .next t) : Ends (.readDir b) s t := by
  replace h : execReadDir b s = .next t := h
  refine .of_command (fun s' hs => ?_) h
  unfold State.cmdReadDir
  split
  · refine .status (fun P => ?_) _ _
    unfold State.snapDir
    split
    · exact (hs P).setMg _
    · exact (hs P).setMg _
  · exact .status hs _ _

theorem Ends.readTt {s t : State} (b : Byte) (h : exec (.readTt b) s = .next t) : Ends (.readTt b) s t := by
  replace h : execReadTt b s = .next t := h
  refine .of_command (fun s' hs => ?_) h
  unfold State.cmdReadTt
  split
  · refine .status (fun P => ?_) _ _
    unfold State.snapTxn
    split
    · exact (hs P).setMg _
    · exact (hs P).setMg _
  · exact .status hs _ _

theorem Ends.unknownCommand {s t : State} (b : Byte) (h : exec (.unknownCommand b) s = .next t) :
    Ends (.unknownCommand b) s t := by
  replace h : execUnknownCommand b s = .next t := h
  exact .of_command (fun s' hs => .status hs _ _) h

theorem Ends.startCondition {s t : State} (a : BitVec 7) (d : Direction) (h : exec (.startCondition a d) s = .next t) :
    Ends (.startCondition a d) s t := by
  replace h : execStartCondition a d s = .next t := h
  refine .of_live (fun h => ?_) h
  dsimp only at h
  split at h
  · cases d <;> obtain rfl := next_inj h
    · exact .of fun _ => ((begun.setMg _).setMg _).emit _
    · exact .of fun _ => ((begun.setMg _).setMg _).emit _
  · obtain rfl := next_inj h
    exact .of fun _ => begun.setMg _

/-- What every command but those of the RESET pin does. -/
theorem exec_ends {c : Instr} {s t : State} (h : exec c s = .next t) (h1 : c ≠ .resetPinAssert)
    (h2 : ∀ a b d, c ≠ .resetPinRelease a b d) : Ends c s t := by
  cases c with
  | resetPinAssert => exact absurd rfl h1
  | resetPinRelease a b d => exact absurd rfl (h2 a b d)
  | hrstAssert => exact .hrstAssert h
  | hrstRelease => exact .hrstRelease h
  | hostRead a m => exact .hostRead a m h
  | hostWrite a m => exact .hostWrite a m h
  | hostFill a => exact .hostFill a h
  | hostEvict a => exact .hostEvict a h
  | hostProbeWb a => exact .hostProbeWb a h
  | hostLread a m => exact .hostLread a m h
  | hostLwrite a m e => exact .hostLwrite a m e h
  | hostSpecial k => exact .hostSpecial k h
  | hostWriteBeat b d => exact .hostWriteBeat b d h
  | writebackBeat b d => exact .writebackBeat b d h
  | hostBeatTaken => exact .hostBeatTaken h
  | admissionGrant => exact .admissionGrant h
  | probeAnswerMiss => exact .probeAnswerMiss h
  | probeAnswerClean => exact .probeAnswerClean h
  | probeAnswerDirty => exact .probeAnswerDirty h
  | answerTimerExpiry => exact .answerTimerExpiry h
  | wbTimerExpiry i => exact .wbTimerExpiry i h
  | quietTimerExpiry => exact .quietTimerExpiry h
  | lockTimerExpiry => exact .lockTimerExpiry h
  | requestOffer p r => exact .requestOffer p r h
  | responseTaken p => exact .responseTaken p h
  | memRequestAccept => exact .memRequestAccept h
  | memCompletion k => exact .memCompletion k h
  | mgPointerWrite b => exact .mgPointerWrite b h
  | mgByteStage b => exact .mgByteStage b h
  | mgTransactionEnd => exact .mgTransactionEnd h
  | registerWrite b => exact .registerWrite b h
  | cmdStatusWrite b => exact .cmdStatusWrite b h
  | eventFlagsWrite b => exact .eventFlagsWrite b h
  | eventEnableWrite b => exact .eventEnableWrite b h
  | defaultAttrWrite b => exact .defaultAttrWrite b h
  | probeTimesWrite b => exact .probeTimesWrite b h
  | lockLimitWrite b => exact .lockLimitWrite b h
  | admitPolicyWrite b => exact .admitPolicyWrite b h
  | writeRegion b => exact .writeRegion b h
  | setMode b => exact .setMode b h
  | sweep b => exact .sweep b h
  | resume b => exact .resume b h
  | release b => exact .release b h
  | portDisable b => exact .portDisable b h
  | portEnable b => exact .portEnable b h
  | popFault b => exact .popFault b h
  | clearCounters b => exact .clearCounters b h
  | readDir b => exact .readDir b h
  | readTt b => exact .readTt b h
  | unknownCommand b => exact .unknownCommand b h
  | startCondition a d => exact .startCondition a d h

end Sys2Proof.Machine
end

section
/-! SUPPORT. What a step is made of: a course of a command, or a count of the timers and the courses of those that run out; and
what every step keeps, from what a course, the RESET pin and a count keep. -/

set_option Elab.async false

namespace Sys2Proof.Machine

/-! ### Updates that leave most of the state -/

theorem State.handRecord_frame (r : FaultRec) (s : State) : ∃ e, s.handRecord r = { s with ev := e } := by
  rcases s.handRecord_cases r with ⟨-, e⟩ | ⟨-, e⟩ <;> exact ⟨_, e⟩

theorem State.takeAdmitPolicy_frame (b : Byte) (s : State) :
    ∃ p, s.takeAdmitPolicy b = { s with pd := { s.pd with admitPolicy := p } } := by
  unfold State.takeAdmitPolicy
  split
  · exact ⟨_, rfl⟩
  · exact ⟨s.pd.admitPolicy, rfl⟩

theorem State.takeLockLimit_frame (b : Byte) (s : State) :
    ∃ n, s.takeLockLimit b = { s with hp := { s.hp with lockLimit := n } } := by
  unfold State.takeLockLimit
  dsimp only
  split
  · exact ⟨s.hp.lockLimit, rfl⟩
  · exact ⟨_, rfl⟩

/-- R133: a response touches the ports and the transaction table. -/
theorem State.respond_frame (i : EntryIx) (code : ResultCode) (s : State) :
    ∃ en rp, s.respond i code = { s with tt := { s.tt with entries := en }, rp := rp } := by
  rcases s.respond_cases i code with ⟨e, -⟩ | ⟨t, p, g, -, -, -, e⟩ | ⟨t, -, -, e⟩ <;> exact ⟨_, _, e⟩

theorem State.insertEntry_frame (l : Line) (w : Way) (p : EntryPolicy) (s : State) :
    ∃ d, s.insertEntry l w p = { s with pd := { s.pd with sets := d } } := by
  rcases s.insertEntry_cases l w p with ⟨-, e⟩ | e <;> exact ⟨_, e⟩

theorem State.reReserve_frame (l : Line) (p : EntryPolicy) (s : State) :
    ∃ d, s.reReserve l p = { s with pd := { s.pd with sets := d } } := by
  unfold State.reReserve
  split <;> exact ⟨_, rfl⟩

theorem State.dropEntry_frame (l : Line) (s : State) : ∃ d, s.dropEntry l = { s with pd := { s.pd with sets := d } } := by
  rcases s.dropEntry_cases l with e | e <;> exact ⟨_, e⟩

/-! ### The tick -/

/-- R192: a byte of a read transaction touches the management port alone. -/
theorem State.clockByte_frame (s : State) :
    ∃ m o n, s.clockByte = { s with mg := m, out := o, freeCount := n } := by
  unfold State.clockByte
  split
  · split <;> exact ⟨_, _, _, rfl⟩
  · exact ⟨_, _, _, rfl⟩

/-- A count of the timers leaves all but the timers, the management port and what is driven. -/
theorem State.count_frame (s : State) : ∃ ch en lt m o n, s.count = { s with
    pu := { s.pu with channel := ch }, tt := { s.tt with entries := en }, hp := { s.hp with lockTimer := lt },
    mg := m, out := o, freeCount := n } := by
  obtain ⟨m, o, n, h⟩ :=
    State.clockByte_frame { s.countTimers with out := [], freeCount := s.freeCount + s.dueTimers.length }
  exact ⟨_, _, _, m, o, n, h⟩

theorem State.txn_countTimers (s : State) (i : EntryIx) :
    s.countTimers.txn i = (s.txn i).map fun t => { t with wbTimer := t.wbTimer.map WbTimer.count } := by
  simp [State.countTimers, State.txn]

theorem State.txn_count (s : State) (i : EntryIx) :
    s.count.txn i = (s.txn i).map fun t => { t with wbTimer := t.wbTimer.map WbTimer.count } := by
  obtain ⟨m, o, n, h⟩ :=
    State.clockByte_frame { s.countTimers with out := [], freeCount := s.freeCount + s.dueTimers.length }
  rw [State.count, h]
  exact s.txn_countTimers i

theorem State.workAt_count (s : State) (i : EntryIx) : s.count.workAt i = s.workAt i := by
  rw [State.workAt, State.txn_count, Option.map_map]
  rfl

/-! ### Steps -/

/-- What every step keeps: a property that each part of a step keeps. -/
structure KeptByParts (I : State → Prop) : Prop where
  course : ∀ {c s t}, Does c True s t → I s → I t
  assert : ∀ s, I s → ∀ t, exec .resetPinAssert s = .next t → I t
  release : ∀ a b d s t, exec (.resetPinRelease a b d) s = .next t → I t
  count : ∀ {s}, I s → I s.count
  around : ∀ {s} (q : List Instr) (o : List Output), I s → I { s with pending := q, out := o }

theorem KeptByParts.exec {I : State → Prop} (h : KeptByParts I) {c : Instr} {s t : State} (hs : I s)
    (he : exec c s = .next t) : I t := by
  by_cases h1 : c = .resetPinAssert
  · exact h.assert s hs t (h1 ▸ he)
  · by_cases h2 : ∃ a b d, c = .resetPinRelease a b d
    · obtain ⟨a, b, d, rfl⟩ := h2
      exact h.release a b d s t he
    · exact h.course (exec_ends he h1 fun a b d hc => h2 ⟨a, b, d, hc⟩).course hs

theorem KeptByParts.expire {I : State → Prop} (h : KeptByParts I) {s : State} (k : Timer) (hs : I s) : I (s.expire k) := by
  obtain ⟨u, hu⟩ := k.exec_command s
  by_cases hk : s.timerLeft k = some 0
  · rw [State.expire_of_out hk hu]
    exact h.around u.pending _ (h.exec hs hu)
  · rwa [State.expire_of_ne hk]

theorem KeptByParts.tick {I : State → Prop} (h : KeptByParts I) {s : State} (hs : I s) : I s.tick := by
  have key : ∀ (ks : List Timer) (u : State), I u → I (ks.foldl State.expire u) := by
    intro ks
    induction ks with
    | nil => exact fun _ hu => hu
    | cons k ks ih => exact fun u hu => ih _ (h.expire k hu)
  exact key _ _ (h.count hs)

/-- A step is a tick or a command. -/
theorem KeptByParts.step {I : State → Prop} (h : KeptByParts I) {s t : State} (hs : I s) (he : step s = .next t) : I t := by
  unfold Machine.step at he
  split at he
  · exact next_inj he ▸ h.tick hs
  · exact h.exec (h.around _ s.out hs) he

/-- R198: what the release of the RESET pin leaves. -/
theorem exec_resetPinRelease_next {a b d : Bool} {s t : State} (h : exec (.resetPinRelease a b d) s = .next t) :
    t = { State.afterReset a b d with
      pins := { (State.afterReset a b d).pins with hrstAsserted := s.pins.hrstAsserted }
      pending := s.pending
      freeCount := s.freeCount } := by
  simp only [exec, execResetPinRelease] at h
  split at h
  · exact (next_inj h).symm
  · cases h

theorem exec_resetPinAssert_next {s t : State} (h : exec .resetPinAssert s = .next t) :
    t = { State.afterReset s.pins.ma1 s.pins.ma0 s.pins.start with
      pd := { (State.afterReset s.pins.ma1 s.pins.ma0 s.pins.start).pd with admitPolicy := s.pd.admitPolicy }
      rm := { (State.afterReset s.pins.ma1 s.pins.ma0 s.pins.start).rm with defaults := s.rm.defaults }
      msc := { (State.afterReset s.pins.ma1 s.pins.ma0 s.pins.start).msc with mode := s.msc.mode }
      pins := { s.pins with resetAsserted := true }
      pending := s.pending
      freeCount := s.freeCount } := (next_inj h).symm

/-! ### The bounds of tables and queues -/

theorem State.afterReset_withinCapacity (a b d : Bool) : (State.afterReset a b d).WithinCapacity where
  quarantine := ⟨Nat.zero_le _, .nil⟩
  faults := Nat.zero_le _
  outstanding := Nat.zero_le _
  lockSet := ⟨Nat.zero_le _, .nil⟩
  ingress p := by simp [State.afterReset, State.port, Port.afterReset]
  locks := .nil
  waiters := nofun
  recallWait := ⟨Nat.zero_le _, .nil, List.not_mem_nil⟩
  probeQueue := ⟨Nat.zero_le _, .nil⟩
  waiting := ⟨Nat.zero_le _, .nil⟩

theorem keptByParts_withinCapacity : KeptByParts State.WithinCapacity where
  course h hs := h.withinCapacity hs
  assert s _ t h := by
    rw [exec_resetPinAssert_next h]
    exact { State.afterReset_withinCapacity s.pins.ma1 s.pins.ma0 s.pins.start with }
  release a b d s t h := by
    rw [exec_resetPinRelease_next h]
    exact { State.afterReset_withinCapacity a b d with }
  count {s} hs := by
    obtain ⟨ch, en, lt, m, o, n, e⟩ := s.count_frame
    rw [e]
    exact { hs with }
  around q o hs := { hs with }

/-- Settles O58: along a course each update keeps the bounds (`Does.withinCapacity`), and the RESET pin empties all. -/
theorem everyStepKeepsTablesAndQueuesBounded : Obligations.EveryStepKeepsTablesAndQueuesBounded :=
  fun _ _ hs h => keptByParts_withinCapacity.step hs h

/-! ### The form of the directory -/

/-- R1, R3: a list of entries that set `k` may hold. -/
def SetKept (k : SetIx) (es : List DirEntry) : Prop :=
  es.length ≤ 4 ∧ (es.map DirEntry.way).Nodup ∧ (es.map DirEntry.line).Nodup ∧ ∀ e ∈ es, setOf e.line = k

theorem State.directoryKept_iff {s : State} : s.DirectoryKept ↔ ∀ k : SetIx, SetKept k s.pd.sets[k.val] := .rfl

/-- Distinct ways are at most 4. -/
theorem length_le_of_ways {es : List DirEntry} (h : (es.map DirEntry.way).Nodup) : es.length ≤ 4 := by
  have := h.length_le_card
  simpa using this

theorem SetKept.nil (k : SetIx) : SetKept k [] := ⟨Nat.zero_le _, .nil, .nil, nofun⟩

theorem SetKept.filter {k : SetIx} {es : List DirEntry} (h : SetKept k es) (f : DirEntry → Bool) :
    SetKept k (es.filter f) := by
  obtain ⟨hlen, hway, hline, hset⟩ := h
  exact ⟨(List.length_filter_le _ _).trans hlen, (List.filter_sublist.map _).nodup hway,
    (List.filter_sublist.map _).nodup hline, fun e he => hset e (List.mem_filter.mp he).1⟩

/-- An entry of a way and a line that the set does not hold joins it. -/
theorem SetKept.cons {k : SetIx} {es : List DirEntry} (h : SetKept k es) {e : DirEntry}
    (hne : ∀ e' ∈ es, e'.way ≠ e.way ∧ e'.line ≠ e.line) (hk : setOf e.line = k) : SetKept k (e :: es) := by
  obtain ⟨hlen, hway, hline, hset⟩ := h
  have hway' : ((e :: es).map DirEntry.way).Nodup := List.nodup_cons.mpr ⟨fun hm => by
    obtain ⟨e', he', hw⟩ := List.mem_map.mp hm
    exact (hne e' he').1 hw, hway⟩
  refine ⟨length_le_of_ways hway', hway', List.nodup_cons.mpr ⟨fun hm => ?_, hline⟩, fun e' he' => ?_⟩
  · obtain ⟨e', he', hl⟩ := List.mem_map.mp hm
    exact (hne e' he').2 hl
  · rcases List.mem_cons.mp he' with rfl | he'
    · exact hk
    · exact hset e' he'

/-- A change of an entry's state and policy keeps ways and lines. -/
theorem SetKept.map {k : SetIx} {es : List DirEntry} (h : SetKept k es) {f : DirEntry → DirEntry}
    (hf : ∀ e, (f e).way = e.way ∧ (f e).line = e.line) : SetKept k (es.map f) := by
  obtain ⟨hlen, hway, hline, hset⟩ := h
  have h1 : (es.map f).map DirEntry.way = es.map DirEntry.way := by
    rw [List.map_map]; exact List.map_congr_left fun e _ => (hf e).1
  have h2 : (es.map f).map DirEntry.line = es.map DirEntry.line := by
    rw [List.map_map]; exact List.map_congr_left fun e _ => (hf e).2
  refine ⟨by simpa using hlen, h1 ▸ hway, h2 ▸ hline, fun e he => ?_⟩
  obtain ⟨e', he', rfl⟩ := List.mem_map.mp he
  exact (hf e').2 ▸ hset e' he'

theorem State.DirectoryKept.dirSet {s : State} (h : s.DirectoryKept) (l : Line) : SetKept (setOf l) (s.dirSet l) := h (setOf l)

theorem State.DirectoryKept.putSet {s : State} (h : s.DirectoryKept) {l : Line} {es : List DirEntry}
    (hes : SetKept (setOf l) es) : (s.putSet l es).DirectoryKept := fun k => by
  by_cases hk : k = setOf l
  · subst hk
    have : (s.putSet l es).pd.sets[(setOf l).val] = es := State.dirSet_putSet_self s l es
    rw [this]
    exact hes
  · rw [State.sets_putSet_ne s l es k hk]
    exact h k

/-- R10: the entry of a line in a set of which no two entries are of one line or way. -/
theorem SetKept.reReserve {k : SetIx} {es : List DirEntry} (h : SetKept k es) {l : Line} {e : DirEntry}
    (he : es.find? (fun e => e.line == l) = some e) (p : EntryPolicy) :
    SetKept k ({ e with state := .reserved, policy := p } :: es.filter fun e' => e'.line != l) := by
  have hmem := List.mem_of_find?_eq_some he
  have hl : e.line = l := by simpa using List.find?_some he
  refine (h.filter _).cons (fun e' he' => ?_) (h.2.2.2 e hmem)
  obtain ⟨hm, hne⟩ := List.mem_filter.mp he'
  have hne : e'.line ≠ l := by simpa using hne
  exact ⟨fun hw => hne (by rw [List.inj_on_of_nodup_map h.2.1 hm hmem hw, hl]), fun hl' => hne (hl' ▸ hl)⟩

theorem Does.directoryKept {c : Instr} {P : Prop} {s₀ s : State} (h : Does c P s₀ s) (h₀ : s₀.DirectoryKept) :
    s.DirectoryKept := by
  induction h with
  | start => exact h₀
  | handRecord _ r ih => obtain ⟨e, h⟩ := State.handRecord_frame r _; rw [h]; exact ih
  | insertEntry _ l w p _ ih =>
    rcases State.insertEntry_cases l w p _ with ⟨hne, e⟩ | e <;> rw [e]
    · exact ih.putSet ((ih.dirSet l).cons hne rfl)
    · exact ih
  | reReserve _ l p ih =>
    unfold State.reReserve
    split
    · exact ih
    · exact ih.putSet ((ih.dirSet l).reReserve ‹_› p)
  | dropEntry _ l ih =>
    rcases State.dropEntry_cases l _ with e | e <;> rw [e]
    · exact ih
    · exact ih.putSet ((ih.dirSet l).filter _)
  | holdEntry _ _ l ih => exact ih.putSet ((ih.dirSet l).map fun e => by split <;> exact ⟨rfl, rfl⟩)
  | flush _ ih =>
    intro k
    show SetKept k (Vector.map _ _)[k.val]
    rw [Vector.getElem_map]
    exact (State.directoryKept_iff.mp ih k).filter _
  | clearDirectory _ _ =>
    intro k
    rw [State.clearDirectory_pd_sets, Vector.getElem_replicate]
    exact SetKept.nil k
  | takeAdmitPolicy _ b _ ih => obtain ⟨p, h⟩ := State.takeAdmitPolicy_frame b _; rw [h]; exact ih
  | takeLockLimit _ b _ ih => obtain ⟨n, h⟩ := State.takeLockLimit_frame b _; rw [h]; exact ih
  | respond _ i code ih => obtain ⟨en, rp, h⟩ := State.respond_frame i code _; rw [h]; exact ih
  | _ => rename_i ih; exact ih

theorem State.DirectoryKept.of_empty {s : State} (h : s.pd.sets = Vector.replicate 256 []) : s.DirectoryKept := fun k => by
  rw [h, Vector.getElem_replicate]
  exact SetKept.nil k

theorem keptByParts_directoryKept : KeptByParts State.DirectoryKept where
  course h hs := h.directoryKept hs
  assert s _ t h := by rw [exec_resetPinAssert_next h]; exact .of_empty rfl
  release a b d s t h := by rw [exec_resetPinRelease_next h]; exact .of_empty rfl
  count {s} hs := by
    obtain ⟨ch, en, lt, m, o, n, e⟩ := s.count_frame
    rw [e]
    exact hs
  around q o hs := hs

/-- Settles O57: each update of the directory leaves sets of at most 4 entries in distinct ways, of distinct lines of the
set (`Does.directoryKept`). -/
theorem everyStepKeepsTheDirectory : Obligations.EveryStepKeepsTheDirectory :=
  fun _ _ hs h => keptByParts_directoryKept.step hs h

/-! ### Kinds, limits and PASS -/

/-- R28: the kinds stand in their places, said of the works. -/
theorem State.kindsInPlace_iff {s : State} :
    s.KindsInPlace ↔ ∀ i w, s.workAt i = some w → (w.kind = .recall ↔ i = recallEntry) := by
  constructor
  · intro h i w hw
    obtain ⟨t, ht, rfl⟩ := Option.map_eq_some_iff.mp hw
    exact h i t ht
  · intro h i t ht
    exact h i t.work (by rw [State.workAt, ht]; rfl)

theorem State.KindsInPlace.of_workAt {s t : State} (h : s.KindsInPlace) (hw : ∀ i, t.workAt i = s.workAt i) :
    t.KindsInPlace :=
  State.kindsInPlace_iff.mpr fun i w hi => State.kindsInPlace_iff.mp h i w (hw i ▸ hi)

theorem State.KindsInPlace.freeEntry {s : State} (h : s.KindsInPlace) (i : EntryIx) : (s.freeEntry i).KindsInPlace :=
  State.kindsInPlace_iff.mpr fun j w hj => by
    rw [State.workAt_freeEntry] at hj
    split at hj
    · cases hj
    · exact State.kindsInPlace_iff.mp h j w hj

theorem State.KindsInPlace.putTxn {s : State} (h : s.KindsInPlace) {i : EntryIx} {t : Txn}
    (hk : t.work.kind = .recall ↔ i = recallEntry) : (s.putTxn i (some t)).KindsInPlace :=
  State.kindsInPlace_iff.mpr fun j w hj => by
    rw [State.workAt_putTxn] at hj
    split at hj
    · cases hj; subst j; exact hk
    · exact State.kindsInPlace_iff.mp h j w hj

/-- R29: a requester's work is no RECALL. -/
theorem Accepted.toWork_kind_ne (r : Accepted) (p : PortIx) : (r.toWork p).kind ≠ .recall := by
  unfold Accepted.toWork
  split <;> nofun

theorem Does.kindsInPlace {c : Instr} {P : Prop} {s₀ s : State} (h : Does c P s₀ s) (h₀ : s₀.KindsInPlace) :
    s.KindsInPlace := by
  induction h with
  | start => exact h₀
  | handRecord _ r ih => obtain ⟨e, h⟩ := State.handRecord_frame r _; rw [h]; exact ih
  | insertEntry _ l w p _ ih => obtain ⟨d, h⟩ := State.insertEntry_frame l w p _; rw [h]; exact ih
  | reReserve _ l p ih => obtain ⟨d, h⟩ := State.reReserve_frame l p _; rw [h]; exact ih
  | dropEntry _ l ih => obtain ⟨d, h⟩ := State.dropEntry_frame l _; rw [h]; exact ih
  | takeAdmitPolicy _ b _ ih => obtain ⟨p, h⟩ := State.takeAdmitPolicy_frame b _; rw [h]; exact ih
  | takeLockLimit _ b _ ih => obtain ⟨n, h⟩ := State.takeLockLimit_frame b _; rw [h]; exact ih
  | modTxn _ i f hf ih => exact ih.of_workAt fun j => State.workAt_modTxn _ i j hf
  | startPendingTimers _ ih => exact ih.of_workAt fun j => State.workAt_startPendingTimers _ j
  | freeEntry _ i _ ih => exact ih.freeEntry i
  | putTxn _ i t _ _ hk ih => exact ih.putTxn hk
  | grant _ _ i p r rest _ hi _ ih =>
    exact State.KindsInPlace.putTxn (s := State.setRoundRobin p (State.modPort p _ _)) ih
      ⟨fun hk => absurd hk (r.toWork_kind_ne p), fun h => absurd h hi⟩
  | respond _ i code ih =>
    rcases State.respond_cases _ i code with ⟨e, -⟩ | ⟨t, p, g, -, -, -, e⟩ | ⟨t, -, -, e⟩ <;> rw [e]
    · exact ih
    · exact State.KindsInPlace.freeEntry (s := State.placeResponse p _ _) ih i
    · exact ih.freeEntry i
  | _ => rename_i ih; exact ih

theorem State.KindsInPlace.of_empty {s : State} (h : s.tt.entries = Vector.replicate 12 none) : s.KindsInPlace :=
  fun i t ht => by simp [State.txn, h] at ht

theorem keptByParts_kindsInPlace : KeptByParts State.KindsInPlace where
  course h hs := h.kindsInPlace hs
  assert s _ t h := by rw [exec_resetPinAssert_next h]; exact .of_empty rfl
  release a b d s t h := by rw [exec_resetPinRelease_next h]; exact .of_empty rfl
  count {s} hs := hs.of_workAt s.workAt_count
  around q o hs := hs

end Sys2Proof.Machine
end

section
/-! SUPPORT. The limits software writes, the empty directory of PASS, and the tags each port carries, along a course and at every
step. -/

set_option Elab.async false

namespace Sys2Proof.Machine


/-! ### The limits -/

/-- R75: a limit written as 0 leaves the old one. -/
theorem takeLimit_pos {old new : BitVec 8} (h : 1 ≤ old.toNat) : 1 ≤ (takeLimit old new).toNat := by
  unfold takeLimit
  split
  · exact h
  · bv_omega

/-- R113: LOCK_LIMIT takes the values 1 to 1023. -/
theorem State.takeLockLimit_range {b : Byte} {s : State} (h : 1 ≤ s.hp.lockLimit.toNat ∧ s.hp.lockLimit.toNat ≤ 1023) :
    1 ≤ (s.takeLockLimit b).hp.lockLimit.toNat ∧ (s.takeLockLimit b).hp.lockLimit.toNat ≤ 1023 := by
  unfold State.takeLockLimit
  dsimp only
  split
  · exact h
  · rename_i hv
    obtain ⟨hne, hle⟩ := not_or.mp hv
    have hpos : 0 < (s.newValue b).toNat := by bv_omega
    have : ((s.newValue b).setWidth 16).toNat = (s.newValue b).toNat := by
      rw [BitVec.toNat_setWidth]
      exact Nat.mod_eq_of_lt (by omega)
    show 1 ≤ ((s.newValue b).setWidth 16).toNat ∧ ((s.newValue b).setWidth 16).toNat ≤ 1023
    omega

theorem Does.limitsInRange {c : Instr} {P : Prop} {s₀ s : State} (h : Does c P s₀ s) (h₀ : s₀.LimitsInRange) :
    s.LimitsInRange := by
  induction h with
  | start => exact { h₀ with }
  | handRecord _ r ih => obtain ⟨e, h⟩ := State.handRecord_frame r _; rw [h]; exact { ih with }
  | insertEntry _ l w p _ ih => obtain ⟨d, h⟩ := State.insertEntry_frame l w p _; rw [h]; exact { ih with }
  | reReserve _ l p ih => obtain ⟨d, h⟩ := State.reReserve_frame l p _; rw [h]; exact { ih with }
  | dropEntry _ l ih => obtain ⟨d, h⟩ := State.dropEntry_frame l _; rw [h]; exact { ih with }
  | takeAdmitPolicy _ b _ ih => obtain ⟨p, h⟩ := State.takeAdmitPolicy_frame b _; rw [h]; exact { ih with }
  | respond _ i code ih => obtain ⟨en, rp, h⟩ := State.respond_frame i code _; rw [h]; exact { ih with }
  | takeProbeTimes _ b _ ih => exact { ih with probe := takeLimit_pos ih.probe, writeback := takeLimit_pos ih.writeback }
  | takeLockLimit _ b _ ih =>
    have hl := State.takeLockLimit_range (b := b) ih.lock
    obtain ⟨n, h⟩ := State.takeLockLimit_frame b _
    rw [h] at hl ⊢
    exact { ih with lock := hl }
  | _ => rename_i ih; exact { ih with }

theorem State.afterReset_limitsInRange (a b d : Bool) : (State.afterReset a b d).LimitsInRange where
  probe := by show 1 ≤ (16#8).toNat; decide
  writeback := by show 1 ≤ (32#8).toNat; decide
  lock := by show 1 ≤ (128#16).toNat ∧ (128#16).toNat ≤ 1023; decide

theorem keptByParts_limitsInRange : KeptByParts State.LimitsInRange where
  course h hs := h.limitsInRange hs
  assert s _ t h := by
    rw [exec_resetPinAssert_next h]
    exact { State.afterReset_limitsInRange s.pins.ma1 s.pins.ma0 s.pins.start with }
  release a b d s t h := by
    rw [exec_resetPinRelease_next h]
    exact { State.afterReset_limitsInRange a b d with }
  count {s} hs := by
    obtain ⟨ch, en, lt, m, o, n, e⟩ := s.count_frame
    rw [e]
    exact { hs with }
  around q o hs := { hs with }

/-! ### PASS and the directory -/

theorem State.PassIsEmpty.putSet {s : State} (h : s.PassIsEmpty) {l : Line} {es : List DirEntry}
    (hes : s.dirSet l = [] → es = []) : (s.putSet l es).PassIsEmpty := fun hm k => by
  by_cases hk : k = setOf l
  · subst hk
    exact (State.dirSet_putSet_self s l es).trans (hes (h hm _))
  · exact (State.sets_putSet_ne s l es k hk).trans (h hm k)

theorem Does.passIsEmpty {c : Instr} {P : Prop} {s₀ s : State} (h : Does c P s₀ s) (h₀ : s₀.PassIsEmpty) :
    s.PassIsEmpty := by
  induction h with
  | start => exact h₀
  | handRecord _ r ih => obtain ⟨e, h⟩ := State.handRecord_frame r _; rw [h]; exact ih
  | insertEntry _ l w p hm ih =>
    obtain ⟨d, h⟩ := State.insertEntry_frame l w p _
    rw [h]
    exact fun hp => absurd (hm.symm.trans hp) (by decide)
  | reReserve _ l p ih =>
    unfold State.reReserve
    split
    · exact ih
    · rename_i hf
      exact ih.putSet fun hnil => by rw [State.findEntry, hnil] at hf; cases hf
  | dropEntry _ l ih =>
    rcases State.dropEntry_cases l _ with e | e <;> rw [e]
    · exact ih
    · exact ih.putSet fun hnil => by rw [hnil, List.filter_nil]
  | holdEntry _ _ l ih => exact ih.putSet fun hnil => by rw [hnil, List.map_nil]
  | flush _ ih =>
    intro hm k
    show (Vector.map _ _)[k.val] = _
    rw [Vector.getElem_map, ih hm k]
    rfl
  | clearDirectory _ _ => intro _ k; rw [State.clearDirectory_pd_sets, Vector.getElem_replicate]
  | takeAdmitPolicy _ b _ ih => obtain ⟨p, h⟩ := State.takeAdmitPolicy_frame b _; rw [h]; exact ih
  | takeLockLimit _ b _ ih => obtain ⟨n, h⟩ := State.takeLockLimit_frame b _; rw [h]; exact ih
  | respond _ i code ih => obtain ⟨en, rp, h⟩ := State.respond_frame i code _; rw [h]; exact ih
  | setMode _ m hm _ => exact hm
  | _ => rename_i ih; exact ih

theorem State.PassIsEmpty.of_empty {s : State} (h : s.pd.sets = Vector.replicate 256 []) : s.PassIsEmpty := fun _ k => by
  rw [h, Vector.getElem_replicate]

theorem keptByParts_passIsEmpty : KeptByParts State.PassIsEmpty where
  course h hs := h.passIsEmpty hs
  assert s _ t h := by rw [exec_resetPinAssert_next h]; exact .of_empty rfl
  release a b d s t h := by rw [exec_resetPinRelease_next h]; exact .of_empty rfl
  count {s} hs := by
    obtain ⟨ch, en, lt, m, o, n, e⟩ := s.count_frame
    rw [e]
    exact hs
  around q o hs := hs

/-- Settles O60: each update keeps the kinds in their places, the limits in their ranges and the directory of PASS empty. -/
theorem everyStepKeepsKindsLimitsAndPass : Obligations.EveryStepKeepsKindsLimitsAndPass :=
  ⟨fun _ _ hs h => keptByParts_kindsInPlace.step hs h, fun _ _ hs h => keptByParts_limitsInRange.step hs h,
    fun _ _ hs h => keptByParts_passIsEmpty.step hs h⟩

/-! ### Tags -/

/-- R119: the tags held are distinct, and the tag set shows exactly them. -/
def TagsHeld (tags : Vector Bool 16) (held : List Tag) : Prop :=
  held.Nodup ∧ ∀ g : Tag, tags[g.val] = true ↔ g ∈ held

/-- The tags a port carries: of its queued requests, its transactions in the table and its responses. -/
def State.heldTags (s : State) (p : PortIx) : List Tag :=
  (s.port p).ingress.map Accepted.tag ++ s.tableTags p ++ (s.port p).responses.map Response.tag

theorem State.tagsAccounted_iff {s : State} : s.TagsAccounted ↔ ∀ p, TagsHeld (s.port p).tags (s.heldTags p) := .rfl

theorem TagsHeld.perm {tags : Vector Bool 16} {held held' : List Tag} (h : TagsHeld tags held) (hp : held'.Perm held) :
    TagsHeld tags held' := ⟨hp.nodup_iff.mpr h.1, fun g => (h.2 g).trans hp.mem_iff.symm⟩

/-- R125: a free tag joins. -/
theorem TagsHeld.cons {tags : Vector Bool 16} {held : List Tag} (h : TagsHeld tags held) {g : Tag}
    (hg : tags[g.val] = false) : TagsHeld (tags.set g.val true g.isLt) (g :: held) := by
  refine ⟨List.nodup_cons.mpr ⟨fun hm => ?_, h.1⟩, fun g' => ?_⟩
  · exact absurd ((h.2 g).mpr hm) (by simp [hg])
  · rw [Vector.getElem_set, List.mem_cons]
    split
    · rename_i he
      exact ⟨fun _ => .inl (Fin.ext he.symm), fun _ => rfl⟩
    · rename_i he
      rw [h.2 g', or_iff_right fun e => he (congrArg Fin.val e.symm)]

/-- R133: the tag of a response that is taken leaves. -/
theorem TagsHeld.of_cons {tags : Vector Bool 16} {held : List Tag} {g : Tag} (h : TagsHeld tags (g :: held)) :
    TagsHeld (tags.set g.val false g.isLt) held := by
  obtain ⟨hg, hn⟩ := List.nodup_cons.mp h.1
  refine ⟨hn, fun g' => ?_⟩
  rw [Vector.getElem_set]
  split
  · rename_i he
    obtain rfl : g = g' := Fin.ext he
    exact ⟨nofun, fun hm => absurd hm hg⟩
  · rename_i he
    rw [h.2 g', List.mem_cons, or_iff_right fun e => he (congrArg Fin.val e.symm)]

/-- The tag that a work carries for a port. -/
def Work.tagOf (p : PortIx) (w : Work) : Option Tag := if w.port? = some p then w.tag? else none

theorem Work.tagOf_of_none {p : PortIx} {w : Work} (h : w.port? = none) : w.tagOf p = none := by
  rw [Work.tagOf, h, if_neg nofun]

theorem Work.tagOf_of_ne {p q : PortIx} {w : Work} (h : w.port? = some q) (hne : p ≠ q) : w.tagOf p = none := by
  rw [Work.tagOf, h, if_neg fun e => hne (Option.some.inj e).symm]

theorem Work.tagOf_self {p : PortIx} {w : Work} {g : Tag} (h : w.port? = some p) (hg : w.tag? = some g) :
    w.tagOf p = some g := by rw [Work.tagOf, if_pos h, hg]

/-- The tags of a port's transactions are read off the works. -/
theorem State.tableTags_eq (s : State) (p : PortIx) :
    s.tableTags p = allEntries.filterMap fun i => (s.workAt i).bind (Work.tagOf p) := by
  refine List.filterMap_congr fun i _ => ?_
  rw [State.workAt]
  cases s.txn i <;> rfl

theorem State.tableTags_congr {s t : State} {p : PortIx}
    (h : ∀ i, (t.workAt i).bind (Work.tagOf p) = (s.workAt i).bind (Work.tagOf p)) : t.tableTags p = s.tableTags p := by
  rw [State.tableTags_eq, State.tableTags_eq]
  exact List.filterMap_congr fun i _ => h i

/-- An entry that comes to hold a tag, no other entry's tag changed. -/
theorem State.tableTags_cons {s t : State} {p : PortIx} {i : EntryIx} {g : Tag}
    (hs : (s.workAt i).bind (Work.tagOf p) = none) (ht : (t.workAt i).bind (Work.tagOf p) = some g)
    (h : ∀ j, j ≠ i → t.workAt j = s.workAt j) : (t.tableTags p).Perm (g :: s.tableTags p) := by
  have hperm : allEntries.Perm (i :: allEntries.erase i) := List.perm_cons_erase (List.mem_finRange i)
  have hrest : (allEntries.erase i).filterMap (fun j => (t.workAt j).bind (Work.tagOf p)) =
      (allEntries.erase i).filterMap (fun j => (s.workAt j).bind (Work.tagOf p)) := by
    refine List.filterMap_congr fun j hj => ?_
    rw [h j fun e => (List.nodup_finRange 12).not_mem_erase (e ▸ hj)]
  rw [State.tableTags_eq, State.tableTags_eq]
  refine (hperm.filterMap _).trans (.trans ?_ ((hperm.filterMap _).symm.cons g))
  rw [List.filterMap_cons_some (f := fun j => (t.workAt j).bind (Work.tagOf p)) ht,
    List.filterMap_cons_none (f := fun j => (s.workAt j).bind (Work.tagOf p)) hs, hrest]

/-- What leaves every port and the tags in the table as they were keeps the tags accounted for. -/
theorem State.TagsAccounted.of_same {s t : State} (h : s.TagsAccounted) (hp : ∀ p, t.port p = s.port p)
    (ht : ∀ p i, (t.workAt i).bind (Work.tagOf p) = (s.workAt i).bind (Work.tagOf p)) : t.TagsAccounted := fun p => by
  have := h p
  rwa [← State.tableTags_congr (ht p), ← hp p] at this

theorem State.TagsAccounted.of_workAt {s t : State} (h : s.TagsAccounted) (hp : ∀ p, t.port p = s.port p)
    (ht : ∀ i, t.workAt i = s.workAt i) : t.TagsAccounted := h.of_same hp fun p i => by rw [ht i]

/-- A work with no port leaves the table. -/
theorem State.TagsAccounted.freeEntry {s : State} (h : s.TagsAccounted) {i : EntryIx}
    (hw : ∀ w, s.workAt i = some w → w.port? = none) : (s.freeEntry i).TagsAccounted :=
  h.of_same (fun _ => rfl) fun p j => by
    rw [State.workAt_freeEntry]
    split
    · subst j
      cases e : s.workAt i with
      | none => rfl
      | some w => exact (Work.tagOf_of_none (hw w e)).symm
    · rfl

/-- A change at one port, the tags it carries a permutation, and those of the other ports as they were. -/
theorem State.TagsAccounted.at_port {s t : State} (h : s.TagsAccounted) (p : PortIx)
    (hne : ∀ q, q ≠ p → t.port q = s.port q ∧ t.tableTags q = s.tableTags q)
    (hp : TagsHeld (s.port p).tags (s.heldTags p) → TagsHeld (t.port p).tags (t.heldTags p)) : t.TagsAccounted := fun q => by
  by_cases hq : q = p
  · subst hq
    exact hp (State.tagsAccounted_iff.mp h q)
  · have := h q
    rwa [← (hne q hq).2, ← (hne q hq).1] at this

theorem Accepted.toWork_port? (r : Accepted) (p : PortIx) : (r.toWork p).port? = some p := by
  unfold Accepted.toWork
  split <;> rfl

theorem Accepted.toWork_tag? (r : Accepted) (p : PortIx) : (r.toWork p).tag? = some r.tag := by
  unfold Accepted.toWork
  split <;> rfl

/-- R45: a request leaves its queue for an entry, with its tag. -/
theorem State.TagsAccounted.grant {s : State} (h : s.TagsAccounted) {i : EntryIx} {p : PortIx} {r : Accepted}
    {rest : List Accepted} (hfree : s.txn i = none) (hq : (s.port p).ingress = r :: rest) :
    (((s.modPort p fun q => { q with ingress := rest }).setRoundRobin p).putTxn i
      (some (Txn.fresh (r.toWork p) r.line .lockWait))).TagsAccounted := by
  have hnone : s.workAt i = none := (s.txn_eq_none_iff_workAt i).mp hfree
  set t := ((s.modPort p fun q => { q with ingress := rest }).setRoundRobin p).putTxn i
    (some (Txn.fresh (r.toWork p) r.line .lockWait)) with ht
  have hport : ∀ q, t.port q = if q = p then { s.port p with ingress := rest } else s.port q := fun q =>
    State.port_modPort s p q fun q => { q with ingress := rest }
  have hwork : ∀ j, t.workAt j = if j = i then some (r.toWork p) else s.workAt j := fun j =>
    State.workAt_putTxn _ i j _
  refine h.at_port p (fun q hne => ⟨by rw [hport, if_neg hne], State.tableTags_congr fun j => ?_⟩) fun hp => ?_
  · rw [hwork]
    split
    · subst j
      rw [hnone]
      exact Work.tagOf_of_ne (r.toWork_port? p) hne
    · rfl
  · have hcons : (t.tableTags p).Perm (r.tag :: s.tableTags p) := by
      refine State.tableTags_cons (i := i) (by rw [hnone]; rfl) ?_ fun j hj => by rw [hwork, if_neg hj]
      rw [hwork, if_pos rfl]
      exact Work.tagOf_self (r.toWork_port? p) (r.toWork_tag? p)
    have hp' : t.port p = { s.port p with ingress := rest } := by rw [hport, if_pos rfl]
    rw [State.heldTags, hp']
    refine hp.perm ?_
    rw [State.heldTags, hq, List.map_cons]
    refine List.Perm.append_right _ ?_
    exact ((hcons.append_left _).trans List.perm_middle)

/-- R133: a transaction's tag goes from the table to its response. -/
theorem State.TagsAccounted.respond {s : State} (h : s.TagsAccounted) (i : EntryIx) (code : ResultCode) :
    (s.respond i code).TagsAccounted := by
  rcases s.respond_cases i code with ⟨e, -⟩ | ⟨x, p, g, hx, hp, hg, e⟩ | ⟨x, hx, hp, e⟩ <;> rw [e]
  · exact h
  · have hwork : s.workAt i = some x.work := by rw [State.workAt, hx]; rfl
    set r : Response := { tag := g, result := code, data := if code = .ok then x.responseData else .none }
    set t := (s.placeResponse p r).freeEntry i with ht
    have hport : ∀ q, t.port q = if q = p then { s.port p with responses := (s.port p).responses ++ [r] } else s.port q :=
      fun q => State.port_modPort s p q fun q => { q with responses := q.responses ++ [r] }
    have hworkt : ∀ j, t.workAt j = if j = i then none else s.workAt j := fun j => State.workAt_freeEntry _ i j
    refine h.at_port p (fun q hne => ⟨by rw [hport, if_neg hne], State.tableTags_congr fun j => ?_⟩) fun hheld => ?_
    · rw [hworkt]
      split
      · subst j
        rw [hwork]
        exact (Work.tagOf_of_ne hp hne).symm
      · rfl
    · have hcons : (s.tableTags p).Perm (g :: t.tableTags p) := by
        refine State.tableTags_cons (i := i) (by rw [hworkt, if_pos rfl]; rfl) ?_ fun j hj => by rw [hworkt, if_neg hj]
        rw [hwork]
        exact Work.tagOf_self hp hg
      have hp' : t.port p = { s.port p with responses := (s.port p).responses ++ [r] } := by rw [hport, if_pos rfl]
      rw [State.heldTags, hp']
      refine hheld.perm ?_
      rw [State.heldTags, List.map_append, List.append_assoc, List.append_assoc]
      refine List.Perm.append_left _ ?_
      rw [← List.append_assoc]
      refine (List.perm_append_comm).trans ?_
      show (g :: (t.tableTags p ++ (s.port p).responses.map Response.tag)).Perm _
      exact (hcons.symm.append_right _)
  · refine h.freeEntry fun w hw => ?_
    rw [State.workAt, hx] at hw
    exact Option.some.inj hw ▸ hp

/-- A port's change that leaves the table. -/
theorem State.TagsAccounted.modPort {s : State} (h : s.TagsAccounted) (p : PortIx) {f : Port → Port}
    (hf : TagsHeld (s.port p).tags (s.heldTags p) → TagsHeld (f (s.port p)).tags
      ((f (s.port p)).ingress.map Accepted.tag ++ s.tableTags p ++ (f (s.port p)).responses.map Response.tag)) :
    (s.modPort p f).TagsAccounted := by
  refine h.at_port p (fun q hne => ⟨State.port_modPort_ne s (Ne.symm hne) f, rfl⟩) fun hp => ?_
  have e : (s.modPort p f).port p = f (s.port p) := State.port_modPort_self s p f
  rw [State.heldTags, e]
  exact hf hp

theorem Does.tagsAccounted {c : Instr} {P : Prop} {s₀ s : State} (h : Does c P s₀ s) (h₀ : s₀.TagsAccounted) :
    s.TagsAccounted := by
  induction h with
  | start => exact h₀
  | handRecord _ r ih => obtain ⟨e, h⟩ := State.handRecord_frame r _; rw [h]; exact ih
  | insertEntry _ l w p _ ih => obtain ⟨d, h⟩ := State.insertEntry_frame l w p _; rw [h]; exact ih
  | reReserve _ l p ih => obtain ⟨d, h⟩ := State.reReserve_frame l p _; rw [h]; exact ih
  | dropEntry _ l ih => obtain ⟨d, h⟩ := State.dropEntry_frame l _; rw [h]; exact ih
  | takeAdmitPolicy _ b _ ih => obtain ⟨p, h⟩ := State.takeAdmitPolicy_frame b _; rw [h]; exact ih
  | takeLockLimit _ b _ ih => obtain ⟨n, h⟩ := State.takeLockLimit_frame b _; rw [h]; exact ih
  | modTxn _ i f hf ih => exact ih.of_workAt (fun _ => rfl) fun j => State.workAt_modTxn _ i j hf
  | startPendingTimers _ ih => exact ih.of_workAt (fun _ => rfl) fun j => State.workAt_startPendingTimers _ j
  | freeEntry _ i hw ih => exact ih.freeEntry hw
  | @putTxn s _ i t hfree hp _ ih =>
    have hnone : s.workAt i = none := (s.txn_eq_none_iff_workAt i).mp hfree
    refine ih.of_same (fun _ => rfl) fun p j => ?_
    rw [State.workAt_putTxn]
    split
    · subst j
      rw [hnone]
      exact Work.tagOf_of_none hp
    · rfl
  | grant _ _ i p r rest hfree _ hq ih => exact ih.grant hfree hq
  | respond _ i code ih => exact ih.respond i code
  | setPortState _ p st ih => exact ih.modPort p fun hp => hp
  | @answerHead s _ p r rest code hq ih =>
    have hmod : ∀ (f g : Port → Port) (s : State), (s.modPort p f).modPort p g = s.modPort p fun q => g (f q) := by
      intro f g s
      simp [State.modPort]
    rw [State.placeResponse, hmod]
    refine ih.modPort p fun hp => hp.perm ?_
    rw [State.heldTags, hq, List.map_append, List.map_cons, ← List.append_assoc]
    exact (List.perm_append_comm)
  | accept _ p a _ hfree _ ih =>
    refine ih.modPort p fun hp => (hp.cons hfree).perm ?_
    simp only [Port.accept, List.map_append, List.map_cons, List.map_nil, State.heldTags, List.append_assoc]
    exact List.perm_middle
  | @deliver s _ p _ r rest hq ih =>
    refine ih.modPort p fun hp => TagsHeld.of_cons (hp.perm ?_)
    rw [State.heldTags, hq, List.map_cons]
    exact List.perm_middle.symm
  | _ => rename_i ih; exact ih

theorem State.TagsAccounted.of_empty {s : State} (h : s.tt.entries = Vector.replicate 12 none)
    (hp : s.rp = Vector.replicate 4 Port.afterReset) : s.TagsAccounted := fun p => by
  have hport : s.port p = Port.afterReset := by simp [State.port, hp]
  have htab : s.tableTags p = [] := by
    refine List.filterMap_eq_nil_iff.mpr fun i _ => ?_
    simp [State.txn, h]
  rw [hport, htab]
  exact ⟨.nil, fun g => by simp [Port.afterReset]⟩

theorem keptByParts_tagsAccounted : KeptByParts State.TagsAccounted where
  course h hs := h.tagsAccounted hs
  assert s _ t h := by rw [exec_resetPinAssert_next h]; exact .of_empty rfl rfl
  release a b d s t h := by rw [exec_resetPinRelease_next h]; exact .of_empty rfl rfl
  count {s} hs := by
    refine hs.of_workAt (fun p => ?_) s.workAt_count
    obtain ⟨ch, en, lt, m, o, n, e⟩ := s.count_frame
    rw [e]
    rfl
  around q o hs := hs

/-- Settles O59: a request's tag joins at its acceptance, moves with it from queue to table to response, and leaves as the
response is taken (`Does.tagsAccounted`); of 16 tags no response queue can hold more than 16. -/
theorem everyStepKeepsTheTags : Obligations.EveryStepKeepsTheTags := by
  refine ⟨fun _ _ hs h => keptByParts_tagsAccounted.step hs h, fun s hs p => ?_⟩
  have hn : ((s.port p).responses.map Response.tag).Nodup := (hs p).1.of_append_right
  simpa using hn.length_le_card

end Sys2Proof.Machine
end

section
/-! SUPPORT. What a course leaves of the settings, the tags, the outstanding requests, the flags and the records, and which entries
it makes HELD. -/

set_option Elab.async false

namespace Sys2Proof.Machine

/-! ### Settings and records -/

/-- What only the command it names changes. -/
structure LeftBy (c : Instr) (s t : State) : Prop where
  regions : (∀ b, c ≠ .writeRegion b) → t.rm.regions = s.rm.regions
  defaults : (∀ b, c ≠ .defaultAttrWrite b) → t.rm.defaults = s.rm.defaults
  limits : (∀ b, c ≠ .probeTimesWrite b) → t.pu.probeLimit = s.pu.probeLimit ∧ t.pu.wbLimit = s.pu.wbLimit
  lockLimit : (∀ b, c ≠ .lockLimitWrite b) → t.hp.lockLimit = s.hp.lockLimit
  admitPolicy : (∀ b, c ≠ .admitPolicyWrite b) → t.pd.admitPolicy = s.pd.admitPolicy
  enables : (∀ b, c ≠ .eventEnableWrite b) → t.ev.enables = s.ev.enables
  roundRobin : c ≠ .admissionGrant → t.tt.roundRobin = s.tt.roundRobin
  tags : (∀ p r, c ≠ .requestOffer p r) → (∀ p, c ≠ .responseTaken p) → ∀ p, (t.port p).tags = (s.port p).tags
  outstanding : c ≠ .memRequestAccept → (∀ k, c ≠ .memCompletion k) → t.mp.outstanding = s.mp.outstanding
  flags : (∀ b, c ≠ .eventFlagsWrite b) → ∀ k, s.ev.flags.getLsbD k = true → t.ev.flags.getLsbD k = true
  faults : (∀ b, c ≠ .popFault b) → s.ev.faults <+: t.ev.faults
  quarantine : (∀ b, c ≠ .release b) → s.msc.quarantine.map QuarRec.line <+: t.msc.quarantine.map QuarRec.line

/-- A port's change that leaves its tag set. -/
theorem State.port_tags_modPort (s : State) (p q : PortIx) {f : Port → Port}
    (hf : (f (s.port p)).tags = (s.port p).tags) : ((s.modPort p f).port q).tags = (s.port q).tags := by
  rw [State.port_modPort]
  split
  · subst q; exact hf
  · rfl

theorem State.port_tags_respond (s : State) (i : EntryIx) (code : ResultCode) (q : PortIx) :
    ((s.respond i code).port q).tags = (s.port q).tags := (Kept.respond s i code).tags q

theorem Does.leftBy {c : Instr} {P : Prop} {s₀ s : State} (h : Does c P s₀ s) : LeftBy c s₀ s := by
  induction h with
  | start => exact ⟨fun _ => rfl, fun _ => rfl, fun _ => ⟨rfl, rfl⟩, fun _ => rfl, fun _ => rfl, fun _ => rfl, fun _ => rfl,
      fun _ _ _ => rfl, fun _ _ => rfl, fun _ _ h => h, fun _ => List.prefix_rfl, fun _ => List.prefix_rfl⟩
  | raise _ e ih =>
    refine { ih with flags := fun hc k hk => ?_ }
    show (_ ||| _ : BitVec 17).getLsbD k = true
    rw [BitVec.getLsbD_or, ih.flags hc k hk, Bool.true_or]
  | handRecord _ r ih =>
    rcases State.handRecord_cases r _ with ⟨-, e⟩ | ⟨-, e⟩ <;> rw [e]
    · exact { ih with faults := fun hc => (ih.faults hc).trans (List.prefix_append _ _) }
    · exact { ih with }
  | popFault _ hc _ ih =>
    obtain ⟨b, rfl⟩ := hc
    exact { ih with faults := fun hc => absurd rfl (hc b) }
  | takeEventFlags _ b hc ih => exact { ih with flags := fun h => absurd hc (h b) }
  | takeEventEnable _ b hc ih => exact { ih with enables := fun h => absurd hc (h b) }
  | insertEntry _ l w p _ ih => obtain ⟨d, h⟩ := State.insertEntry_frame l w p _; rw [h]; exact { ih with }
  | reReserve _ l p ih => obtain ⟨d, h⟩ := State.reReserve_frame l p _; rw [h]; exact { ih with }
  | dropEntry _ l ih => obtain ⟨d, h⟩ := State.dropEntry_frame l _; rw [h]; exact { ih with }
  | takeAdmitPolicy _ b hc ih =>
    obtain ⟨p, h⟩ := State.takeAdmitPolicy_frame b _
    rw [h]
    exact { ih with admitPolicy := fun h => absurd hc (h b) }
  | takeLockLimit _ b hc ih =>
    obtain ⟨n, h⟩ := State.takeLockLimit_frame b _
    rw [h]
    exact { ih with lockLimit := fun h => absurd hc (h b) }
  | takeProbeTimes _ b hc ih => exact { ih with limits := fun h => absurd hc (h b) }
  | grant _ hc i p r rest _ _ _ ih =>
    exact { ih with
      roundRobin := fun h => absurd hc h
      tags := fun h1 h2 q => (State.port_tags_modPort _ p q (f := fun q => { q with ingress := rest }) rfl).trans
        (ih.tags h1 h2 q) }
  | @respond s _ i code ih =>
    have htags := State.port_tags_respond s i code
    obtain ⟨en, rp, h⟩ := State.respond_frame i code _
    rw [h] at htags ⊢
    exact { ih with tags := fun h1 h2 q => (htags q).trans (ih.tags h1 h2 q) }
  | issueRequest _ hc i rest q _ _ ih => exact { ih with outstanding := fun h => absurd hc h }
  | takeOutstanding _ hc _ ih =>
    obtain ⟨k, rfl⟩ := hc
    exact { ih with outstanding := fun _ h => absurd rfl (h k) }
  | setPortState _ p st ih =>
    exact { ih with tags := fun h1 h2 q => (State.port_tags_modPort _ p q rfl).trans (ih.tags h1 h2 q) }
  | @answerHead s _ p r rest code _ ih =>
    refine { ih with tags := fun h1 h2 q => ?_ }
    rw [(Kept.placeResponse (s.modPort p fun q => { q with ingress := rest }) p _).tags q]
    exact (State.port_tags_modPort s p q rfl).trans (ih.tags h1 h2 q)
  | accept _ p a hc _ _ ih =>
    obtain ⟨r, rfl⟩ := hc
    exact { ih with tags := fun h => absurd rfl (h p r) }
  | deliver _ p hc _ ih => exact { ih with tags := fun _ h => absurd hc (h p) }
  | addQuarantine _ q _ _ ih =>
    refine { ih with quarantine := fun h => (ih.quarantine h).trans ?_ }
    rw [State.setQuarantine_msc_quarantine, List.map_append]
    exact List.prefix_append _ _
  | markLate _ l ih =>
    refine { ih with quarantine := fun h => ?_ }
    rw [State.setQuarantine_msc_quarantine, markLate_lines]
    exact ih.quarantine h
  | eraseQuarantine _ n hc ih =>
    obtain ⟨b, rfl⟩ := hc
    exact { ih with quarantine := fun h => absurd rfl (h b) }
  | putRegion _ hc n r ih =>
    obtain ⟨b, rfl⟩ := hc
    exact { ih with regions := fun h => absurd rfl (h b) }
  | setDefaults _ hc a ih =>
    obtain ⟨b, rfl⟩ := hc
    exact { ih with defaults := fun h => absurd rfl (h b) }
  | _ => rename_i ih; exact { ih with }

/-- Settles O55: each of these parts of the state changes in an update that only its command makes (`Does.leftBy`). -/
theorem onlyTheirCommandsChangeSettingsAndRecords : Obligations.OnlyTheirCommandsChangeSettingsAndRecords := by
  intro c s t h h1 h2
  obtain ⟨hr, hd, hl, hk, ha, he, hrr, ht, ho, hf, hq, hm⟩ := (exec_ends h h1 h2).course.leftBy
  exact ⟨hr, hd, hl, hk, ha, he, hrr, ht, ho, hf, hq, hm⟩

/-! ### HELD entries -/

/-- R20: every HELD entry of the one stood HELD in the other, in the same set, way and policy. -/
def HeldFrom (s t : State) : Prop :=
  ∀ k : SetIx, ∀ e ∈ t.pd.sets[k.val], e.state = .held → e ∈ s.pd.sets[k.val]

theorem HeldFrom.putSet {s₀ s : State} (h : HeldFrom s₀ s) {l : Line} {es : List DirEntry}
    (hes : ∀ e ∈ es, e.state = .held → e ∈ s.dirSet l) : HeldFrom s₀ (s.putSet l es) := fun k e he hh => by
  by_cases hk : k = setOf l
  · subst hk
    have he : e ∈ (s.putSet l es).dirSet l := he
    rw [State.dirSet_putSet_self] at he
    exact h _ e (hes e he hh) hh
  · rw [State.sets_putSet_ne s l es k hk] at he
    exact h k e he hh

/-- A RESERVED entry ahead of entries of the set. -/
theorem HeldFrom.putReserved {s₀ s : State} (h : HeldFrom s₀ s) {l : Line} {e : DirEntry} {es : List DirEntry}
    (he : e.state = .reserved) (hes : ∀ x ∈ es, x ∈ s.dirSet l) : HeldFrom s₀ (s.putSet l (e :: es)) :=
  h.putSet fun x hx hh => by
    rcases List.mem_cons.mp hx with rfl | hx
    · rw [he] at hh; cases hh
    · exact hes x hx

theorem Does.heldFrom {c : Instr} {P : Prop} {s₀ s : State} (h : Does c P s₀ s) (hc : c ≠ .hostBeatTaken) :
    HeldFrom s₀ s := by
  induction h with
  | start => exact fun _ _ he _ => he
  | handRecord _ r ih => obtain ⟨e, h⟩ := State.handRecord_frame r _; rw [h]; exact ih
  | insertEntry _ l w p _ ih =>
    rcases State.insertEntry_cases l w p _ with ⟨-, e⟩ | e <;> rw [e]
    · exact ih.putReserved rfl fun _ hx => hx
    · exact ih
  | reReserve _ l p ih =>
    unfold State.reReserve
    split
    · exact ih
    · exact ih.putReserved rfl fun _ hx => (List.mem_filter.mp hx).1
  | dropEntry _ l ih =>
    rcases State.dropEntry_cases l _ with e | e <;> rw [e]
    · exact ih
    · exact ih.putSet fun _ hx _ => (List.mem_filter.mp hx).1
  | holdEntry _ h _ _ => exact absurd h hc
  | flush _ ih =>
    intro k e he hh
    have he : e ∈ (Vector.map _ _)[k.val] := he
    rw [Vector.getElem_map] at he
    exact ih k e (List.mem_filter.mp he).1 hh
  | clearDirectory _ _ =>
    intro k e he
    rw [State.clearDirectory_pd_sets, Vector.getElem_replicate] at he
    cases he
  | takeAdmitPolicy _ b _ ih => obtain ⟨p, h⟩ := State.takeAdmitPolicy_frame b _; rw [h]; exact ih
  | takeLockLimit _ b _ ih => obtain ⟨n, h⟩ := State.takeLockLimit_frame b _; rw [h]; exact ih
  | respond _ i code ih => obtain ⟨en, rp, h⟩ := State.respond_frame i code _; rw [h]; exact ih
  | _ => rename_i ih; exact ih

/-- R198: what the commands of the RESET pin leave of outputs and entries: nothing. -/
theorem exec_resetPin_next {c : Instr} {s t : State} (h : exec c s = .next t)
    (hc : c = .resetPinAssert ∨ ∃ a b d, c = .resetPinRelease a b d) :
    t.out = [] ∧ t.pd.sets = Vector.replicate 256 [] := by
  rcases hc with rfl | ⟨a, b, d, rfl⟩
  · rw [exec_resetPinAssert_next h]; exact ⟨rfl, rfl⟩
  · rw [exec_resetPinRelease_next h]; exact ⟨rfl, rfl⟩

/-- A command is one of the RESET pin, or a course. -/
theorem exec_resetPin_or_ends {c : Instr} {s t : State} (h : exec c s = .next t) :
    (t.out = [] ∧ t.pd.sets = Vector.replicate 256 []) ∨ Ends c s t := by
  by_cases hc : c = .resetPinAssert ∨ ∃ a b d, c = .resetPinRelease a b d
  · exact .inl (exec_resetPin_next h hc)
  · obtain ⟨h1, h2⟩ := not_or.mp hc
    exact .inr (exec_ends h h1 fun a b d e => h2 ⟨a, b, d, e⟩)

/-- What a command drives, it may drive. -/
theorem exec_mayDrive {c : Instr} {s t : State} (h : exec c s = .next t) : ∀ o ∈ t.out, MayDrive c True o := by
  rcases exec_resetPin_or_ends h with ⟨ho, -⟩ | he
  · rw [ho]; nofun
  · exact he.course.mayDrive

/-- Settles O56: only `holdEntry` makes an entry HELD, each output is one its command may drive (`Does.mayDrive`), and a probe
that went out is the one outstanding (`Ends.probed`). -/
theorem heldEntriesAndOutputsComeFromTheirCommands : Obligations.HeldEntriesAndOutputsComeFromTheirCommands := by
  refine ⟨fun c s t h hc => ?_, fun c s t h => ?_, fun c s t l m h hm => ?_⟩
  · rcases exec_resetPin_or_ends h with ⟨-, hd⟩ | he
    · intro k e hk
      rw [hd, Vector.getElem_replicate] at hk
      cases hk
    · exact he.course.heldFrom hc
  · have hd := exec_mayDrive h
    exact ⟨fun _ _ ho => hd _ ho, fun _ _ ho => hd _ ho, fun _ _ _ ho => hd _ ho, fun _ _ _ _ ho => hd _ ho,
      fun _ _ ho => hd _ ho, fun _ _ _ ho => hd _ ho, fun ho => hd _ ho, fun ho => hd _ ho⟩
  · rcases exec_resetPin_or_ends h with ⟨ho, -⟩ | he
    · rw [ho] at hm; cases hm
    · exact he.probed l m hm

end Sys2Proof.Machine
end

section
/-! SUPPORT. Steps, ticks and the RESET pin: what one tick counts and takes, and the state that a reset leaves. -/

set_option Elab.async false

namespace Sys2Proof.Machine

/-! ### The front of the queue -/

/-- Settles O1: the step of a queue that is not empty is that of its head. -/
theorem stepRunsTheFrontCommand : Obligations.StepRunsTheFrontCommand := by
  intro s c rest h
  unfold step
  rw [h]

/-! ### The tick -/

/-- The expiries of a list of timers, taken one after another. -/
theorem State.takesExpiries_foldl (ks : List Timer) (s : State) : s.TakesExpiries ks (ks.foldl State.expire s) := by
  induction ks generalizing s with
  | nil => rfl
  | cons k ks ih =>
    refine ⟨s.expire k, ih _, fun hk => ?_, fun hk => State.expire_of_ne hk⟩
    obtain ⟨v, hv⟩ := k.exec_command s
    exact ⟨v, hv, State.expire_of_out hk hv⟩

/-- R62, R71: a write-back timer that counts and has `n` µs left. -/
theorem WbTimer.left_eq_some_iff {w : WbTimer} {n : Nat} : w.left = some n ↔ w = .running n ∨ w = .pendingCounting n := by
  cases w <;> simp [WbTimer.left]

/-- Which timers have 1 µs left. -/
theorem State.timerLeft_eq_one_iff {s : State} {k : Timer} : s.timerLeft k = some 1 ↔
    ((k = .answer ∧ ∃ i l m, s.pu.channel = .outstanding i l m 1) ∨
     (k = .quiet ∧ s.pu.channel = .quiet 1) ∨
     (∃ i x, k = .writeback i ∧ s.txn i = some x ∧
       (x.wbTimer = some (.running 1) ∨ x.wbTimer = some (.pendingCounting 1))) ∨
     (k = .lock ∧ s.hp.lockTimer = some 1)) := by
  cases k with
  | answer => cases h : s.pu.channel <;> simp [State.timerLeft, h]
  | quiet => cases h : s.pu.channel <;> simp [State.timerLeft, h]
  | lock => simp [State.timerLeft]
  | writeback i =>
    simp only [State.timerLeft, Option.bind_eq_some_iff, WbTimer.left_eq_some_iff, Timer.writeback.injEq, reduceCtorEq,
      false_and, false_or, or_false]
    constructor
    · rintro ⟨x, hx, w, hw, rfl | rfl⟩
      · exact ⟨i, x, rfl, hx, .inl hw⟩
      · exact ⟨i, x, rfl, hx, .inr hw⟩
    · rintro ⟨j, x, rfl, hx, hw | hw⟩
      · exact ⟨x, hx, _, hw, .inl rfl⟩
      · exact ⟨x, hx, _, hw, .inr rfl⟩

/-- R192: with no read under way a tick leaves the management port. -/
theorem State.count_of_not_reading {s : State} (h : s.mg.bus ≠ .reading) : s.count.mg = s.mg ∧ s.count.out = [] := by
  have hr : s.countTimers.readUnderWay = false := by
    rw [State.readUnderWay, show s.countTimers.mg.bus = s.mg.bus from rfl, beq_eq_false_iff_ne.mpr h, Bool.false_and]
  unfold State.count State.clockByte
  rw [if_neg (by exact Bool.eq_false_iff.mp hr)]
  exact ⟨rfl, rfl⟩

/-- A tick counts every timer by 1 µs. -/
theorem State.count_timers (s : State) : s.count.pu = { s.pu with channel := s.pu.channel.count } ∧
    s.count.hp = { s.hp with lockTimer := s.hp.lockTimer.map fun n => n - 1 } := by
  unfold State.count
  obtain ⟨m, o, n, h⟩ :=
    State.clockByte_frame { s.countTimers with out := [], freeCount := s.freeCount + s.dueTimers.length }
  rw [h]
  exact ⟨rfl, rfl⟩

/-- Settles O2: the tick is a count of the timers, and then the expiries of those that were due, in the order drawn. -/
theorem tickCountsTimersAndTakesExpiries : Obligations.TickCountsTimersAndTakesExpiries := by
  intro s hs
  have hperm := drawOrder_perm s.dueTimers.length s.freeCount s.dueTimers rfl
  obtain ⟨hpu, hhp⟩ := s.count_timers
  obtain ⟨ch, en, lt, m, o, n, hframe⟩ := s.count_frame
  refine ⟨s.count, s.tick, drawOrder s.dueTimers.length s.freeCount s.dueTimers, ?step, State.takesExpiries_foldl _ _,
    ?frame, State.count_of_not_reading, ?pu, hhp, ?tt, fun h => ?idle, fun i l m n h => ?out, fun n h => ?quiet,
    s.txn_count, hperm.nodup_iff.mpr (allTimers_nodup.filter _), fun k => ?due⟩
  case step =>
    unfold step
    rw [hs]
  case frame => rw [hframe]
  case pu => rw [hpu]
  case tt => rw [hframe]
  case idle => rw [hpu, h]; rfl
  case out => rw [hpu, h]; rfl
  case quiet => rw [hpu, h]; rfl
  case due => rw [hperm.mem_iff, State.mem_dueTimers, State.timerLeft_eq_one_iff]

/-! ### The RESET pin -/

/-- R198: what the RESET pin empties, whatever its release gives. -/
theorem State.Emptied.of_parts {t : State} (hpd : t.pd.sets = Vector.replicate 256 [])
    (htt : t.tt = { entries := Vector.replicate 12 none, locks := [], recallWait := [], roundRobin := 3 })
    (hpu : t.pu.queue = [] ∧ t.pu.channel = .idle) (hhp : t.hp = HostPort.afterReset)
    (hrp : t.rp = Vector.replicate 4 Port.afterReset) (hmp : t.mp = { outstanding := [], waiting := [] })
    (hmsc : t.msc.sweep = Sweep.afterReset ∧ t.msc.quarantine = []) (hev : t.ev = EventUnit.afterReset)
    (hmg : t.mg = Management.afterReset) : t.Emptied where
  directory k := by rw [hpd, Vector.getElem_replicate]
  entries i := by rw [State.txn, htt]; exact Vector.getElem_replicate _
  locks := by rw [htt]
  recallWait := by rw [htt]
  probeQueue := hpu.1
  channel := hpu.2
  cycle := by rw [hhp]; rfl
  lockSet := by rw [hhp]; rfl
  lockTimer := by rw [hhp]; rfl
  broken := by rw [hhp]; rfl
  lastLocked := by rw [hhp]; rfl
  ports p := by rw [State.port, hrp, Vector.getElem_replicate]; rfl
  memory := hmp
  sweep := hmsc.1
  quarantine := hmsc.2
  flags := by rw [hev]; rfl
  enables := by rw [hev]; rfl
  faults := by rw [hev]; rfl
  overflow := by rw [hev]; rfl
  counters := by rw [hev]; rfl
  bus := by rw [hmg]; rfl
  staged := by rw [hmg]; rfl
  captures := by rw [hmg]; rfl
  alert := by rw [State.alert, hev]; exact Bool.and_false _

/-- R198: the values after the release of the pin, which the level of HRST, the queue and the free values do not touch. -/
theorem State.StartValues.of_parts {t : State} {a b start : Bool} (h : t = { State.afterReset a b start with
    pins := t.pins, pending := t.pending, freeCount := t.freeCount }) : t.StartValues start where
  admitPolicy := by rw [h]; rfl
  roundRobin := by rw [h]; rfl
  probeLimit := by rw [h]; rfl
  wbLimit := by rw [h]; rfl
  lockLimit := by rw [h]; rfl
  regions n := by
    have : t.rm.regions[n.val] = Region.invalid := by
      rw [h]
      exact Vector.getElem_replicate _
    rw [this]
    exact ⟨rfl, rfl, rfl⟩
  defaults := by rw [h]; rfl
  mode := by rw [h]; rfl
  pointer := by rw [h]; rfl
  args := by rw [h]; exact ⟨rfl, rfl⟩
  status := by rw [h]; rfl
  snapshot := by rw [h]; exact ⟨rfl, rfl, rfl, rfl⟩

/-- Settles O3, from the state that each command of the pin leaves. -/
theorem resetPinDropsWorkAndGivesStartValues : Obligations.ResetPinDropsWorkAndGivesStartValues := by
  refine ⟨fun s => ?assert, fun s ma1 ma0 start hs => ?release⟩
  case assert =>
    exact ⟨_, rfl, .of_parts rfl rfl ⟨rfl, rfl⟩ rfl rfl rfl ⟨rfl, rfl⟩ rfl rfl, rfl, rfl, rfl⟩
  case release =>
    refine ⟨_, if_pos hs, .of_parts rfl rfl ⟨rfl, rfl⟩ rfl rfl rfl ⟨rfl, rfl⟩ rfl rfl, .of_parts (a := ma1) (b := ma0) rfl, rfl,
      rfl, rfl⟩

/-- Settles O4: the state after reset is empty, and what holds of an empty state holds of it. -/
theorem resetStateHasStartValuesAndProperties : Obligations.ResetStateHasStartValuesAndProperties :=
  ⟨.of_parts rfl rfl ⟨rfl, rfl⟩ rfl rfl rfl ⟨rfl, rfl⟩ rfl rfl, .of_parts (a := false) (b := false) rfl, rfl, rfl,
    .of_empty rfl, State.afterReset_withinCapacity _ _ _, .of_empty rfl rfl, .of_empty rfl,
    State.afterReset_limitsInRange _ _ _, .of_empty rfl⟩

end Sys2Proof.Machine
end

section
/-! SUPPORT. The processor's cycles at their address (R95, R96, R104, R107 to R112), late answers and stale expiries (R63), the
request and response handshakes (R121, R133), and the acceptance of a memory request (R153 to R155). -/

set_option Elab.async false

namespace Sys2Proof.Machine

/-! ### Cycles at their address -/

/-- R95: a cycle is taken on a bus that is free. -/
theorem live_onFreeBus_of_busFree {s : State} (h : s.BusFree) (f : State → Result) :
    live (onFreeBus f) s = f s.clearOut := by
  rw [live_of_running h.running, onFreeBus]
  rw [if_neg (show ¬ s.clearOut.pins.hrstAsserted = true by rw [show s.clearOut.pins = s.pins from rfl, h.hrst]; nofun),
    if_neg (show ¬ s.clearOut.hp.cycle.isSome = true by rw [show s.clearOut.hp = s.hp from rfl, h.cycle]; nofun)]

/-- R107, R108: the set takes a locked cycle of a line it holds, or with room. -/
theorem State.setTakes_iff {s : State} {l : Line} : s.setTakes l = true ↔ l ∈ s.hp.lockSet ∨ s.hp.lockSet.length < 2 := by
  simp [State.setTakes, State.inLockSet]

/-- R112: an LREAD under the broken-sequence mark. -/
theorem exec_hostLread_of_busFree {s : State} (h : s.BusFree) (a : Addr) (m : BeatMask) :
    exec (.hostLread a m) s = if s.hp.broken then .next (s.clearOut.claim .read a m false)
      else if s.setTakes (lineOf a) then .next (s.clearOut.claim .lread a m false)
      else .next (s.clearOut.overrun .hLread (lineOf a)) := live_onFreeBus_of_busFree h _

theorem exec_hostLwrite_of_busFree {s : State} (h : s.BusFree) (a : Addr) (m : BeatMask) (e : Bool) :
    exec (.hostLwrite a m e) s =
      if s.hp.broken then .next ((if e then s.clearOut.clearBroken else s.clearOut).claim .write a m false)
      else if s.setTakes (lineOf a) then .next (s.clearOut.claim .lwrite a m e)
      else .next (s.clearOut.overrun .hLwrite (lineOf a)) := live_onFreeBus_of_busFree h _

/-- Settles O8, cycle by cycle; the locked ones by the mark and the room in the host lock set. -/
theorem hostCyclesClaimAnEntryOrOverrun : Obligations.HostCyclesClaimAnEntryOrOverrun := by
  refine ⟨fun s a m h => ⟨live_onFreeBus_of_busFree h _, live_onFreeBus_of_busFree h _, live_onFreeBus_of_busFree h _⟩,
    fun s a m e h => ⟨fun hb => ?mark, fun hb hroom => ?claims, fun hb hl hfull => ?overrun⟩⟩
  case mark =>
    rw [exec_hostLread_of_busFree h, exec_hostLwrite_of_busFree h, if_pos hb, if_pos hb]
    refine ⟨rfl, congrArg _ ?_⟩
    cases e
    · show s.clearOut.claim .write a m false = { s with hp := { s.hp with
        cycle := some (claimingCycle .write a (beatOf a) m false), broken := true }, out := [] }
      rw [← hb]
      rfl
    · rfl
  case claims =>
    have htakes := State.setTakes_iff.mpr hroom
    rw [exec_hostLread_of_busFree h, exec_hostLwrite_of_busFree h, if_neg (Bool.eq_false_iff.mp hb),
      if_neg (Bool.eq_false_iff.mp hb), if_pos htakes, if_pos htakes]
    exact ⟨rfl, rfl⟩
  case overrun =>
    have htakes : ¬ s.setTakes (lineOf a) = true := fun ht =>
      (State.setTakes_iff.mp ht).elim hl (Nat.not_lt_of_le hfull)
    refine ⟨exists_next_of_reportError_emit ?_, exists_next_of_reportError_emit ?_⟩
    · rw [exec_hostLread_of_busFree h, if_neg (Bool.eq_false_iff.mp hb), if_neg htakes]
      rfl
    · rw [exec_hostLwrite_of_busFree h, if_neg (Bool.eq_false_iff.mp hb), if_neg htakes]
      rfl

/-! ### Special cycles -/

/-- R25: FLUSH_ACK removes the HELD entries; the sweep may hear of it. -/
theorem State.flushHeld_cases (s : State) :
    s.flushHeld = { s with pd := s.pd.flush } ∨ s.flushHeld = { s with pd := s.pd.flush }.wakeSweep := by
  unfold State.flushHeld
  dsimp only
  split
  · exact .inl rfl
  · exact .inr rfl

theorem Directory.flush_sets (d : Directory) (k : SetIx) :
    d.flush.sets[k.val] = d.sets[k.val].filter fun e => e.state = .reserved := by
  show (Vector.map _ _)[k.val] = _
  rw [Vector.getElem_map]
  exact List.filter_congr fun e _ => by cases e.state <;> rfl

/-- Settles O10; that no HELD entry is left holds of whatever follows the flush, since nothing in it makes an entry HELD. -/
theorem specialCyclesAndFlushAck : Obligations.SpecialCyclesAndFlushAck := by
  refine ⟨fun s h => ⟨fun n => live_onFreeBus_of_busFree h _, fun hq => ?quiet⟩, fun s h => ?any⟩
  case quiet =>
    have hq' : { s.clearOut.emit .specialAck with pd := s.pd.flush }.Quiet := hq.of_eq rfl rfl rfl hq.channel fun _ => rfl
    have hflush : (s.clearOut.emit .specialAck).flushHeld = { s.clearOut.emit .specialAck with pd := s.pd.flush } := by
      rcases (s.clearOut.emit .specialAck).flushHeld_cases with e | e
      · exact e
      · exact e.trans hq'.wakeSweep
    refine ⟨_, live_onFreeBus_of_busFree h _, ?_⟩
    rw [hflush, hq'.settle]
    exact ⟨rfl, s.pd.flush_sets⟩
  case any =>
    refine ⟨(s.clearOut.emit .specialAck).flushHeld.settle, live_onFreeBus_of_busFree h _, fun k e he => ?_⟩
    let s₀ : State := { s with pd := s.pd.flush }
    have hcourse : Does (.hostSpecial .flushAck) True s₀ (s.clearOut.emit .specialAck).flushHeld := by
      have h0 : Does (.hostSpecial .flushAck) True s₀ (s₀.clearOut.emit .specialAck) := Does.start.emit _
      rcases (s.clearOut.emit .specialAck).flushHeld_cases with e | e <;> rw [e]
      · exact h0
      · exact h0.wakeSweep
    have hheld : HeldFrom s₀ (s.clearOut.emit .specialAck).flushHeld.settle :=
      Does.heldFrom (Does.settle hcourse) (by intro hc; cases hc)
    cases hst : e.state with
    | reserved => rfl
    | held =>
      have h0 := hheld k e he hst
      dsimp only [s₀] at h0
      rw [Directory.flush_sets] at h0
      exact absurd (of_decide_eq_true (List.mem_filter.mp h0).2) (by rw [hst]; nofun)

/-! ### Late answers and stale expiries -/

/-- R63: an answer with no probe outstanding. -/
theorem State.takeAnswer_of_none {s : State} (h : ∀ i l m n, s.pu.channel ≠ .outstanding i l m n) (a : Answer) :
    s.takeAnswer a = s.raise .lateAnswer := by
  unfold State.takeAnswer
  split
  · exact absurd ‹_› (h _ _ _ _)
  · rfl
  · rfl

/-- R73: a write-back timer that does not count. -/
theorem State.timerCounts_eq_false {s : State} {i : EntryIx}
    (h : ∀ x n, s.txn i = some x → x.wbTimer ≠ some (.running n) ∧ x.wbTimer ≠ some (.pendingCounting n)) :
    (s.txn i).any (fun t => t.wbTimer.any WbTimer.counts) = false := by
  cases hx : s.txn i with
  | none => rfl
  | some x =>
    cases hw : x.wbTimer with
    | none => simp [hw]
    | some w =>
      cases w with
      | pending => simp [hw, WbTimer.counts]
      | stopped => simp [hw, WbTimer.counts]
      | running n => exact absurd hw (h x n hx).1
      | pendingCounting n => exact absurd hw (h x n hx).2

/-- Settles O26, command by command. -/
theorem lateAnswersAndStaleExpiries : Obligations.LateAnswersAndStaleExpiries := by
  refine ⟨fun s c hs h hc => ?late, fun s hs => ⟨fun h => ?answer, fun h => ?quiet, fun i h => ?writeback, fun h => ?lock⟩⟩
  case late =>
    have key : ∀ a : Answer, s.clearOut.takeAnswer a =
        { s with ev := { s.ev with flags := s.ev.flags ||| 0x8000#17 }, out := [] } :=
      State.takeAnswer_of_none (s := s.clearOut) h
    simp only [List.mem_cons, List.not_mem_nil, or_false] at hc
    rcases hc with rfl | rfl | rfl
    · rw [exec, execProbeAnswerMiss, live_of_running hs, key]
    · rw [exec, execProbeAnswerClean, live_of_running hs, key]
    · rw [exec, execProbeAnswerDirty, live_of_running hs, key]
  case answer =>
    rw [exec, execAnswerTimerExpiry, live_of_running hs]
    split
    · exact absurd ‹_› (h _ _ _ _)
    · rfl
    · rfl
  case quiet =>
    rw [exec, execQuietTimerExpiry, live_of_running hs]
    split
    · exact absurd ‹_› (h _)
    · rfl
    · rfl
  case writeback =>
    rw [exec, execWbTimerExpiry, live_of_running hs]
    exact if_neg (Bool.eq_false_iff.mp (State.timerCounts_eq_false h))
  case lock =>
    rw [exec, execLockTimerExpiry, live_of_running hs]
    split
    · rename_i hl _ _
      exact absurd (hl.symm.trans h) nofun
    · rfl

/-! ### The event unit's list -/

/-- Settles O54: the report stores or counts its record. -/
theorem faultListKeepsTheOldestFour : Obligations.FaultListKeepsTheOldestFour := by
  intro s r hlen
  obtain ⟨e, he, hrep⟩ := s.exists_reportError r
  obtain ⟨-, -, -, hroom, hfull⟩ := id hrep
  refine ⟨e, he, hrep, ?_⟩
  rcases Nat.lt_or_ge s.ev.faults.length 4 with h | h
  · rw [(hroom h).1, List.length_append, List.length_singleton]
    exact h
  · rw [(hfull h).1]
    exact hlen

/-! ### Requests and responses -/

@[simp] theorem State.clearOut_port (s : State) (p : PortIx) : s.clearOut.port p = s.port p := rfl

@[simp] theorem State.clearOut_txn (s : State) (i : EntryIx) : s.clearOut.txn i = s.txn i := rfl

/-- R121: a free tag and a shape that is well formed. -/
theorem State.checkRequest_of_accepted {s : State} {p : PortIx} {r : Request} {a : Accepted}
    (htag : (s.port p).tags[r.tag.val] = false) (ha : acceptedOf r = some a) :
    s.checkRequest p r = s.modPort p (Port.accept a) := by
  rw [State.checkRequest, if_neg (Bool.eq_false_iff.mp htag), ha]

/-- R123: what a well-formed request is queued as. -/
theorem acceptedOf_of_wellFormed {r : Request} {w : ReqWork}
    (h : (∃ n, r.body = .read n ∧ 1 ≤ n ∧ (offsetOf r.addr).val + n ≤ 32 ∧ w = .read (offsetOf r.addr) n) ∨
      (∃ m d, r.body = .write m d ∧ m ≠ 0#32 ∧ w = .write m d) ∨
      (∃ v, r.body = .atomic (some (.fetchAdd32 v)) ∧ (offsetOf r.addr).val % 4 = 0 ∧
        w = .atomic (offsetOf r.addr) (.fetchAdd32 v)) ∨
      (∃ v, r.body = .atomic (some (.swap64 v)) ∧ (offsetOf r.addr).val % 8 = 0 ∧
        w = .atomic (offsetOf r.addr) (.swap64 v)) ∨
      (∃ u v, r.body = .atomic (some (.compareSwap64 u v)) ∧ (offsetOf r.addr).val % 8 = 0 ∧
        w = .atomic (offsetOf r.addr) (.compareSwap64 u v))) :
    acceptedOf r = some { tag := r.tag, line := lineOf r.addr, work := w } := by
  unfold acceptedOf
  rcases h with ⟨n, hb, h1, h2, rfl⟩ | ⟨m, d, hb, hm, rfl⟩ | ⟨v, hb, hv, rfl⟩ | ⟨v, hb, hv, rfl⟩ | ⟨u, v, hb, hv, rfl⟩ <;>
    rw [hb]
  · exact if_neg (by omega)
  · exact if_neg hm
  all_goals exact if_pos (beq_iff_eq.mpr hv)

theorem State.portBecomes_modPort (s : State) (p : PortIx) (f : Port → Port) :
    s.PortBecomes (s.modPort p f) p (f (s.port p)) :=
  ⟨State.port_modPort_self s p f, fun _ hne => State.port_modPort_ne s (Ne.symm hne) f⟩

/-- Settles O30, handshake by handshake. -/
theorem requestsAreQueuedAndResponsesTaken : Obligations.RequestsAreQueuedAndResponsesTaken := by
  refine ⟨fun s p r hs hen => ⟨fun hfull => ?full, fun hroom htag w hw => ?accepted⟩, fun s p hs hnil => ?empty,
    fun s p r rest hs hq => ?taken⟩
  case full =>
    rw [exec_requestOffer_of_running hs, if_neg (not_not_intro hen), if_pos hfull]
    rfl
  case accepted =>
    rw [exec_requestOffer_of_ready hs hen hroom,
      State.checkRequest_of_accepted (s := s.clearOut) htag (acceptedOf_of_wellFormed hw)]
    exact ⟨_, rfl, rfl, s.clearOut.portBecomes_modPort p _⟩
  case empty =>
    rw [exec, execResponseTaken, live_of_running hs]
    simp only [State.clearOut_port, hnil]
    rfl
  case taken =>
    rw [exec, execResponseTaken, live_of_running hs]
    simp only [State.clearOut_port, hq]
    exact ⟨_, rfl, rfl, s.clearOut.portBecomes_modPort p _⟩

/-! ### The acceptance of a memory request -/

/-- R146: the positions of a word's mask. -/
theorem getLsbD_atomicMask (op : AtomicOp) (f : Fin 32) (k : Fin 32) :
    (atomicMask op f).getLsbD k.val = decide (f.val ≤ k.val ∧ k.val < f.val + atomicWidth op) := by
  have hw : atomicWidth op ≤ 8 := by cases op <;> simp [atomicWidth]
  rw [atomicMask, BitVec.getLsbD_shiftLeft, BitVec.getLsbD_ofNat, Nat.testBit_two_pow_sub_one]
  have := k.isLt
  rw [Bool.eq_iff_iff]
  simp only [Bool.and_eq_true, Bool.not_eq_true', decide_eq_true_eq, decide_eq_false_iff_not]
  omega

/-- R30, R65: a requester transaction with write-back data writes its line. -/
theorem Txn.nextKind_of_wbData {x : Txn} (hp : x.work.port?.isSome = true) (hd : x.wbData = true) :
    x.nextKind = .lineWrite := by
  unfold Txn.nextKind
  cases hw : x.work <;> simp_all [Work.port?, Work.issuer]

/-- R154: what goes out with a request, and the mask of its record, by its kind. -/
theorem Txn.memOutput_of_kind {x : Txn} {i : EntryIx} :
    (x.nextKind = .lineRead → x.memOutput = .lineRead x.line x.work.startBeat) ∧
    (x.nextKind = .lineWrite → x.memOutput = .lineWrite x.line x.buf) ∧
    (x.nextKind = .maskedWrite → (x.memReq i).mask = x.work.writeMask ∧
      x.memOutput = .maskedWrite x.line x.work.writeMask (overlay zeroLine x.buf x.work.writeMask)) := by
  refine ⟨fun h => ?_, fun h => ?_, fun h => ⟨?_, ?_⟩⟩ <;> simp only [Txn.memOutput, Txn.memReq, h]

theorem exec_memRequestAccept_of_head {s : State} {i : EntryIx} {rest : List EntryIx} {x : Txn} (hs : s.Running)
    (hw : s.mp.waiting = i :: rest) (hroom : s.mp.outstanding.length < 8) (hx : s.txn i = some x) :
    exec .memRequestAccept s = .next (s.clearOut.issueRequest i rest x) := by
  rw [exec, execMemRequestAccept, live_of_running hs]
  simp only [State.clearOut_mp, hw, if_neg (Nat.not_le_of_lt hroom), State.clearOut_txn, hx]

/-- An entry whose record is changed, and no other. -/
theorem State.txnBecomes_modTxn {s : State} {i : EntryIx} {x : Txn} (hx : s.txn i = some x) (f : Txn → Txn) :
    s.TxnBecomes (s.modTxn i f) i (some (f x)) :=
  ⟨by rw [State.txn_modTxn, if_pos rfl, hx]; rfl, fun j hj => by rw [State.txn_modTxn, if_neg hj]⟩

/-- Settles O32: the request is that of the transaction's kind and of its write-back data. -/
theorem acceptedRequestBecomesOutstanding : Obligations.AcceptedRequestBecomesOutstanding := by
  refine ⟨fun s hs h => ?none, fun s i rest x hs hw hroom hx => ?issued⟩
  case none =>
    rw [exec, execMemRequestAccept, live_of_running hs]
    split
    · rfl
    · rename_i hw
      rcases h with h | h
      · exact absurd (hw.symm.trans h) nofun
      · exact if_pos h
  case issued =>
    obtain ⟨hread, hwrite, hmasked⟩ := x.memOutput_of_kind (i := i)
    refine ⟨_, x.memOutput, x.memReq i, exec_memRequestAccept_of_head hs hw hroom hx, rfl,
      State.txnBecomes_modTxn (s := s) hx _, rfl, rfl, fun hk => ?reads, fun hk => ?lines, fun b m hk => ?hostWrites,
      fun p g m d hk hd => ?writes, fun p g f n hk hd => ?portReads, fun p g f op hk hd => ⟨fun ho => ?atomicRead,
        fun ho => ?atomicWrite⟩⟩
    case reads =>
      have hn : x.nextKind = .lineRead := by
        unfold Txn.nextKind
        cases hw : x.work <;> simp_all [Work.kind]
      exact ⟨hn, hread hn⟩
    case lines =>
      have hn : x.nextKind = .lineWrite := by
        rcases hk with hk | hk | ⟨hp, hd⟩
        · unfold Txn.nextKind
          cases hw : x.work <;> simp_all [Work.kind]
        · unfold Txn.nextKind
          cases hw : x.work <;> simp_all [Work.kind]
        · exact Txn.nextKind_of_wbData hp hd
      exact ⟨hn, hwrite hn⟩
    case hostWrites =>
      have hn : x.nextKind = .maskedWrite ∧ x.work.writeMask = placeMask b m := by
        rcases hk with hk | ⟨e, hk⟩ <;> rw [Txn.nextKind, hk] <;> exact ⟨rfl, rfl⟩
      obtain ⟨hm, ho⟩ := hmasked hn.1
      rw [hn.2] at hm ho
      exact ⟨hn.1, hm, ho⟩
    case writes =>
      have hn : x.nextKind = .maskedWrite := by rw [Txn.nextKind, hk]; exact if_neg (Bool.eq_false_iff.mp hd)
      obtain ⟨hm, ho⟩ := hmasked hn
      rw [hk] at hm ho
      exact ⟨hn, hm, ho⟩
    case portReads =>
      have hn : x.nextKind = .lineRead := by rw [Txn.nextKind, hk]; exact if_neg (Bool.eq_false_iff.mp hd)
      have ho := hread hn
      rw [hk] at ho
      exact ⟨hn, ho⟩
    case atomicRead =>
      have hn : x.nextKind = .lineRead := by
        rw [Txn.nextKind, hk]
        exact (if_neg (Bool.eq_false_iff.mp hd)).trans (if_neg (by rw [ho]; nofun))
      have ho := hread hn
      rw [hk] at ho
      exact ⟨hn, ho⟩
    case atomicWrite =>
      have hn : x.nextKind = .maskedWrite := by
        rw [Txn.nextKind, hk]
        exact (if_neg (Bool.eq_false_iff.mp hd)).trans (if_pos (Option.isSome_iff_ne_none.mpr ho))
      obtain ⟨hm, ho⟩ := hmasked hn
      refine ⟨hn, fun k => ?_, ?_⟩
      · rw [hm, hk]
        exact getLsbD_atomicMask op f k
      · rw [hm]
        exact ho

end Sys2Proof.Machine
end

section
/-! SUPPORT. The management port: the bytes of its transactions (R192, R193), the settings software writes, and the commands RESUME,
RELEASE and CLEAR_COUNTERS. -/

set_option Elab.async false

namespace Sys2Proof.Machine

/-! ### The pointer's register and the row of a byte -/

/-- R192: the word of the window that the pointer stands in. -/
theorem Management.word_toNat (m : Management) : m.word.toNat = m.pointer.toNat / 4 := by
  have := m.pointer.isLt
  rw [Management.word, BitVec.extractLsb'_toNat, Nat.shiftRight_eq_div_pow]
  omega

/-- R193: below a register's highest byte a byte is staged. -/
theorem Management.byteRow_of_ne {m : Management} (h : m.pointer.toNat % 4 ≠ 3) : m.byteRow = .stage := if_pos h

/-- R195: a code that is 0 or above 0BH names no command. -/
theorem cmdOf_of_unknown {c : Byte} (h : c = 0x00#8 ∨ 0x0B#8 < c) : cmdOf c = .unknown := by
  unfold cmdOf
  split
  case h_12 => rfl
  all_goals exfalso; bv_omega

/-- R195: at the highest byte of COMMAND the row is the command of the code staged. -/
theorem Management.byteRow_of_command {m : Management} (h : m.pointer = 0x0B#8) {c : Byte} (hc : m.staged.b0 = some c) :
    m.byteRow = .command (cmdOf c) := by
  simp [Management.byteRow, Management.byteIndex, Management.word, h, Management.commandCode, hc]

/-- R193: the rows of the other registers' highest bytes. -/
theorem Management.byteRow_of_pointer (m : Management) :
    (m.pointer = 0x17#8 → m.byteRow = .cmdStatus) ∧ (m.pointer = 0x1B#8 → m.byteRow = .eventFlags) ∧
    (m.pointer = 0x1F#8 → m.byteRow = .eventEnable) ∧ (m.pointer = 0x23#8 → m.byteRow = .defaultAttr) ∧
    (m.pointer = 0x27#8 → m.byteRow = .probeTimes) ∧ (m.pointer = 0x2B#8 → m.byteRow = .lockLimit) ∧
    (m.pointer = 0x2F#8 → m.byteRow = .admitPolicy) ∧
    (m.pointer = 0x0F#8 ∨ m.pointer = 0x13#8 → m.byteRow = .register) := by
  refine ⟨?_, ?_, ?_, ?_, ?_, ?_, ?_, fun h => h.elim ?_ ?_⟩
  all_goals
    intro h
    simp [Management.byteRow, Management.byteIndex, Management.word, h]

/-- R193: what staging a byte leaves. -/
theorem exec_mgByteStage_of_atByte {s : State} (h : s.AtByte .stage) (b : Byte) :
    exec (.mgByteStage b) s = .next { s with
      mg := { s.mg with staged := s.mg.staged.put s.mg.byteIndex b, pointer := s.mg.pointer + 1#8 }, out := [.mgAck] } := by
  obtain ⟨hrun, hbus, hrow⟩ := h
  rw [exec, execMgByteStage, live_of_running hrun]
  split
  case h_4 => exact if_pos hrow
  all_goals
    rename_i h
    exact absurd (hbus.symm.trans h) nofun

/-- Settles O37: transaction by transaction, and the row of each byte by its pointer. -/
theorem managementBytesReachTheirRegisters : Obligations.ManagementBytesReachTheirRegisters := by
  refine ⟨fun s a b d hs => ⟨fun ha => ?own, fun ha => ?other, fun hb => ?pointer, ?end_⟩,
    fun s b h => ⟨_, exec_mgByteStage_of_atByte h b, rfl, rfl, fun hn => ?b0, fun hn => ?b1, fun hn => ?b2⟩,
    fun m => ⟨Management.byteRow_of_ne, fun hp c hc => ?command, m.byteRow_of_pointer⟩⟩
  case own =>
    rw [exec, execStartCondition, live_of_running hs]
    exact if_pos ha
  case other =>
    rw [exec, execStartCondition, live_of_running hs]
    exact if_neg ha
  case pointer =>
    rw [exec, execMgPointerWrite, live_of_running hs]
    simp only [State.clearOut_mg, hb]
    rfl
  case end_ =>
    rw [exec, execMgTransactionEnd, live_of_running hs]
    rfl
  case b0 => simp only [Management.byteIndex, hn]; rfl
  case b1 => simp only [Management.byteIndex, hn]; rfl
  case b2 => simp only [Management.byteIndex, hn]; rfl
  case command =>
    rw [Management.byteRow_of_command hp hc]
    refine ⟨?_, ?_, ?_, ?_, ?_, ?_, ?_, ?_, ?_, ?_, ?_, fun h => by rw [cmdOf_of_unknown h]⟩
    all_goals rintro rfl; rfl

/-! ### Reading -/

/-- R192: a byte of a read comes from the capture of its register, made now or kept. -/
theorem State.mgReadByte_of_capture {s : State} {v : Reg} {kept : List Capture}
    (h : (∃ k, s.mg.captures.find? (fun k => k.word.toNat == s.mg.pointer.toNat / 4) = some k ∧ v = k.value ∧
        kept = s.mg.captures) ∨
      ((∀ k ∈ s.mg.captures, k.word.toNat ≠ s.mg.pointer.toNat / 4) ∧ v = s.readRegister (s.mg.pointer.toNat / 4) ∧
        kept = s.mg.captures ++ [{ word := s.mg.pointer.extractLsb' 2 6, value := v }])) :
    s.mgReadByte = { s with
      mg := { s.mg with captures := kept, pointer := s.mg.pointer + 1#8 }
      out := s.out ++ [.mgByte (v.extractLsb' (8 * (s.mg.pointer.toNat % 4)) 8)] } := by
  have hword : (fun k : Capture => k.word == s.mg.word) = fun k => k.word.toNat == s.mg.pointer.toNat / 4 := by
    funext k
    rw [← Management.word_toNat, Bool.eq_iff_iff, beq_iff_eq, beq_iff_eq, BitVec.toNat_inj]
  obtain ⟨c, hc, hv, hkept⟩ : ∃ c, s.captured = c ∧ v = c.value ∧ s.mg.keep c = { s.mg with captures := kept } := by
    refine ⟨_, rfl, ?_⟩
    unfold State.captured
    rw [hword]
    rcases h with ⟨k, hk, rfl, rfl⟩ | ⟨hno, rfl, rfl⟩
    · rw [hk]
      exact ⟨rfl, if_pos (List.mem_of_find?_eq_some hk)⟩
    · rw [List.find?_eq_none.mpr fun k hk => by simpa using hno k hk]
      rw [Management.word_toNat]
      exact ⟨rfl, if_neg fun hm => hno _ hm (Management.word_toNat _)⟩
  unfold State.mgReadByte
  rw [hc, hv]
  show ((s.modMg fun m => (m.keep c).advance).emit _) = _
  rw [State.modMg, hkept]
  rfl

/-- Settles O38: the byte of a read, if the tick brings one, is read ahead of the tick's expiries. -/
theorem readTransactionReturnsTheRegister : Obligations.ReadTransactionReturnsTheRegister := by
  refine ⟨fun s a hs ha => ?start, fun s v kept hs hp hbus h => ?byte⟩
  case start =>
    rw [exec, execStartCondition, live_of_running hs]
    exact if_pos ha
  case byte =>
    refine ⟨s.count, s.tick, drawOrder s.dueTimers.length s.freeCount s.dueTimers, ?_, State.takesExpiries_foldl _ _,
      fun k hk => State.mem_dueTimers.mp ((drawOrder_perm _ _ _ rfl).mem_iff.mp hk), ?_⟩
    · unfold step
      rw [hp]
    · have hread : ({ s.countTimers with out := [], freeCount := s.freeCount + s.dueTimers.length } : State).readUnderWay =
          true := by
        show (s.mg.bus == .reading && !s.pins.resetAsserted) = true
        rw [hbus, show s.pins.resetAsserted = false from hs]
        rfl
      unfold State.count State.clockByte
      rw [if_pos hread]
      split
      · refine .inr ?_
        rw [State.mgReadByte_of_capture
          (s := { s.countTimers with out := [], freeCount := s.freeCount + s.dueTimers.length }) h]
        exact ⟨rfl, rfl⟩
      · exact .inl ⟨rfl, rfl⟩

/-! ### The bytes of a register -/

/-- A register is its four bytes. -/
theorem bytes_append (v : Reg) :
    v.extractLsb' 24 8 ++ v.extractLsb' 16 8 ++ v.extractLsb' 8 8 ++ v.extractLsb' 0 8 = v := by
  rw [BitVec.extractLsb'_append_extractLsb'_eq_extractLsb' (by rfl),
    BitVec.extractLsb'_append_extractLsb'_eq_extractLsb' (by rfl),
    BitVec.extractLsb'_append_extractLsb'_eq_extractLsb' (by rfl)]
  exact BitVec.extractLsb'_eq_self

/-- R193: the value a register takes, byte by byte. -/
theorem State.newValue_of_bytes {s : State} {b : Byte} {v : Reg} (h3 : v.extractLsb' 24 8 = b)
    (h2 : v.extractLsb' 16 8 = s.mg.staged.b2.getD ((s.readRegister (s.mg.pointer.toNat / 4)).extractLsb' 16 8))
    (h1 : v.extractLsb' 8 8 = s.mg.staged.b1.getD ((s.readRegister (s.mg.pointer.toNat / 4)).extractLsb' 8 8))
    (h0 : v.extractLsb' 0 8 = s.mg.staged.b0.getD ((s.readRegister (s.mg.pointer.toNat / 4)).extractLsb' 0 8)) :
    s.newValue b = v := by
  rw [State.newValue, Management.word_toNat, Staged.value, ← h0, ← h1, ← h2, ← h3, bytes_append]

/-- R193: the value of four bytes written, whatever the register held. -/
theorem Staged.value_of_full {g : Staged} {b2 b1 b0 : Byte} (h : g = { b0 := some b0, b1 := some b1, b2 := some b2 })
    (current : Reg) (b : Byte) : g.value current b = b ++ b2 ++ b1 ++ b0 := by
  rw [h]
  rfl

/-- The bits of four bytes side by side. -/
theorem getLsbD_bytes (b3 b2 b1 b0 : Byte) (k : Nat) : (b3 ++ b2 ++ b1 ++ b0).getLsbD k =
    if k < 8 then b0.getLsbD k else if k - 8 < 8 then b1.getLsbD (k - 8)
    else if k - 8 - 8 < 8 then b2.getLsbD (k - 8 - 8) else b3.getLsbD (k - 8 - 8 - 8) := by
  rw [BitVec.getLsbD_append, BitVec.getLsbD_append, BitVec.getLsbD_append]

theorem extract_low (b3 b2 b1 b0 : Byte) (start len : Nat) (h : start + len ≤ 8) :
    (b3 ++ b2 ++ b1 ++ b0).extractLsb' start len = b0.extractLsb' start len :=
  BitVec.eq_of_getLsbD_eq fun i hi => by
    rw [BitVec.getLsbD_extractLsb', BitVec.getLsbD_extractLsb', getLsbD_bytes, if_pos (by omega)]

theorem extract_second (b3 b2 b1 b0 : Byte) : (b3 ++ b2 ++ b1 ++ b0).extractLsb' 8 8 = b1 :=
  BitVec.eq_of_getLsbD_eq fun i hi => by
    rw [BitVec.getLsbD_extractLsb', getLsbD_bytes, decide_eq_true hi, Bool.true_and, if_neg (by omega), if_pos (by omega),
      Nat.add_sub_cancel_left]

theorem setWidth_low (b3 b2 b1 b0 : Byte) : (b3 ++ b2 ++ b1 ++ b0).setWidth 16 = b1 ++ b0 :=
  BitVec.eq_of_getLsbD_eq fun i hi => by
    rw [BitVec.getLsbD_setWidth, getLsbD_bytes, decide_eq_true hi, Bool.true_and, BitVec.getLsbD_append]
    split
    · rfl
    · exact if_pos (by omega)

/-- R80: the attributes a value of four bytes spells are those of its lowest byte. -/
theorem attrOf_bytes (b3 b2 b1 b0 : Byte) : attrOf (b3 ++ b2 ++ b1 ++ b0) =
    (policyOf (b0.extractLsb' 0 2).toNat).map fun p =>
      { policy := p, coherent := b0.getLsbD 2, writers := b0.extractLsb' 3 4, atomics := b0.getLsbD 7 } := by
  rw [attrOf, extract_low _ _ _ _ 0 2 (by omega), extract_low _ _ _ _ 3 4 (by omega), getLsbD_bytes, getLsbD_bytes]
  rfl

/-! ### Writes of registers -/

/-- R193: the argument registers are taken as written, and a byte for another register is discarded. -/
theorem State.takeRegister_of_pointer (s : State) (b : Byte) :
    (s.mg.pointer = 0x0F#8 → s.takeRegister b = s.modMg fun m => { m with arg0 := s.newValue b }) ∧
    (s.mg.pointer = 0x13#8 → s.takeRegister b = s.modMg fun m => { m with arg1 := s.newValue b }) := by
  constructor <;> intro h <;> rw [State.takeRegister, Management.word_toNat, h] <;> rfl

theorem State.takeRegister_of_other {s : State} (b : Byte) (hrow : s.mg.byteRow = .register) (h0 : s.mg.pointer ≠ 0x0F#8)
    (h1 : s.mg.pointer ≠ 0x13#8) : s.takeRegister b = s := by
  have hidx : s.mg.pointer.toNat % 4 = 3 := by
    by_contra h
    exact absurd (hrow.symm.trans (Management.byteRow_of_ne h)) nofun
  rw [State.takeRegister, Management.word_toNat]
  split
  · exact absurd (BitVec.eq_of_toNat_eq (show s.mg.pointer.toNat = 15 by omega)) h0
  · exact absurd (BitVec.eq_of_toNat_eq (show s.mg.pointer.toNat = 19 by omega)) h1
  · rfl

/-- R195: the mark is cleared by 1 in position 16. -/
theorem State.takeCmdStatus_eq (s : State) (b : Byte) : s.takeCmdStatus b =
    s.modMg fun m => { m with status := { m.status with mark := m.status.mark && !(s.clearValue b).getLsbD 16 } } := by
  unfold State.takeCmdStatus
  split
  · rename_i h
    rw [h, Bool.not_true]
    simp only [Bool.and_false]
  · rename_i h
    rw [Bool.eq_false_iff.mpr h, Bool.not_false]
    simp only [Bool.and_true]
    rfl

/-- R113: LOCK_LIMIT by the range of the value. -/
theorem State.takeLockLimit_eq (s : State) (b : Byte) : s.takeLockLimit b = { s with hp := { s.hp with
    lockLimit := if 1 ≤ (s.newValue b).toNat ∧ (s.newValue b).toNat ≤ 1023 then (s.newValue b).setWidth 16
      else s.hp.lockLimit } } := by
  unfold State.takeLockLimit
  dsimp only
  by_cases h : s.newValue b = 0#32 ∨ 1023 < (s.newValue b).toNat
  · rw [if_pos h, if_neg]
    rcases h with h | h
    · rw [h]; decide
    · omega
  · rw [if_neg h, if_pos]
    obtain ⟨hne, hle⟩ := not_or.mp h
    exact ⟨by bv_omega, Nat.le_of_not_lt hle⟩

/-- R11: ADMIT_POLICY by the value. -/
theorem State.takeAdmitPolicy_eq (s : State) (b : Byte) : s.takeAdmitPolicy b = { s with pd := { s.pd with
    admitPolicy := if (s.newValue b).toNat = 0 then .displace
      else if (s.newValue b).toNat = 1 then .decline else s.pd.admitPolicy } } := by
  unfold State.takeAdmitPolicy
  rcases hn : (s.newValue b).toNat with _ | _ | n <;> rfl

/-- R80: DEFAULT_ATTR by the policy of the lowest byte. -/
theorem State.takeDefaultAttr_of_bytes {s : State} {b b2 b1 b0 : Byte} (hv : s.newValue b = b ++ b2 ++ b1 ++ b0) :
    ∃ a, s.takeDefaultAttr b = { s with rm := { s.rm with defaults := a } } ∧
      (b0.extractLsb' 0 2 = 3#2 → a = s.rm.defaults) ∧
      (b0.extractLsb' 0 2 ≠ 3#2 → a =
        { policy := if b0.extractLsb' 0 2 = 0#2 then .uncached else if b0.extractLsb' 0 2 = 1#2 then .wt else .wb,
          coherent := b0.getLsbD 2, writers := b0.extractLsb' 3 4, atomics := b0.getLsbD 7 }) := by
  unfold State.takeDefaultAttr
  rw [hv, attrOf_bytes]
  by_cases h3 : b0.extractLsb' 0 2 = 3#2
  · rw [h3]
    exact ⟨s.rm.defaults, rfl, fun _ => rfl, fun h => absurd rfl h⟩
  · rw [policyOf_of_ne_three (BitVec.isLt _) fun h => h3 (BitVec.eq_of_toNat_eq h)]
    refine ⟨_, rfl, fun h => absurd h h3, fun _ => ?_⟩
    have key : ∀ n : BitVec 2, (n.toNat = 0 ↔ n = 0#2) ∧ (n.toNat = 1 ↔ n = 1#2) := by decide
    simp only [key]

/-- Settles O40, register by register. -/
theorem registerWritesAreTaken : Obligations.RegisterWritesAreTaken := by
  refine ⟨fun s b v h h3 h2 h1 h0 => ?register, fun s b b2 b1 b0 hst => ?settings⟩
  case register =>
    have hv : s.clearOut.newValue b = v := State.newValue_of_bytes (s := s.clearOut) h3 h2 h1 h0
    have hexec : exec (.registerWrite b) s = _ := live_dataByte_of_atByte h (State.takeRegister b)
    obtain ⟨ha0, ha1⟩ := s.clearOut.takeRegister_of_pointer b
    refine ⟨fun hp => ?_, fun hp => ?_, fun hp0 hp1 => ?_⟩
    · rw [hexec, ha0 hp, hv]
      rfl
    · rw [hexec, ha1 hp, hv]
      rfl
    · rw [hexec, State.takeRegister_of_other (s := s.clearOut) b h.row hp0 hp1]
      rfl
  case settings =>
    have hnew : s.clearOut.newValue b = b ++ b2 ++ b1 ++ b0 := Staged.value_of_full hst _ b
    have hclear : s.clearOut.clearValue b = b ++ b2 ++ b1 ++ b0 := Staged.value_of_full hst _ b
    refine ⟨fun h => ?eventEnable, fun h => ?cmdStatus, fun h => ?defaultAttr, fun h => ?probeTimes, fun h => ?lockLimit,
      fun h => ?admitPolicy⟩
    case eventEnable =>
      refine ⟨_, live_dataByte_of_atByte h (State.takeEventEnable b), rfl, fun k => ?_⟩
      show ((s.clearOut.newValue b).setWidth 17).getLsbD k.val = _
      rw [hnew, BitVec.getLsbD_setWidth, decide_eq_true k.isLt, Bool.true_and]
    case cmdStatus =>
      have hexec : exec (.cmdStatusWrite b) s = _ := live_dataByte_of_atByte h (State.takeCmdStatus b)
      have hbit : (b ++ b2 ++ b1 ++ b0).getLsbD 16 = b2.getLsbD 0 := getLsbD_bytes b b2 b1 b0 16
      rw [hexec, State.takeCmdStatus_eq, hclear, hbit]
      rfl
    case defaultAttr =>
      have hexec : exec (.defaultAttrWrite b) s = _ := live_dataByte_of_atByte h (State.takeDefaultAttr b)
      obtain ⟨a, ha, hthree, hother⟩ := State.takeDefaultAttr_of_bytes hnew
      rw [hexec, ha]
      exact ⟨_, rfl, rfl, hthree, hother⟩
    case probeTimes =>
      have hexec : exec (.probeTimesWrite b) s = _ := live_dataByte_of_atByte h (State.takeProbeTimes b)
      rw [hexec, State.takeProbeTimes, hnew, extract_low _ _ _ _ 0 8 (by omega), extract_second, BitVec.extractLsb'_eq_self]
      rfl
    case lockLimit =>
      have hexec : exec (.lockLimitWrite b) s = _ := live_dataByte_of_atByte h (State.takeLockLimit b)
      rw [hexec, State.takeLockLimit_eq, hnew, setWidth_low]
      rfl
    case admitPolicy =>
      have hexec : exec (.admitPolicyWrite b) s = _ := live_dataByte_of_atByte h (State.takeAdmitPolicy b)
      rw [hexec, State.takeAdmitPolicy_eq, hnew]
      rfl

/-! ### Commands -/

/-- R195: the code of a command; 0 names none. -/
def Cmd.code : Cmd → Byte
  | .writeRegion => 1#8
  | .setMode => 2#8
  | .sweep => 3#8
  | .resume => 4#8
  | .release => 5#8
  | .portDisable => 6#8
  | .portEnable => 7#8
  | .popFault => 8#8
  | .clearCounters => 9#8
  | .readDir => 10#8
  | .readTt => 11#8
  | .unknown => 0#8

theorem code_eq_of_cmdOf {code : Byte} {c : Cmd} (h : cmdOf code = c) (hc : c ≠ .unknown) : code = c.code := by
  unfold cmdOf at h
  split at h
  case h_12 => exact absurd h.symm hc
  all_goals
    subst h
    exact BitVec.eq_of_toNat_eq ‹_›

/-- R195: a command that is taken has been written with its code. -/
theorem State.AtCommand.code_eq {s : State} {c : Cmd} (h : s.AtCommand c) (hc : c ≠ .unknown) :
    s.mg.commandCode = c.code := code_eq_of_cmdOf (Management.cmdOf_commandCode h.byte.row) hc

/-- R195: a command that leaves the management port but for its state and reason, and drives nothing. -/
theorem commandByte_of_run_eq {s u : State} {c : Cmd} {run : State → State} {state : CmdState} {reason : Reason}
    (h : s.AtCommand c) (hc : c ≠ .unknown) (hrun : run s.commandTaken = u.setStatus state reason)
    (hmg : u.mg = s.commandTaken.mg) (hout : u.out = []) :
    commandByte c run s = .next { u with mg := s.mg.afterCommand c.code state reason, out := [.mgAck] } := by
  rw [commandByte_of_atCommand h, hrun, ← h.code_eq hc]
  refine congrArg _ ?_
  have hu : u = { u with mg := s.commandTaken.mg, out := [] } := by rw [← hmg, ← hout]
  rw [hu]
  rfl

/-- R181: a record of the quarantine table is removed where it stands. -/
theorem eraseIdx_middle {α : Type} (before after : List α) (r : α) :
    (before ++ r :: after).eraseIdx before.length = before ++ after := by
  rw [List.eraseIdx_append_of_length_le (Nat.le_refl _), Nat.sub_self]
  rfl

/-- Settles O47: RESUME by mode and table, RELEASE by index and table. -/
theorem resumeAndRelease : Obligations.ResumeAndRelease := by
  refine fun s b => ⟨fun h => ⟨fun hm hroom => ?coherent, fun hm hfull => ?busy, fun hm => ?wrongMode⟩,
    fun h n hn => ⟨fun h7 => ?index, fun h7 hnil => ?empty, fun h7 hne hlen => ?absent, fun before r after h7 hq hl => ?removed⟩⟩
  case coherent =>
    refine commandByte_of_run_eq (u := (s.commandTaken.setMode .coherent).raise .modeChanged) h nofun ?_ rfl rfl
    rw [State.cmdResume, show s.commandTaken.msc.mode = .faulted from hm]
    exact if_pos hroom
  case busy =>
    refine commandByte_of_run_eq (u := s.commandTaken) h nofun ?_ rfl rfl
    rw [State.cmdResume, show s.commandTaken.msc.mode = .faulted from hm]
    exact if_neg (Nat.not_lt_of_le hfull)
  case wrongMode =>
    refine commandByte_of_run_eq (u := s.commandTaken) h nofun ?_ rfl rfl
    rcases hm with hm | hm
    · rw [State.cmdResume, show s.commandTaken.msc.mode = .pass from hm]; rfl
    · rw [State.cmdResume, show s.commandTaken.msc.mode = .coherent from hm]; rfl
  all_goals
    have hidx : s.commandTaken.mg.index = n := hn.symm
  case index =>
    refine commandByte_of_run_eq (u := s.commandTaken) h nofun ?_ rfl rfl
    rw [State.cmdRelease, hidx, if_pos h7]
    rfl
  case empty =>
    refine commandByte_of_run_eq (u := s.commandTaken) h nofun ?_ rfl rfl
    rw [State.cmdRelease, hidx, if_neg (Nat.not_lt_of_le h7), if_pos (by
      show s.msc.quarantine.isEmpty = true
      rw [hnil]; rfl)]
    rfl
  case absent =>
    refine commandByte_of_run_eq (u := s.commandTaken) h nofun ?_ rfl rfl
    rw [State.cmdRelease, hidx, if_neg (Nat.not_lt_of_le h7), if_neg (by
      show ¬ s.msc.quarantine.isEmpty = true
      simpa using hne), if_pos (show s.commandTaken.msc.quarantine.length ≤ n from hlen)]
    rfl
  case removed =>
    refine commandByte_of_run_eq (u := s.commandTaken.setQuarantine (before ++ after)) h nofun ?_ rfl rfl
    have hq' : s.commandTaken.msc.quarantine = before ++ r :: after := hq
    rw [State.cmdRelease, hidx, if_neg (Nat.not_lt_of_le h7), hq', if_neg (by simp), if_neg (by simp; omega), ← hl,
      eraseIdx_middle]
    rfl

/-- Settles O51: a command while BUSY leaves its mark alone, whichever it is. -/
theorem clearCountersUnknownAndBusyCommands : Obligations.ClearCountersUnknownAndBusyCommands := by
  refine ⟨fun s b => ⟨fun h => ?clear, fun h => ?unknown⟩, fun s b i c hic h hbusy => ?busy⟩
  case clear =>
    exact commandByte_of_run_eq
      (u := { s.commandTaken with ev := { s.ev with counters := EventUnit.afterReset.counters } }) h nofun rfl rfl rfl
  case unknown => exact commandByte_of_run_eq_setEv_setStatus (e := s.ev) h rfl
  case busy =>
    simp only [List.mem_cons, Prod.mk.injEq, List.not_mem_nil, or_false] at hic
    rcases hic with ⟨rfl, rfl⟩ | ⟨rfl, rfl⟩ | ⟨rfl, rfl⟩ | ⟨rfl, rfl⟩ | ⟨rfl, rfl⟩ | ⟨rfl, rfl⟩ | ⟨rfl, rfl⟩ | ⟨rfl, rfl⟩ |
      ⟨rfl, rfl⟩ | ⟨rfl, rfl⟩ | ⟨rfl, rfl⟩ | ⟨rfl, rfl⟩
    all_goals exact commandByte_of_busy h hbusy _

end Sys2Proof.Machine
end

section
/-! SUPPORT. The register window and the snapshots: a register's fields, read off the number it holds (R194, R197). -/

set_option Elab.async false

namespace Sys2Proof.Machine

/-! ### Fields -/

/-- A register holds the number `n`, below the position `p`. -/
def Fits (w : Reg) (p n : Nat) : Prop := w.toNat = n ∧ n < 2 ^ p

theorem Fits.first {l v : Nat} (hv : v < 2 ^ l) (hl : l ≤ 32 := by decide) : Fits (fieldAt 0 v) l v := by
  refine ⟨?_, hv⟩
  rw [fieldAt, BitVec.shiftLeft_zero, BitVec.toNat_ofNat,
    Nat.mod_eq_of_lt (lt_of_lt_of_le hv (Nat.pow_le_pow_right (by omega) hl))]

/-- A field above those that a register holds adds its number at its place. -/
theorem Fits.field {w : Reg} {q n : Nat} (h : Fits w q n) (p : Nat) {l v : Nat} (hv : v < 2 ^ l)
    (hq : q ≤ p := by decide) (hp : p + l ≤ 32 := by decide) :
    Fits (w ||| fieldAt p v) (p + l) (n + v * 2 ^ p) := by
  obtain ⟨hw, hn⟩ := h
  have hn' : n < 2 ^ p := lt_of_lt_of_le hn (Nat.pow_le_pow_right (by omega) hq)
  have hsum : n + v * 2 ^ p < 2 ^ (p + l) := by
    calc n + v * 2 ^ p < (v + 1) * 2 ^ p := by rw [Nat.add_mul, Nat.one_mul]; omega
      _ ≤ 2 ^ l * 2 ^ p := Nat.mul_le_mul_right _ hv
      _ = 2 ^ (p + l) := by rw [Nat.pow_add, Nat.mul_comm]
  have h32 : n + v * 2 ^ p < 2 ^ 32 := lt_of_lt_of_le hsum (Nat.pow_le_pow_right (by omega) hp)
  have hv32 : v < 2 ^ 32 := lt_of_lt_of_le hv (Nat.pow_le_pow_right (by omega) (by omega))
  have hf : (fieldAt p v).toNat = v * 2 ^ p := by
    rw [fieldAt, BitVec.toNat_shiftLeft, BitVec.toNat_ofNat, Nat.mod_eq_of_lt hv32, Nat.shiftLeft_eq,
      Nat.mod_eq_of_lt (by omega)]
  refine ⟨?_, hsum⟩
  rw [BitVec.toNat_or, hf, hw, Nat.or_comm, ← Nat.shiftLeft_eq, ← Nat.shiftLeft_add_eq_or_of_lt hn', Nat.add_comm]

theorem Fits.flag {w : Reg} {q n : Nat} (h : Fits w q n) (p : Nat) (b : Bool) (hq : q ≤ p := by decide)
    (hp : p + 1 ≤ 32 := by decide) : Fits (w ||| flagAt p b) (p + 1) (n + b.toNat * 2 ^ p) := h.field p b.toNat_lt hq hp

theorem Fits.firstFlag (b : Bool) : Fits (flagAt 0 b) 1 b.toNat := Fits.first b.toNat_lt

theorem Fits.extract {w : Reg} {q n : Nat} (h : Fits w q n) (start len : Nat) :
    (w.extractLsb' start len).toNat = n / 2 ^ start % 2 ^ len := by
  rw [BitVec.extractLsb'_toNat, h.1, Nat.shiftRight_eq_div_pow]

theorem Fits.getLsbD {w : Reg} {q n : Nat} (h : Fits w q n) (k : Nat) (b : Bool) (hb : n / 2 ^ k % 2 = b.toNat) :
    w.getLsbD k = b := by
  rw [BitVec.getLsbD, h.1, Nat.testBit_eq_decide_div_mod_eq, hb]
  cases b <;> rfl

/-- A field that is a whole item. -/
theorem Fits.extract_eq {w : Reg} {q n : Nat} (h : Fits w q n) (start : Nat) {len : Nat} (x : BitVec len)
    (hx : n / 2 ^ start % 2 ^ len = x.toNat) : w.extractLsb' start len = x :=
  BitVec.eq_of_toNat_eq ((h.extract start len).trans hx)

/-- The positions of one field. -/
def rangeMask (start len : Nat) : Reg := BitVec.ofNat 32 (2 ^ len - 1) <<< start

/-- Positions that hold nothing. -/
theorem Fits.and_rangeMask {w : Reg} {q n : Nat} (h : Fits w q n) {start len : Nat} (hz : n / 2 ^ start % 2 ^ len = 0) :
    w &&& rangeMask start len = 0#32 := by
  refine BitVec.eq_of_getLsbD_eq fun i hi => ?_
  rw [BitVec.getLsbD_and, rangeMask, BitVec.getLsbD_shiftLeft, BitVec.getLsbD_ofNat, Nat.testBit_two_pow_sub_one,
    BitVec.getLsbD_zero]
  by_cases hr : start ≤ i ∧ i - start < len
  · have hbit : (w.extractLsb' start len).getLsbD (i - start) = false := by
      rw [h.extract_eq start 0#len hz, BitVec.getLsbD_zero]
    rw [BitVec.getLsbD_extractLsb', decide_eq_true hr.2, Bool.true_and, Nat.add_sub_cancel' hr.1] at hbit
    rw [hbit, Bool.false_and]
  · rw [not_and_or] at hr
    rcases hr with hr | hr
    · rw [decide_eq_true (Nat.lt_of_not_le hr)]
      simp
    · rw [decide_eq_false hr]
      simp

theorem and_or_eq_zero {w a b : Reg} (ha : w &&& a = 0#32) (hb : w &&& b = 0#32) : w &&& (a ||| b) = 0#32 := by
  rw [BitVec.and_or_distrib_left, ha, hb]
  rfl

theorem Fits.setWidth {n : Nat} (x : BitVec n) (hn : n ≤ 32 := by decide) : Fits (x.setWidth 32) n x.toNat := by
  refine ⟨?_, x.isLt⟩
  rw [BitVec.toNat_setWidth, Nat.mod_eq_of_lt (lt_of_lt_of_le x.isLt (Nat.pow_le_pow_right (by omega) hn))]

/-! ### The codes -/

theorem CmdState.code_lt (c : CmdState) : c.code < 2 ^ 2 := by cases c <;> decide
theorem Reason.code_lt (c : Reason) : c.code < 2 ^ 3 := by cases c <;> decide
theorem Policy.code_lt (c : Policy) : c.code < 2 ^ 2 := by cases c <;> decide
theorem PortState.code_lt (c : PortState) : c.code < 2 ^ 2 := by cases c <;> decide
theorem SweepOrigin.code_lt (c : SweepOrigin) : c.code < 2 ^ 2 := by cases c <;> decide
theorem EntryState.code_lt (c : EntryState) : c.code < 2 ^ 2 := by cases c <;> decide
theorem EntryPolicy.code_lt (c : EntryPolicy) : c.code < 2 ^ 2 := by cases c <;> decide
theorem TxnKind.code_lt (c : TxnKind) : c.code < 2 ^ 4 := by cases c <;> decide
theorem FaultKind.code_lt (c : FaultKind) : c.code < 2 ^ 4 := by cases c <;> decide
theorem QuarCause.code_lt (c : QuarCause) : c.code < 2 ^ 2 := by cases c <;> decide
theorem Phase.code_lt (c : Phase) : c.code < 2 ^ 4 := by cases c <;> decide
theorem probeModeCode_lt (c : Option ProbeMode) : probeModeCode c < 2 ^ 2 := by rcases c with _ | _ | _ <;> decide
theorem answerCode_lt (c : Option Answer) : answerCode c < 2 ^ 3 := by rcases c with _ | _ | _ | _ | _ <;> decide

theorem resultCode_lt (c : Option ResultCode) : resultCode c < 2 ^ 3 := by
  unfold resultCode
  split <;> decide

theorem Issuer.code_lt (c : Issuer) : c.code < 2 ^ 3 := by
  cases c with
  | rp p => have := p.isLt; simp only [Issuer.code]; omega
  | hp => decide
  | internal => decide

theorem Work.originCode_lt (w : Work) : w.originCode < 2 ^ 3 := by
  unfold Work.originCode
  split
  · decide
  · exact Issuer.code_lt _

theorem tagNumber_lt (g : Option Tag) : g.elim 0 Fin.val < 2 ^ 4 := by
  cases g with
  | none => decide
  | some g => exact g.isLt

theorem Reason.code_mem (c : Reason) : (c, c.code) ∈ reasonCodes := by cases c <;> decide
theorem Policy.code_mem (c : Policy) : (c, c.code) ∈ policyCodes := by cases c <;> decide
theorem TxnKind.code_mem (c : TxnKind) : (c, c.code) ∈ kindCodes := by cases c <;> decide
theorem FaultKind.code_mem (c : FaultKind) : (c, c.code) ∈ faultCodes := by cases c <;> decide
theorem Phase.code_mem (c : Phase) : (c, c.code) ∈ phaseCodes := by cases c <;> decide

theorem Issuer.code_mem (c : Issuer) : (c, c.code) ∈ issuerCodes := by
  cases c with
  | rp p => fin_cases p <;> decide
  | hp => decide
  | internal => decide

/-! ### The numbers of the registers -/

theorem CmdStatus.word_fits (c : CmdStatus) : Fits c.word (16 + 1)
    (c.state.code + c.reason.code * 2 ^ 4 + c.code.toNat * 2 ^ 8 + c.mark.toNat * 2 ^ 16) :=
  (((Fits.first c.state.code_lt).field 4 c.reason.code_lt).field 8 c.code.isLt).flag 16 c.mark

theorem Attr.word_fits (a : Attr) : Fits a.word (7 + 1)
    (a.policy.code + a.coherent.toNat * 2 ^ 2 + a.writers.toNat * 2 ^ 3 + a.atomics.toNat * 2 ^ 7) :=
  (((Fits.first a.policy.code_lt).flag 2 a.coherent).field 3 a.writers.isLt).flag 7 a.atomics

theorem ProbeUnit.times_fits (u : ProbeUnit) : Fits u.times (8 + 8) (u.probeLimit.toNat + u.wbLimit.toNat * 2 ^ 8) :=
  (Fits.first u.probeLimit.isLt).field 8 u.wbLimit.isLt

theorem State.portStates_fits (s : State) : Fits s.portStates (6 + 2)
    ((s.port 0).state.code + (s.port 1).state.code * 2 ^ 2 + (s.port 2).state.code * 2 ^ 4 +
      (s.port 3).state.code * 2 ^ 6) :=
  (((Fits.first (s.port 0).state.code_lt).field 2 (s.port 1).state.code_lt).field 4 (s.port 2).state.code_lt).field 6
    (s.port 3).state.code_lt

theorem Sweep.word0_fits (w : Sweep) : Fits w.word0 (24 + 8)
    ((w.phase != .stopped).toNat + w.origin.code * 2 ^ 1 + w.cursor.val / 4 * 2 ^ 8 + w.cursor.val % 4 * 2 ^ 16 +
      w.pass.toNat * 2 ^ 24) := by
  have h1 : w.cursor.val / 4 < 2 ^ 8 := by omega
  have h2 : w.cursor.val % 4 < 2 ^ 2 := by omega
  exact ((((Fits.firstFlag _).field 1 w.origin.code_lt).field 8 h1).field 16 h2).field 24 w.pass.isLt

theorem Sweep.word1_fits {w : Sweep} (hp : w.passedOver ≤ 1024) (hr : w.remaining ≤ 1024) :
    Fits w.word1 (16 + 11) (w.passedOver + w.remaining * 2 ^ 16) :=
  (Fits.first (l := 11) (by omega)).field 16 (l := 11) (by omega)

theorem EventUnit.faultCount_fits {e : EventUnit} (h : e.faults.length ≤ 4) :
    Fits e.faultCount (8 + 8) (e.faults.length + e.overflow.toNat * 2 ^ 8) :=
  (Fits.first (l := 3) (by omega)).field 8 e.overflow.isLt

theorem FaultRec.word0_fits (r : FaultRec) : Fits r.word0 (12 + 4)
    (r.kind.code + r.issuer.code * 2 ^ 4 + r.tag.isSome.toNat * 2 ^ 7 + r.tag.elim 0 Fin.val * 2 ^ 8 +
      r.txnKind.code * 2 ^ 12) :=
  ((((Fits.first r.kind.code_lt).field 4 r.issuer.code_lt).flag 7 _).field 8 (tagNumber_lt r.tag)).field 12
    r.txnKind.code_lt

theorem QuarRec.word_fits (q : QuarRec) : Fits q.word (29 + 1)
    (q.line.toNat + q.cause.code * 2 ^ 27 + q.late.toNat * 2 ^ 29) :=
  ((Fits.setWidth q.line).field 27 q.cause.code_lt).flag 29 q.late

theorem Region.word0_fits (r : Region) : Fits r.word0 (14 + 1)
    (r.valid.toNat + r.exponent.toNat * 2 ^ 1 + r.attr.policy.code * 2 ^ 7 + r.attr.coherent.toNat * 2 ^ 9 +
      r.attr.writers.toNat * 2 ^ 10 + r.attr.atomics.toNat * 2 ^ 14) :=
  (((((Fits.firstFlag r.valid).field 1 r.exponent.isLt).field 7 r.attr.policy.code_lt).flag 9
    r.attr.coherent).field 10 r.attr.writers.isLt).flag 14 r.attr.atomics

/-! ### What each register shows -/

theorem Mode.code_mem (m : Mode) : (m, m.code) ∈ [(Mode.pass, 0), (.coherent, 1), (.faulted, 2)] := by cases m <;> decide

theorem CmdStatus.word_shows (c : CmdStatus) :
    (c.state, (c.word.extractLsb' 0 2).toNat) ∈ [(CmdState.done, 0), (.busy, 1), (.refused, 2)] ∧
    (c.reason, (c.word.extractLsb' 4 3).toNat) ∈ reasonCodes ∧ c.word.extractLsb' 8 8 = c.code ∧
    (c.word.getLsbD 16 = true ↔ c.mark = true) ∧ c.word &&& 0xFFFE008C#32 = 0#32 := by
  have h := c.word_fits
  have h1 := c.state.code_lt
  have h2 := c.reason.code_lt
  have h3 := c.code.isLt
  have h4 := c.mark.toNat_le
  have e1 : (c.word.extractLsb' 0 2).toNat = c.state.code := (h.extract 0 2).trans (by omega)
  have e2 : (c.word.extractLsb' 4 3).toNat = c.reason.code := (h.extract 4 3).trans (by omega)
  rw [e1, e2, h.getLsbD 16 c.mark (by omega)]
  refine ⟨by cases c.state <;> decide, c.reason.code_mem, h.extract_eq 8 _ (by omega), .rfl, ?_⟩
  exact and_or_eq_zero (and_or_eq_zero (h.and_rangeMask (start := 2) (len := 2) (by omega))
    (h.and_rangeMask (start := 7) (len := 1) (by omega))) (h.and_rangeMask (start := 17) (len := 15) (by omega))

theorem flags_show (x : BitVec 17) :
    (∀ k : Fin 17, (x.setWidth 32).getLsbD k.val = x.getLsbD k.val) ∧ x.setWidth 32 &&& 0xFFFE0000#32 = 0#32 := by
  refine ⟨fun k => ?_, (Fits.setWidth x).and_rangeMask (start := 17) (len := 15) (by have := x.isLt; omega)⟩
  rw [BitVec.getLsbD_setWidth, decide_eq_true (by omega), Bool.true_and]

theorem Attr.word_shows (a : Attr) :
    (a.policy, (a.word.extractLsb' 0 2).toNat) ∈ policyCodes ∧ a.word.getLsbD 2 = a.coherent ∧
    a.word.extractLsb' 3 4 = a.writers ∧ a.word.getLsbD 7 = a.atomics ∧ a.word &&& 0xFFFFFF00#32 = 0#32 := by
  have h := a.word_fits
  have h1 := a.policy.code_lt
  have h2 := a.coherent.toNat_le
  have h3 := a.writers.isLt
  have h4 := a.atomics.toNat_le
  have e1 : (a.word.extractLsb' 0 2).toNat = a.policy.code := (h.extract 0 2).trans (by omega)
  rw [e1]
  exact ⟨a.policy.code_mem, h.getLsbD 2 _ (by omega), h.extract_eq 3 _ (by omega), h.getLsbD 7 _ (by omega),
    h.and_rangeMask (start := 8) (len := 24) (by omega)⟩

theorem ProbeUnit.times_show (u : ProbeUnit) :
    u.times.extractLsb' 0 8 = u.probeLimit ∧ u.times.extractLsb' 8 8 = u.wbLimit ∧ u.times &&& 0xFFFF0000#32 = 0#32 := by
  have h := u.times_fits
  have h1 := u.probeLimit.isLt
  have h2 := u.wbLimit.isLt
  exact ⟨h.extract_eq 0 _ (by omega), h.extract_eq 8 _ (by omega), h.and_rangeMask (start := 16) (len := 16) (by omega)⟩

theorem lockLimit_shows (x : BitVec 16) :
    (x.setWidth 32).extractLsb' 0 16 = x ∧ x.setWidth 32 &&& 0xFFFF0000#32 = 0#32 := by
  have h := Fits.setWidth x
  have h1 := x.isLt
  exact ⟨h.extract_eq 0 _ (by omega), h.and_rangeMask (start := 16) (len := 16) (by omega)⟩

theorem State.portStates_show (s : State) :
    (∀ p : PortIx, ((s.port p).state, (s.portStates.extractLsb' (2 * p.val) 2).toNat) ∈
      [(PortState.enabled, 0), (.draining, 1), (.disabled, 2)]) ∧ s.portStates &&& 0xFFFFFF00#32 = 0#32 := by
  have h := s.portStates_fits
  have h0 := (s.port 0).state.code_lt
  have h1 := (s.port 1).state.code_lt
  have h2 := (s.port 2).state.code_lt
  have h3 := (s.port 3).state.code_lt
  refine ⟨fun p => ?_, h.and_rangeMask (start := 8) (len := 24) (by omega)⟩
  have e : (s.portStates.extractLsb' (2 * p.val) 2).toNat = (s.port p).state.code := by
    match p with
    | 0 => exact (h.extract 0 2).trans (by omega)
    | 1 => exact (h.extract 2 2).trans (by omega)
    | 2 => exact (h.extract 4 2).trans (by omega)
    | 3 => exact (h.extract 6 2).trans (by omega)
  rw [e]
  cases (s.port p).state <;> decide

theorem Sweep.word0_shows (w : Sweep) :
    (w.word0.getLsbD 0 = true ↔ w.phase ≠ .stopped) ∧
    (w.origin, (w.word0.extractLsb' 1 2).toNat) ∈ [(SweepOrigin.none, 0), (.sweep, 1), (.setMode, 2)] ∧
    (w.word0.extractLsb' 8 8).toNat = w.cursor.val / 4 ∧ (w.word0.extractLsb' 16 2).toNat = w.cursor.val % 4 ∧
    w.word0.extractLsb' 24 8 = w.pass ∧ w.word0 &&& 0x00FC00F8#32 = 0#32 := by
  have h := w.word0_fits
  have h1 := (w.phase != .stopped).toNat_le
  have h2 := w.origin.code_lt
  have h3 := w.pass.isLt
  have h4 : w.cursor.val / 4 < 256 := by omega
  have h5 : w.cursor.val % 4 < 4 := by omega
  generalize w.cursor.val / 4 = set at h h4 ⊢
  generalize w.cursor.val % 4 = way at h h5 ⊢
  have e1 : (w.word0.extractLsb' 1 2).toNat = w.origin.code := (h.extract 1 2).trans (by omega)
  rw [e1, h.getLsbD 0 (w.phase != .stopped) (by omega), bne_iff_ne]
  refine ⟨.rfl, by cases w.origin <;> decide, (h.extract 8 8).trans (by omega), (h.extract 16 2).trans (by omega),
    h.extract_eq 24 _ (by omega), ?_⟩
  exact and_or_eq_zero (h.and_rangeMask (start := 3) (len := 5) (by omega))
    (h.and_rangeMask (start := 18) (len := 6) (by omega))

theorem Sweep.word1_shows {w : Sweep} (hp : w.passedOver ≤ 1024) (hr : w.remaining ≤ 1024) :
    (w.word1.extractLsb' 0 11).toNat = w.passedOver ∧ (w.word1.extractLsb' 16 11).toNat = w.remaining ∧
    w.word1 &&& 0xF800F800#32 = 0#32 := by
  have h := Sweep.word1_fits hp hr
  refine ⟨(h.extract 0 11).trans (by omega), (h.extract 16 11).trans (by omega), ?_⟩
  exact and_or_eq_zero (h.and_rangeMask (start := 11) (len := 5) (by omega))
    (h.and_rangeMask (start := 27) (len := 5) (by omega))

theorem EventUnit.faultCount_shows {e : EventUnit} (he : e.faults.length ≤ 4) :
    (e.faultCount.extractLsb' 0 3).toNat = e.faults.length ∧ e.faultCount.extractLsb' 8 8 = e.overflow ∧
    e.faultCount &&& 0xFFFF00F8#32 = 0#32 := by
  have h := EventUnit.faultCount_fits he
  have h1 := e.overflow.isLt
  refine ⟨(h.extract 0 3).trans (by omega), h.extract_eq 8 _ (by omega), ?_⟩
  exact and_or_eq_zero (h.and_rangeMask (start := 3) (len := 5) (by omega))
    (h.and_rangeMask (start := 16) (len := 16) (by omega))

theorem FaultRec.word0_shows (r : FaultRec) :
    (r.kind, (r.word0.extractLsb' 0 4).toNat) ∈ faultCodes ∧ (r.issuer, (r.word0.extractLsb' 4 3).toNat) ∈ issuerCodes ∧
    r.word0.getLsbD 7 = r.tag.isSome ∧ (∀ g, r.tag = some g → (r.word0.extractLsb' 8 4).toNat = g.val) ∧
    (r.tag = none → r.word0.extractLsb' 8 4 = 0#4) ∧ (r.txnKind, (r.word0.extractLsb' 12 4).toNat) ∈ kindCodes ∧
    r.word0 &&& 0xFFFF0000#32 = 0#32 := by
  have h := r.word0_fits
  have h1 := r.kind.code_lt
  have h2 := r.issuer.code_lt
  have h3 := r.tag.isSome.toNat_le
  have h4 := tagNumber_lt r.tag
  have h5 := r.txnKind.code_lt
  have e1 : (r.word0.extractLsb' 0 4).toNat = r.kind.code := (h.extract 0 4).trans (by omega)
  have e2 : (r.word0.extractLsb' 4 3).toNat = r.issuer.code := (h.extract 4 3).trans (by omega)
  have e3 : (r.word0.extractLsb' 8 4).toNat = r.tag.elim 0 Fin.val := (h.extract 8 4).trans (by omega)
  have e4 : (r.word0.extractLsb' 12 4).toNat = r.txnKind.code := (h.extract 12 4).trans (by omega)
  rw [e1, e2, e3, e4]
  refine ⟨r.kind.code_mem, r.issuer.code_mem, h.getLsbD 7 _ (by omega), fun g hg => by rw [hg]; rfl,
    fun hg => BitVec.eq_of_toNat_eq (by rw [e3, hg]; rfl), r.txnKind.code_mem,
    h.and_rangeMask (start := 16) (len := 16) (by omega)⟩

theorem QuarRec.word_shows (r : QuarRec) :
    r.word.extractLsb' 0 27 = r.line ∧ r.word.getLsbD 29 = r.late ∧ r.word &&& 0xC0000000#32 = 0#32 ∧
    (r.cause, (r.word.extractLsb' 27 2).toNat) ∈ [(QuarCause.answerTimeout, 1), (.writebackTimeout, 2)] := by
  have h := r.word_fits
  have h1 := r.cause.code_lt
  have h2 := r.late.toNat_le
  have h3 := r.line.isLt
  have e1 : (r.word.extractLsb' 27 2).toNat = r.cause.code := (h.extract 27 2).trans (by omega)
  rw [e1]
  exact ⟨h.extract_eq 0 _ (by omega), h.getLsbD 29 _ (by omega), h.and_rangeMask (start := 30) (len := 2) (by omega),
    by cases r.cause <;> decide⟩

theorem Region.word0_shows (r : Region) :
    r.word0.getLsbD 0 = r.valid ∧ r.word0.extractLsb' 1 6 = r.exponent ∧
    (r.attr.policy, (r.word0.extractLsb' 7 2).toNat) ∈ policyCodes ∧ r.word0.getLsbD 9 = r.attr.coherent ∧
    r.word0.extractLsb' 10 4 = r.attr.writers ∧ r.word0.getLsbD 14 = r.attr.atomics ∧
    r.word0 &&& 0xFFFF8000#32 = 0#32 := by
  have h := r.word0_fits
  have h1 := r.valid.toNat_le
  have h2 := r.exponent.isLt
  have h3 := r.attr.policy.code_lt
  have h4 := r.attr.coherent.toNat_le
  have h5 := r.attr.writers.isLt
  have h6 := r.attr.atomics.toNat_le
  have e1 : (r.word0.extractLsb' 7 2).toNat = r.attr.policy.code := (h.extract 7 2).trans (by omega)
  rw [e1]
  exact ⟨h.getLsbD 0 _ (by omega), h.extract_eq 1 _ (by omega), r.attr.policy.code_mem, h.getLsbD 9 _ (by omega),
    h.extract_eq 10 _ (by omega), h.getLsbD 14 _ (by omega), h.and_rangeMask (start := 15) (len := 17) (by omega)⟩

/-! ### The window -/

theorem State.readRegister_faults (s : State) (n : Fin 4) :
    s.readRegister ((0x58 + 8 * n.val) / 4) = s.ev.faultWord (2 * n.val) ∧
    s.readRegister ((0x5C + 8 * n.val) / 4) = s.ev.faultWord (2 * n.val + 1) := by fin_cases n <;> exact ⟨rfl, rfl⟩

/-- R186: FAULTn shows the record at its place, in two words. -/
theorem EventUnit.faultWord_eq (e : EventUnit) (n : Nat) :
    e.faultWord (2 * n) = (e.faults[n]?).elim 0#32 FaultRec.word0 ∧
    e.faultWord (2 * n + 1) = (e.faults[n]?).elim 0#32 fun r => lineWord r.line := by
  unfold EventUnit.faultWord
  rw [show 2 * n / 2 = n by omega, show (2 * n + 1) / 2 = n by omega]
  cases e.faults[n]? with
  | none => exact ⟨rfl, rfl⟩
  | some r => exact ⟨if_pos (by omega), if_neg (by omega)⟩

theorem State.readRegister_quarantine (s : State) (n : Fin 8) :
    s.readRegister ((0x78 + 4 * n.val) / 4) = (s.msc.quarantine[n.val]?).elim 0#32 QuarRec.word := by
  have e : s.readRegister ((0x78 + 4 * n.val) / 4) = match s.msc.quarantine[n.val]? with
      | none => 0#32
      | some q => q.word := by fin_cases n <;> rfl
  rw [e]
  cases s.msc.quarantine[n.val]? <;> rfl

theorem State.readRegister_regions (s : State) (n : Fin 8) :
    s.readRegister ((0xA8 + 8 * n.val) / 4) = s.rm.regions[n.val].word0 ∧
    s.readRegister ((0xAC + 8 * n.val) / 4) = s.rm.regions[n.val].base := by
  have e : s.readRegister ((0xA8 + 8 * n.val) / 4) = s.rm.word (2 * n.val) ∧
      s.readRegister ((0xAC + 8 * n.val) / 4) = s.rm.word (2 * n.val + 1) := by fin_cases n <;> exact ⟨rfl, rfl⟩
  rw [e.1, e.2]
  unfold RegionMap.word
  rw [show 2 * n.val / 2 = n.val by omega, show (2 * n.val + 1) / 2 = n.val by omega, Vector.getElem?_eq_getElem n.isLt]
  exact ⟨if_pos (by omega), if_neg (by omega)⟩

/-- R192: no register at E8H to FFH. -/
theorem State.readRegister_above (s : State) {w : Nat} (h : 58 ≤ w) : s.readRegister w = 0#32 := by
  unfold State.readRegister
  rw [if_neg (by omega), if_neg (by omega), if_neg (by omega), if_neg (by omega), if_neg (by omega), if_neg (by omega)]

/-- R183, R185: ALERT, flag by flag. -/
theorem State.alert_iff (s : State) : s.alert = true ↔
    s.Running ∧ ∃ k : Fin 17, s.ev.flags.getLsbD k.val = true ∧ s.ev.enables.getLsbD k.val = true := by
  rw [State.alert, Bool.and_eq_true, Bool.not_eq_true', bne_iff_ne]
  refine and_congr .rfl ⟨fun h => ?_, fun ⟨k, hf, he⟩ h0 => ?_⟩
  · by_contra hno
    refine h (BitVec.eq_of_getLsbD_eq fun i hi => ?_)
    rw [BitVec.getLsbD_and, BitVec.getLsbD_zero]
    by_contra hne
    rw [Bool.not_eq_false, Bool.and_eq_true] at hne
    exact hno ⟨⟨i, hi⟩, hne⟩
  · have hbit : (s.ev.flags &&& s.ev.enables).getLsbD k.val = true := by rw [BitVec.getLsbD_and, hf, he]; rfl
    rw [h0, BitVec.getLsbD_zero] at hbit
    cases hbit

/-- Settles O39, register by register. -/
theorem registersAndAlertShowTheState : Obligations.RegistersAndAlertShowTheState := by
  refine ⟨fun s => ?_, State.alert_iff⟩
  have hmode : (s.readRegister (0x04 / 4)).toNat = s.msc.mode.code := by
    show (fieldAt 0 s.msc.mode.code).toNat = _
    cases s.msc.mode <;> rfl
  have hadmit : (s.pd.admitPolicy, (s.readRegister (0x2C / 4)).toNat) ∈ [(AdmitPolicy.displace, 0), (.decline, 1)] := by
    show (s.pd.admitPolicy, (fieldAt 0 s.pd.admitPolicy.code).toNat) ∈ _
    cases s.pd.admitPolicy <;> decide
  obtain ⟨hc1, hc2, hc3, hc4, hc5⟩ := s.mg.status.word_shows
  obtain ⟨hf1, hf2⟩ := flags_show s.ev.flags
  obtain ⟨he1, he2⟩ := flags_show s.ev.enables
  obtain ⟨ha1, ha2, ha3, ha4, ha5⟩ := s.rm.defaults.word_shows
  obtain ⟨hp1, hp2, hp3⟩ := s.pu.times_show
  obtain ⟨hl1, hl2⟩ := lockLimit_shows s.hp.lockLimit
  obtain ⟨hs1, hs2⟩ := s.portStates_show
  obtain ⟨hw1, hw2, hw3, hw4, hw5, hw6⟩ := s.msc.sweep.word0_shows
  refine ⟨rfl, hmode ▸ s.msc.mode.code_mem, rfl, rfl, rfl, hc1, hc2, hc3, hc4, hc5, hf1, hf2, he1, he2, ha1, ha2, ha3, ha4,
    ha5, hp1, hp2, hp3, hl1, hl2, hadmit, hs1, hs2, hw1, hw2, hw3, hw4, hw5, hw6, Sweep.word1_shows, EventUnit.faultCount_shows,
    rfl, rfl, rfl, rfl, rfl, rfl, fun n => ?faults, fun n => ?quarantine, rfl, rfl, rfl, rfl, fun n r v hr hv => ?regions,
    fun w hlo _ => s.readRegister_above (by omega)⟩
  case faults =>
    obtain ⟨h0, h1⟩ := s.readRegister_faults n
    obtain ⟨e0, e1⟩ := s.ev.faultWord_eq n.val
    rw [h0, h1, e0, e1]
    refine ⟨fun hn => by rw [hn]; exact ⟨rfl, rfl⟩, fun r hr v hv => ?_⟩
    rw [hr] at hv ⊢
    obtain ⟨k1, k2, k3, k4, k5, k6, k7⟩ := r.word0_shows
    subst hv
    exact ⟨k1, k2, k3, k4, k5, k6, k7, (Fits.setWidth r.line).1⟩
  case quarantine =>
    rw [s.readRegister_quarantine n]
    refine ⟨fun hn => by rw [hn]; rfl, fun r hr v hv => ?_⟩
    rw [hr] at hv
    subst hv
    exact r.word_shows
  case regions =>
    obtain ⟨h0, h1⟩ := s.readRegister_regions n
    rw [h0, ← hr] at hv
    rw [h1, ← hr]
    obtain ⟨k1, k2, k3, k4, k5, k6, k7⟩ := r.word0_shows
    subst hv
    exact ⟨k1, k2, k3, k4, k5, k6, k7, rfl⟩

end Sys2Proof.Machine
end

section
/-! SUPPORT. The inspection commands READ_DIR and READ_TT (R27, R52, R197). -/

set_option Elab.async false

namespace Sys2Proof.Machine

/-! ### Words of the snapshot -/

theorem wayWord_eq (k : SetIx) (w : Way) : wayWord k w = BitVec.ofNat 32 (k.val + 256 * w.val) := by
  have h : Fits (wayWord k w) (8 + 2) (k.val + w.val * 2 ^ 8) := (Fits.first (l := 8) k.isLt).field 8 (l := 2) w.isLt
  refine BitVec.eq_of_toNat_eq (h.1.trans ?_)
  rw [BitVec.toNat_ofNat]
  omega

theorem State.dirWord_fits (s : State) (e : DirEntry) {age : Nat} (h : age ≤ 3) : Fits (s.dirWord e age) (7 + 1)
    (true.toNat + e.state.code * 2 ^ 1 + e.policy.code * 2 ^ 3 + age * 2 ^ 5 + (s.isLocked e.line).toNat * 2 ^ 7) :=
  ((((Fits.firstFlag true).field 1 e.state.code_lt).field 3 e.policy.code_lt).field 5 (l := 2) (by omega)).flag 7 _

/-- R197: SNAP0 after READ_DIR. -/
theorem State.dirWord_shows (s : State) (e : DirEntry) {age : Nat} (hage : age ≤ 3) :
    (s.dirWord e age).getLsbD 0 = true ∧ (s.dirWord e age).getLsbD 31 = false ∧
    ((s.dirWord e age).extractLsb' 1 2).toNat = (if e.state = .reserved then 1 else 2) ∧
    ((s.dirWord e age).extractLsb' 3 2).toNat = (if e.policy = .wt then 1 else 2) ∧
    ((s.dirWord e age).extractLsb' 5 2).toNat = age ∧ (s.dirWord e age).getLsbD 7 = s.isLocked e.line ∧
    s.dirWord e age &&& 0xFFFFFF00#32 = 0#32 := by
  have h := s.dirWord_fits e hage
  have h1 := e.state.code_lt
  have h2 := e.policy.code_lt
  have h3 := (s.isLocked e.line).toNat_le
  have ht : true.toNat = 1 := rfl
  have hs : e.state.code = if e.state = .reserved then 1 else 2 := by cases e.state <;> rfl
  have hp : e.policy.code = if e.policy = .wt then 1 else 2 := by cases e.policy <;> rfl
  rw [← hs, ← hp]
  exact ⟨h.getLsbD 0 true (by omega), h.getLsbD 31 false (by rw [show false.toNat = 0 from rfl]; omega),
    (h.extract 1 2).trans (by omega), (h.extract 3 2).trans (by omega), (h.extract 5 2).trans (by omega),
    h.getLsbD 7 _ (by omega), h.and_rangeMask (start := 8) (len := 24) (by omega)⟩

theorem State.txnWord_fits (s : State) (i : EntryIx) (x : Txn) : Fits (s.txnWord i x) (31 + 1)
    (true.toNat + x.work.kind.code * 2 ^ 1 + x.work.originCode * 2 ^ 5 + x.work.tag?.elim 0 Fin.val * 2 ^ 8 +
      x.phase.code * 2 ^ 12 + probeModeCode x.probeMode * 2 ^ 16 + answerCode x.answer * 2 ^ 18 +
      resultCode x.result * 2 ^ 21 + x.abandoned.toNat * 2 ^ 24 + (s.holds i x.line).toNat * 2 ^ 25 +
      true.toNat * 2 ^ 31) :=
  ((((((((((Fits.firstFlag true).field 1 x.work.kind.code_lt).field 5 x.work.originCode_lt).field 8
    (tagNumber_lt x.work.tag?)).field 12 x.phase.code_lt).field 16 (probeModeCode_lt x.probeMode)).field 18
    (answerCode_lt x.answer)).field 21 (resultCode_lt x.result)).flag 24 _).flag 25 _).flag 31 true

/-- R52: the origin as a snapshot shows it. -/
theorem Work.originCode_shows (w : Work) :
    (w ≠ .recall .sweep → (w.issuer, w.originCode) ∈ issuerCodes) ∧ (w = .recall .sweep → w.originCode = 7) := by
  unfold Work.originCode
  constructor
  · intro hne
    split
    · exact absurd rfl hne
    · exact Issuer.code_mem _
  · rintro rfl
    rfl

/-- R38: the holder of a line's lock, as READ_TT shows it. -/
theorem State.holds_iff {s : State} {i : EntryIx} {l : Line} :
    s.holds i l = true ↔ ∃ r, s.lockOf l = some r ∧ r.holder = .txn i := by
  unfold State.holds
  cases s.lockOf l <;> simp

/-- R197: SNAP0 after READ_TT. -/
theorem State.txnWord_shows (s : State) (i : EntryIx) (x : Txn) :
    (s.txnWord i x).getLsbD 31 = true ∧ (s.txnWord i x).getLsbD 0 = true ∧ s.txnWord i x &&& 0x7C000000#32 = 0#32 ∧
    (x.work.kind, ((s.txnWord i x).extractLsb' 1 4).toNat) ∈ kindCodes ∧
    (x.work ≠ .recall .sweep → (x.work.issuer, ((s.txnWord i x).extractLsb' 5 3).toNat) ∈ issuerCodes) ∧
    (x.work = .recall .sweep → ((s.txnWord i x).extractLsb' 5 3).toNat = 7) ∧
    (∀ g, x.work.tag? = some g → ((s.txnWord i x).extractLsb' 8 4).toNat = g.val) ∧
    (x.work.tag? = none → (s.txnWord i x).extractLsb' 8 4 = 0#4) ∧
    (x.phase, ((s.txnWord i x).extractLsb' 12 4).toNat) ∈ phaseCodes ∧
    (x.probeMode, ((s.txnWord i x).extractLsb' 16 2).toNat) ∈ [(none, 0), (some ProbeMode.invalidate, 1), (some .keep, 2)] ∧
    (x.answer ≠ some .timeout → (x.answer, ((s.txnWord i x).extractLsb' 18 3).toNat) ∈
      [(none, 0), (some Answer.miss, 1), (some .clean, 2), (some .dirty, 3)]) ∧
    (x.result = none ∨ x.result = some .ok ∨ x.result = some .memError →
      (x.result, ((s.txnWord i x).extractLsb' 21 3).toNat) ∈ [(none, 0), (some ResultCode.ok, 1), (some .memError, 4)]) ∧
    (s.txnWord i x).getLsbD 24 = x.abandoned ∧
    ((s.txnWord i x).getLsbD 25 = true ↔ ∃ r, s.lockOf x.line = some r ∧ r.holder = .txn i) := by
  have h := s.txnWord_fits i x
  have h1 := x.work.kind.code_lt
  have h2 := x.work.originCode_lt
  have h3 := tagNumber_lt x.work.tag?
  have h4 := x.phase.code_lt
  have h5 := probeModeCode_lt x.probeMode
  have h6 := answerCode_lt x.answer
  have h7 := resultCode_lt x.result
  have h8 := x.abandoned.toNat_le
  have h9 := (s.holds i x.line).toNat_le
  have ht : true.toNat = 1 := rfl
  have e1 : ((s.txnWord i x).extractLsb' 1 4).toNat = x.work.kind.code := (h.extract 1 4).trans (by omega)
  have e2 : ((s.txnWord i x).extractLsb' 5 3).toNat = x.work.originCode := (h.extract 5 3).trans (by omega)
  have e3 : ((s.txnWord i x).extractLsb' 8 4).toNat = x.work.tag?.elim 0 Fin.val := (h.extract 8 4).trans (by omega)
  have e4 : ((s.txnWord i x).extractLsb' 12 4).toNat = x.phase.code := (h.extract 12 4).trans (by omega)
  have e5 : ((s.txnWord i x).extractLsb' 16 2).toNat = probeModeCode x.probeMode := (h.extract 16 2).trans (by omega)
  have e6 : ((s.txnWord i x).extractLsb' 18 3).toNat = answerCode x.answer := (h.extract 18 3).trans (by omega)
  have e7 : ((s.txnWord i x).extractLsb' 21 3).toNat = resultCode x.result := (h.extract 21 3).trans (by omega)
  rw [e1, e2, e3, e4, e5, e6, e7, h.getLsbD 25 (s.holds i x.line) (by omega), State.holds_iff]
  refine ⟨h.getLsbD 31 true (by omega), h.getLsbD 0 true (by omega), h.and_rangeMask (start := 26) (len := 5) (by omega),
    x.work.kind.code_mem, x.work.originCode_shows.1, x.work.originCode_shows.2, fun g hg => by rw [hg]; rfl,
    fun hg => BitVec.eq_of_toNat_eq (by rw [e3, hg]; rfl), x.phase.code_mem, ?mode, ?answer, ?result,
    h.getLsbD 24 _ (by omega), .rfl⟩
  case mode => rcases x.probeMode with _ | _ | _ <;> decide
  case answer => rcases x.answer with _ | _ | _ | _ | _ <;> decide
  case result =>
    rintro (hr | hr | hr) <;> rw [hr] <;> decide

/-- A field changes no position below it. -/
theorem getLsbD_or_fieldAt {w : Reg} {p v k : Nat} (hk : k < p) : (w ||| fieldAt p v).getLsbD k = w.getLsbD k := by
  rw [BitVec.getLsbD_or, fieldAt, BitVec.getLsbD_shiftLeft, decide_eq_true hk]
  simp

theorem extract_or_fieldAt {w : Reg} {p v start len : Nat} (h : start + len ≤ p) :
    (w ||| fieldAt p v).extractLsb' start len = w.extractLsb' start len :=
  BitVec.eq_of_getLsbD_eq fun i hi => by
    rw [BitVec.getLsbD_extractLsb', BitVec.getLsbD_extractLsb', getLsbD_or_fieldAt (by omega)]

/-- R197: the link in SNAP2 after READ_TT. -/
theorem State.linkWord_shows_link (s : State) (x : Txn) :
    (s.linkWord x).getLsbD 4 = x.link.isSome ∧
    (∀ f, x.link = some f → ((s.linkWord x).extractLsb' 0 4).toNat = f.val) ∧
    (x.link = none → (s.linkWord x).extractLsb' 0 4 = 0#4) := by
  have h1 : x.link.elim 0 Fin.val < 2 ^ 4 := by
    cases x.link with
    | none => decide
    | some f => exact lt_of_lt_of_le f.isLt (by decide)
  have h := (Fits.first h1).flag 4 x.link.isSome
  have h2 := x.link.isSome.toNat_le
  have e1 : ((s.linkWord x).extractLsb' 0 4).toNat = x.link.elim 0 Fin.val := by
    rw [State.linkWord, extract_or_fieldAt (by decide)]
    exact (h.extract 0 4).trans (by omega)
  refine ⟨?_, fun f hf => by rw [e1, hf]; rfl, fun hf => BitVec.eq_of_toNat_eq (by rw [e1, hf]; rfl)⟩
  rw [State.linkWord, getLsbD_or_fieldAt (by decide)]
  exact h.getLsbD 4 _ (by omega)

/-- R52: the number of members in SNAP2 after READ_TT. -/
theorem State.linkWord_shows_waiters (s : State) (x : Txn) (hw : s.waiterCount x.line ≤ 11) :
    ((s.linkWord x).extractLsb' 8 4).toNat = s.waiterCount x.line ∧ s.linkWord x &&& 0xFFFFF0E0#32 = 0#32 := by
  have h1 : x.link.elim 0 Fin.val < 2 ^ 4 := by
    cases x.link with
    | none => decide
    | some f => exact lt_of_lt_of_le f.isLt (by decide)
  have h : Fits (s.linkWord x) (8 + 4)
      (x.link.elim 0 Fin.val + x.link.isSome.toNat * 2 ^ 4 + s.waiterCount x.line * 2 ^ 8) :=
    ((Fits.first h1).flag 4 _).field 8 (l := 4) (by omega)
  have h2 := x.link.isSome.toNat_le
  exact ⟨(h.extract 8 4).trans (by omega), and_or_eq_zero (h.and_rangeMask (start := 5) (len := 3) (by omega))
    (h.and_rangeMask (start := 12) (len := 20) (by omega))⟩

/-! ### Reading a way -/

/-- R27: the age of a way's entry is its place in the set's list. -/
theorem State.wayEntry_of_split {s : State} {k : SetIx} {w : Way} {e : DirEntry} {before after : List DirEntry}
    (h : s.pd.sets[k.val] = before ++ e :: after) (hne : ∀ e' ∈ before, e'.way ≠ w) (he : e.way = w) :
    s.wayEntry k w = some (e, before.length) := by
  have hb : (before.zipIdx).find? (fun p => p.1.way == w) = none := by
    refine List.find?_eq_none.mpr fun p hp => ?_
    simpa using hne p.1 (List.fst_mem_of_mem_zipIdx hp)
  have hp : ((e, 0 + before.length).1.way == w) = true := beq_iff_eq.mpr he
  rw [State.wayEntry, h, List.zipIdx_append, List.find?_append, hb, Option.none_or, List.zipIdx_cons,
    List.find?_cons_of_pos (p := fun p : DirEntry × Nat => p.1.way == w) hp, Nat.zero_add]

theorem State.wayEntry_of_free {s : State} {k : SetIx} {w : Way} (h : ∀ e ∈ s.pd.sets[k.val], e.way ≠ w) :
    s.wayEntry k w = none := by
  refine List.find?_eq_none.mpr fun p hp => ?_
  simpa using h p.1 (List.fst_mem_of_mem_zipIdx hp)

/-- What a command leaves that fills the snapshot registers and is DONE. -/
theorem commandByte_of_fillSnap {s : State} {c : Cmd} {run : State → State} {a b d e : Reg} (h : s.AtCommand c)
    (hc : c ≠ .unknown) (hrun : run s.commandTaken = (s.commandTaken.fillSnap a b d e).commandDone) :
    commandByte c run s = .next { s with
      mg := { s.mg.afterCommand c.code .done .none with snap0 := a, snap1 := b, snap2 := d, snap3 := e }
      out := [.mgAck] } := by
  rw [commandByte_of_atCommand h, hrun, ← h.code_eq hc]
  refine congrArg _ ?_
  unfold State.commandDone State.setStatus State.fillSnap
  rfl

/-- R27: what READ_DIR of a way leaves. -/
theorem exec_readDir_of_index {s : State} (h : s.AtCommand .readDir) (b : Byte) {k : SetIx} {w : Way}
    (hk : k.val = s.mg.arg0.toNat) (hw : w.val = (s.mg.arg1.extractLsb' 0 4).toNat) :
    exec (.readDir b) s = .next { s with
      mg := { s.mg.afterCommand Cmd.readDir.code .done .none with
        snap0 := (s.wayEntry k w).elim 0#32 fun p => s.dirWord p.1 p.2
        snap1 := (s.wayEntry k w).elim 0#32 fun p => lineWord p.1.line
        snap2 := 0#32
        snap3 := wayWord k w }
      out := [.mgAck] } := by
  refine commandByte_of_fillSnap h nofun ?_
  have hcond : s.commandTaken.mg.arg0.toNat < 256 ∧ (s.commandTaken.mg.arg1.extractLsb' 0 4).toNat < 4 := by
    show s.mg.arg0.toNat < 256 ∧ (s.mg.arg1.extractLsb' 0 4).toNat < 4
    have := k.isLt
    have := w.isLt
    omega
  rw [State.cmdReadDir, dif_pos hcond, show (⟨s.commandTaken.mg.arg0.toNat, hcond.1⟩ : SetIx) = k from Fin.ext hk.symm,
    show (⟨(s.commandTaken.mg.arg1.extractLsb' 0 4).toNat, hcond.2⟩ : Way) = w from Fin.ext hw.symm, State.snapDir,
    show s.commandTaken.wayEntry k w = s.wayEntry k w from rfl]
  rcases s.wayEntry k w with _ | ⟨e, age⟩ <;> rfl

/-- R52: what READ_TT of an entry leaves. -/
theorem exec_readTt_of_index {s : State} (h : s.AtCommand .readTt) (b : Byte) {i : EntryIx}
    (hi : i.val = (s.mg.arg0.extractLsb' 0 4).toNat) :
    exec (.readTt b) s = .next { s with
      mg := { s.mg.afterCommand Cmd.readTt.code .done .none with
        snap0 := (s.txn i).elim (flagAt 31 true) (s.txnWord i)
        snap1 := (s.txn i).elim 0#32 fun x => lineWord x.line
        snap2 := (s.txn i).elim 0#32 s.linkWord
        snap3 := fieldAt 0 i.val }
      out := [.mgAck] } := by
  refine commandByte_of_fillSnap h nofun ?_
  have hcond : s.commandTaken.mg.index < 12 := by
    show (s.mg.arg0.extractLsb' 0 4).toNat < 12
    have := i.isLt
    omega
  rw [State.cmdReadTt, dif_pos hcond, show (⟨s.commandTaken.mg.index, hcond⟩ : EntryIx) = i from Fin.ext hi.symm,
    State.snapTxn, show s.commandTaken.txn i = s.txn i from rfl]
  cases s.txn i <;> rfl

/-- Settles O50, by the entry that the way or the index holds. -/
theorem inspectionCommandsFillTheSnapshot : Obligations.InspectionCommandsFillTheSnapshot := by
  refine fun s b => ⟨fun h => ⟨fun hbad => ?dirBad, fun k w hk hw => ?dir⟩, fun h n hn => ⟨fun hbad => ?ttBad, fun i hi => ?tt⟩⟩
  case dirBad =>
    refine commandByte_of_run_eq (u := s.commandTaken) h nofun ?_ rfl rfl
    rw [State.cmdReadDir, dif_neg]
    · rfl
    · show ¬ (s.mg.arg0.toNat < 256 ∧ (s.mg.arg1.extractLsb' 0 4).toNat < 4)
      omega
  case dir =>
    refine ⟨_, exec_readDir_of_index h b hk hw, by rw [wayWord_eq]; rfl, fun hfree => ?_,
      fun e before after hset hbefore he hage => ?_⟩
    · rw [State.wayEntry_of_free hfree]
      exact ⟨rfl, rfl⟩
    · rw [State.wayEntry_of_split hset hbefore he]
      exact ⟨(Fits.setWidth e.line).1, s.dirWord_shows e hage⟩
  case ttBad =>
    refine commandByte_of_run_eq (u := s.commandTaken) h nofun ?_ rfl rfl
    rw [State.cmdReadTt, dif_neg]
    · rfl
    · show ¬ (s.mg.arg0.extractLsb' 0 4).toNat < 12
      omega
  case tt =>
    have hi' : fieldAt 0 i.val = BitVec.ofNat 32 n := by rw [← hi]; exact BitVec.shiftLeft_zero _
    refine ⟨_, exec_readTt_of_index h b (hi.trans hn), by rw [hi']; rfl, ?_, fun hx => ?_, fun x v hx hv => ?_⟩
    · cases hx : s.txn i with
      | none =>
        show (flagAt 31 true).getLsbD 31 = true
        decide
      | some x => exact (s.txnWord_shows i x).1
    · rw [hx]
      exact ⟨rfl, rfl, rfl⟩
    · rw [hx] at hv ⊢
      subst hv
      obtain ⟨-, k0, k1, k2, k3, k4, k5, k6, k7, k8, k9, k10, k11, k12⟩ := s.txnWord_shows i x
      obtain ⟨l1, l2, l3⟩ := s.linkWord_shows_link x
      refine ⟨k0, k1, (Fits.setWidth x.line).1, k2, k3, k4, k5, k6, k7, k8, k9, k10, k11, k12, l1, l2, l3,
        fun r hr hlen => ?_, fun hr => ?_⟩
      · have hcount : s.waiterCount x.line = r.waiters.length := by rw [State.waiterCount, hr]
        obtain ⟨m1, m2⟩ := s.linkWord_shows_waiters x (hcount ▸ hlen)
        exact ⟨m1.trans hcount, m2⟩
      · have hcount : s.waiterCount x.line = 0 := by rw [State.waiterCount, hr]
        obtain ⟨m1, m2⟩ := s.linkWord_shows_waiters x (by omega)
        exact ⟨BitVec.eq_of_toNat_eq (m1.trans hcount), m2⟩

/-! ### The atomic operations (R142, R143) -/

/-- R142: four bytes as a number. -/
theorem number4_toNat (w : Vector Byte 4) :
    (number4 w).toNat = w[0].toNat + 256 * w[1].toNat + 65536 * w[2].toNat + 16777216 * w[3].toNat := by
  have h0 := w[0].isLt
  have h1 := w[1].isLt
  have h2 := w[2].isLt
  unfold number4
  rw [BitVec.toNat_append, BitVec.toNat_append, BitVec.toNat_append, ← Nat.shiftLeft_add_eq_or_of_lt h0,
    ← Nat.shiftLeft_add_eq_or_of_lt h1, ← Nat.shiftLeft_add_eq_or_of_lt h2, Nat.shiftLeft_eq, Nat.shiftLeft_eq,
    Nat.shiftLeft_eq]
  omega

/-- R142: the bytes of a number in ascending address order. -/
theorem bytes4_getElem (n : BitVec 32) (k : Nat) (hk : k < 4) :
    (bytes4 n)[k] = BitVec.ofNat 8 (n.toNat / 256 ^ k) := by
  unfold bytes4
  rw [Vector.getElem_ofFn]
  refine BitVec.eq_of_toNat_eq ?_
  rw [BitVec.extractLsb'_toNat, BitVec.toNat_ofNat, Nat.shiftRight_eq_div_pow, Nat.pow_mul]

/-- R142: a word in its line. -/
theorem wordAt_getElem {n : Nat} (d : LineData) (f : Fin 32) (j : Fin n) (h : f.val + j.val < 32) :
    (wordAt n d f)[j.val] = d[f.val + j.val] := by
  unfold wordAt
  rw [Vector.getElem_ofFn]
  congr 1
  exact Nat.mod_eq_of_lt h

/-- R143: the new word stands at its offset, and no other byte is touched. -/
theorem setWord_getElem {n : Nat} (d : LineData) (f : Fin 32) (w : Vector Byte n) (k : Fin 32) :
    (setWord d f w)[k.val] = if h : f.val ≤ k.val ∧ k.val < f.val + n then w[k.val - f.val]'(by omega) else d[k.val] := by
  unfold setWord
  rw [Vector.getElem_ofFn]
  dsimp only
  by_cases h : f.val ≤ k.val ∧ k.val < f.val + n
  · rw [dif_pos h, dif_pos (by omega)]
  · rw [dif_neg h, dif_neg (by omega)]

/-- R143: CHANGED, unless the condition says that the words agree. -/
theorem outcome_changed_iff {p : Prop} [Decidable p] :
    (if p then AtomicOutcome.unchanged else .changed) = .changed ↔ ¬ p := by
  split
  · exact ⟨nofun, fun h => absurd ‹p› h⟩
  · exact ⟨fun _ => ‹_›, fun _ => rfl⟩

/-- Settles O53, operation by operation. -/
theorem atomicOperationsRewriteTheirWord : Obligations.AtomicOperationsRewriteTheirWord := by
  refine fun f d => ⟨fun v old new sum hf hold hnew hsum => ?add, fun v hf => ?swap, fun u v hf => ?compare⟩
  case add =>
    have h32 : f.val + 3 < 32 := by omega
    have hn : (number4 v).toNat = new := (number4_toNat v).trans hnew.symm
    have ho : (number4 (wordAt 4 d f)).toNat = old := by
      rw [number4_toNat, hold h32]
      simp only [wordAt, Vector.getElem_ofFn]
      simp only [Nat.add_zero, Nat.mod_eq_of_lt (show f.val < 32 by omega),
        Nat.mod_eq_of_lt (show f.val + 1 < 32 by omega), Nat.mod_eq_of_lt (show f.val + 2 < 32 by omega),
        Nat.mod_eq_of_lt h32]
    refine ⟨fun k => ?_, ⟨_, rfl, fun j hj => wordAt_getElem d f j hj⟩, ?_⟩
    · refine (setWord_getElem d f _ k).trans ?_
      by_cases h : f.val ≤ k.val ∧ k.val < f.val + 4
      · rw [dif_pos h, if_pos h, bytes4_getElem, BitVec.toNat_add, ho, hn, hsum]
      · rw [dif_neg h, if_neg h]
    · refine outcome_changed_iff.trans (not_congr ?_)
      rw [← BitVec.toNat_inj, hn]
      rfl
  case swap =>
    exact ⟨fun k => setWord_getElem d f v k, _, rfl, fun j hj => wordAt_getElem d f j hj, outcome_changed_iff⟩
  case compare =>
    dsimp only
    by_cases hw : wordAt 8 d f = u
    · have hrun : runAtomic (.compareSwap64 u v) f d =
          ⟨.w8 (wordAt 8 d f), setWord d f v, if v = wordAt 8 d f then .unchanged else .changed⟩ := if_pos hw
      rw [hrun]
      exact ⟨_, rfl, fun j hj => wordAt_getElem d f j hj,
        fun _ => ⟨fun k => setWord_getElem d f v k, outcome_changed_iff⟩, fun hne => absurd hw hne⟩
    · have hrun : runAtomic (.compareSwap64 u v) f d = ⟨.w8 (wordAt 8 d f), d, .unchanged⟩ := if_neg hw
      rw [hrun]
      exact ⟨_, rfl, fun j hj => wordAt_getElem d f j hj, fun h => absurd h hw, fun _ => ⟨rfl, rfl⟩⟩

end Sys2Proof.Machine
end

section
/-! SUPPORT. The sweep's order of ways (R173), what an examination finds, and SET_MODE (R167). -/

set_option Elab.async false

namespace Sys2Proof.Machine

/-! ### The ways in sweep order -/

/-- R173: the ways in sweep order are those that `atWay` reads, from 0 to 1023. -/
theorem Directory.ways_eq_ofFn (s : State) : s.pd.ways = List.ofFn s.atWay := by
  have hsets : s.pd.sets.toList = List.ofFn fun k : Fin 256 => s.pd.sets[k.val] := by
    refine List.ext_getElem (by rw [Vector.length_toList, List.length_ofFn]) fun n h1 h2 => ?_
    rw [Vector.getElem_toList, List.getElem_ofFn]
  have hset : ∀ k : Fin 256, ((List.finRange 4).map fun w => s.pd.sets[k.val].find? fun e => e.way == w) =
      List.ofFn fun j : Fin 4 => s.atWay ⟨k.val * 4 + j.val, by omega⟩ := by
    intro k
    rw [← List.ofFn_eq_map]
    refine congrArg List.ofFn (funext fun j => ?_)
    have hdiv : (k.val * 4 + j.val) / 4 = k.val := by omega
    have hmod : (k.val * 4 + j.val) % 4 = j.val := by omega
    simp only [State.atWay, hdiv, hmod]
    refine congrArg (List.find? · _) (funext fun e => ?_)
    exact Bool.eq_iff_iff.mpr (by simp [Fin.ext_iff])
  rw [Directory.ways, hsets, List.flatMap_def, List.map_ofFn]
  refine (congrArg List.flatten (congrArg List.ofFn (funext hset))).trans ?_
  exact (List.ofFn_mul (m := 256) (n := 4) s.atWay).symm

/-- R173: the ways from position `n` on are that at `n` and those behind it. -/
theorem Directory.ways_drop (s : State) (n : Fin 1024) :
    s.pd.ways.drop n.val = s.atWay n :: s.pd.ways.drop (n.val + 1) := by
  have hlen : n.val < (List.ofFn s.atWay).length := by rw [List.length_ofFn]; exact n.isLt
  rw [Directory.ways_eq_ofFn, List.drop_eq_getElem_cons hlen, List.getElem_ofFn]

theorem Directory.ways_drop_end (s : State) {n : Nat} (h : 1024 ≤ n) : s.pd.ways.drop n = [] := by
  refine List.drop_of_length_le ?_
  rw [Directory.ways_eq_ofFn, List.length_ofFn]
  exact h

/-! ### What an examination finds -/

/-- R173: an examination moves over a free way, and over one that holds the entry of a quarantined line. -/
theorem State.scanWays_cons_of_movesOver {s : State} {o : Option DirEntry} {rest : List (Option DirEntry)} {pos passed : Nat}
    (h : ∀ e, o = some e → s.isQuarantined e.line = true) :
    s.scanWays (o :: rest) pos passed = s.scanWays rest (pos + 1) passed := by
  cases o with
  | none => rfl
  | some e => exact if_pos (h e rfl)

/-- R173: an examination from one position that moves over the ways up to another goes on from there. -/
theorem State.scanWays_drop_of_movesOver {s : State} {pos n passed : Nat} (hle : pos ≤ n) (hn : n ≤ 1024)
    (h : ∀ k : Fin 1024, pos ≤ k.val → k.val < n → s.MovesOver k) :
    s.scanWays (s.pd.ways.drop pos) pos passed = s.scanWays (s.pd.ways.drop n) n passed := by
  induction n, hle using Nat.le_induction with
  | base => rfl
  | succ n hle ih =>
    rw [ih (by omega) fun k h1 h2 => h k h1 (by omega), Directory.ways_drop s ⟨n, by omega⟩,
      State.scanWays_cons_of_movesOver (h ⟨n, by omega⟩ hle (Nat.lt_succ_self n))]

/-- R173, R176: a sweep that moves over every way left ends, or passes the end of its pass on. -/
theorem State.examineFrom_of_movesOver {s : State} {pos : Nat} (rest : Nat → State → State) (hp : pos ≤ 1024)
    (h : ∀ k : Fin 1024, pos ≤ k.val → s.MovesOver k) :
    s.examineFrom pos rest = if s.msc.sweep.passedOver = 0 then s.endSweep else rest s.msc.sweep.passedOver s := by
  rw [State.examineFrom, State.scanWays_drop_of_movesOver hp (Nat.le_refl _) fun k h1 _ => h k h1,
    Directory.ways_drop_end s (Nat.le_refl _)]
  rfl

/-- R173: a sweep recalls the first entry that it does not move over, when that may be recalled. -/
theorem State.examineFrom_of_recallable {s : State} {pos : Nat} (rest : Nat → State → State) {n : Fin 1024} {e : DirEntry}
    (hp : pos ≤ n.val) (h : ∀ k : Fin 1024, pos ≤ k.val → k < n → s.MovesOver k) (hn : s.atWay n = some e)
    (he : s.Recallable e) : s.examineFrom pos rest = s.recallWay n.val e s.msc.sweep.passedOver := by
  obtain ⟨hheld, hfree, hquar⟩ := he
  have hscan : s.scanWays (some e :: s.pd.ways.drop (n.val + 1)) n.val s.msc.sweep.passedOver =
      { passed := s.msc.sweep.passedOver, found := some (n.val, e) } := by
    rw [State.scanWays, hquar, hheld, hfree]
    rfl
  rw [State.examineFrom, State.scanWays_drop_of_movesOver hp (Nat.le_of_lt n.isLt) fun k h1 h2 => h k h1 h2,
    Directory.ways_drop, hn, hscan]

/-- The end of an event whose entry 11 finds its claimants served and nothing else to do. -/
theorem State.settle_of_giveEntry11 {s t : State} (h : s.giveEntry11 = t) (ht : t.Quiet) : s.settle = t := by
  rw [State.settle, h, ht.pumpProbes, State.drainPorts_of_none ht.ports]

/-! ### SET_MODE -/

theorem Management.modeArg_of_zero {m : Management} (h : (m.arg0.extractLsb' 0 2).toNat = 0) : m.modeArg = some .pass := by
  simp only [Management.modeArg, h]

theorem Management.modeArg_of_one {m : Management} (h : (m.arg0.extractLsb' 0 2).toNat = 1) :
    m.modeArg = some .coherent := by
  simp only [Management.modeArg, h]

theorem Management.modeArg_of_two_le {m : Management} (h : 2 ≤ (m.arg0.extractLsb' 0 2).toNat) : m.modeArg = none := by
  unfold Management.modeArg
  split
  · omega
  · omega
  · rfl

/-- R195: SET_MODE names no FAULTED. -/
theorem Management.modeArg_ne_faulted (m : Management) : m.modeArg ≠ some .faulted := by
  unfold Management.modeArg
  split <;> nofun

theorem State.cmdSetMode_of_faulted {s : State} (h : s.msc.mode = .faulted) : s.cmdSetMode = s.refuseCommand .wrongMode := by
  unfold State.cmdSetMode
  rw [h]
  rcases s.mg.modeArg with _ | _ | _ | _ <;> rfl

/-- R19: with entry 11 free and no fill waiting for it, no fill is declined as a sweep starts. -/
theorem State.declineWaiting_of_none {s : State} (h11 : s.txn recallEntry = none) (hwait : s.tt.recallWait = []) :
    s.declineWaiting = s := by
  have hs : { s with tt := { s.tt with recallWait := [] } } = s := by rw [← hwait]
  have hlink : s.recallLink = none := by rw [State.recallLink, h11]; rfl
  rw [State.declineWaiting, hs, hwait, List.foldl_nil, State.declineLinked, hlink]

/-- R172: the state a sweep starts from, before what it declines and its first examination. -/
def State.sweepBegun (origin : SweepOrigin) (s : State) : State :=
  (s.setSweep { phase := .examining, origin := origin, cursor := 0, pass := 1#8, passedOver := 0,
                remaining := s.msc.sweep.remaining, stirred := false }).setStatus .busy .none

theorem State.beginSweep_of_stopped {origin : SweepOrigin} {s : State} (h : s.msc.sweep.phase = .stopped) :
    s.beginSweep origin = (s.sweepBegun origin).declineWaiting.settle := by
  refine if_neg ?_
  rw [State.sweeping, h]
  nofun

/-- R172: SET_MODE(PASS) in COHERENT begins a sweep. -/
theorem State.cmdSetMode_of_pass {s : State} (hv : (s.mg.arg0.extractLsb' 0 2).toNat = 0) (hm : s.msc.mode = .coherent) :
    s.cmdSetMode = s.beginSweep .setMode := by
  rw [State.cmdSetMode, Management.modeArg_of_zero hv, hm]

/-- R173, R176: what a sweep of SET_MODE leaves that moves over every way: it ends at once. -/
def State.sweptAtOnce (s : State) : State :=
  { s with
    msc := { s.msc with
      mode := if s.entryCount = 0 then .pass else s.msc.mode
      sweep := { phase := .stopped, origin := .setMode, cursor := 0, pass := 1#8, passedOver := 0,
                 remaining := s.entryCount, stirred := false } }
    ev := { s.ev with flags := s.ev.flags ||| (if s.entryCount = 0 then 0x2800#17 else 0x1800#17) } }

theorem State.endSweep_of_setMode {s : State} (ho : s.msc.sweep.origin = .setMode) (hb : s.mg.status.state = .busy)
    (hc : s.msc.sweep.pass = 1#8) : s.endSweep = s.sweptAtOnce.setStatus .done .none := by
  have hstop : s.stopSweep = { s with
      msc := { s.msc with sweep := { s.msc.sweep with
        phase := .stopped, cursor := 0, passedOver := 0, remaining := s.entryCount, stirred := false } }
      ev := { s.ev with flags := s.ev.flags ||| 0x800#17 } }.setStatus .done .none := by
    exact if_pos hb
  have hcount : s.pd.count = s.entryCount := rfl
  rw [State.endSweep, ho]
  dsimp only
  rw [hstop, hcount, State.sweptAtOnce]
  split
  · rw [show (0x2800#17) = 0x800#17 ||| 0x2000#17 by decide, ← BitVec.or_assoc]
    simp only [← ho, ← hc]
    rfl
  · rw [show (0x1800#17) = 0x800#17 ||| 0x1000#17 by decide, ← BitVec.or_assoc]
    simp only [← ho, ← hc]
    rfl

/-- R167, R173, R176: SET_MODE(PASS) in COHERENT with every way moved over sweeps to its end at once. -/
theorem State.cmdSetMode_of_movesOver {s : State} (hv : (s.mg.arg0.extractLsb' 0 2).toNat = 0) (hm : s.msc.mode = .coherent)
    (hq : s.Quiet) (hstop : s.msc.sweep.phase = .stopped) (h11 : s.txn recallEntry = none) (hmove : ∀ k, s.MovesOver k) :
    s.cmdSetMode = s.sweptAtOnce.setStatus .done .none := by
  have hwait : s.tt.recallWait = [] := by
    rcases hq.entry11 with h | h
    · rw [h11] at h
      cases h
    · exact h.2
  have hgive : (s.sweepBegun .setMode).giveEntry11 = s.sweptAtOnce.setStatus .done .none := by
    have h11u : ¬ ((s.sweepBegun .setMode).txn recallEntry).isSome = true := by
      rw [show (s.sweepBegun .setMode).txn recallEntry = none from h11]
      nofun
    rw [State.giveEntry11, if_neg h11u]
    refine (State.examineFrom_of_movesOver (s := s.sweepBegun .setMode) _ (Nat.zero_le _) fun k _ => hmove k).trans ?_
    exact State.endSweep_of_setMode (s := s.sweepBegun .setMode) rfl rfl rfl
  rw [State.cmdSetMode_of_pass hv hm, State.beginSweep_of_stopped hstop,
    State.declineWaiting_of_none (s := s.sweepBegun .setMode) h11 hwait]
  refine State.settle_of_giveEntry11 hgive ⟨.inr ⟨rfl, hwait⟩, ?_, hq.ports, .inl rfl⟩
  rcases hq.channel with h | h | h
  · exact .inl h
  · rw [hm] at h
    cases h
  · exact .inr (.inr h)

/-- Settles O43: SET_MODE by the mode it meets and its argument. -/
theorem setModeByModeAndArgument : Obligations.SetModeByModeAndArgument := by
  refine fun s b v h hv => ⟨fun hbad => ?refused, fun hsame => ?same, fun hm h1 => ?coherent,
    fun hm h0 hq hstop h11 hmove => ?swept⟩
  case refused =>
    refine commandByte_of_run_eq (u := s.commandTaken) h nofun ?_ rfl rfl
    rcases hbad with hm | h2
    · exact State.cmdSetMode_of_faulted hm
    · rw [State.cmdSetMode, show s.commandTaken.mg.modeArg = none from Management.modeArg_of_two_le (m := s.mg) (hv ▸ h2)]
      rfl
  case same =>
    refine commandByte_of_run_eq (u := s.commandTaken) h nofun ?_ rfl rfl
    rcases hsame with ⟨hm, h0⟩ | ⟨hm, h1⟩
    · rw [State.cmdSetMode, show s.commandTaken.mg.modeArg = some .pass from
        Management.modeArg_of_zero (m := s.mg) (hv ▸ h0), show s.commandTaken.msc.mode = .pass from hm]
      rfl
    · rw [State.cmdSetMode, show s.commandTaken.mg.modeArg = some .coherent from
        Management.modeArg_of_one (m := s.mg) (hv ▸ h1), show s.commandTaken.msc.mode = .coherent from hm]
      rfl
  case coherent =>
    refine commandByte_of_run_eq (u := (s.commandTaken.setMode .coherent).raise .modeChanged) h nofun ?_ rfl rfl
    rw [State.cmdSetMode, show s.commandTaken.mg.modeArg = some .coherent from
      Management.modeArg_of_one (m := s.mg) (hv ▸ h1), show s.commandTaken.msc.mode = .pass from hm]
    rfl
  case swept =>
    have := commandByte_of_run_eq (u := s.commandTaken.sweptAtOnce) h nofun
      (State.cmdSetMode_of_movesOver (s := s.commandTaken) (hv ▸ h0) hm ⟨hq.entry11, hq.channel, hq.ports, hq.sweep⟩ hstop h11
        hmove) rfl rfl
    refine Eq.trans this ?_
    simp only [← hm]
    rfl

end Sys2Proof.Machine
end

section
/-! SUPPORT. What the shared operations do in the cases that the obligations name, in the order of the model's operations: the
directory, the transaction table, the line locks, the lookup, and the end of a transaction. -/

set_option Elab.async false

namespace Sys2Proof.Machine

/-! ### The sweep that hears nothing (R175) -/

/-- R175: no sweep waits for an event or keeps one for the end of its pass. -/
def State.Deaf (s : State) : Prop :=
  s.msc.sweep.phase = .stopped ∨ (s.msc.sweep.phase ≠ .waiting ∧ s.msc.sweep.passedOver = 0)

theorem State.Deaf.wakeSweep {s : State} (h : s.Deaf) : s.wakeSweep = s := by
  unfold State.wakeSweep
  rcases h with h | ⟨hphase, hpassed⟩
  · rw [h]
  · split
    · exact absurd ‹_› hphase
    · rfl
    all_goals exact if_pos hpassed

theorem State.Deaf.hearRelease {s : State} (h : s.Deaf) (i : EntryIx) : s.hearRelease i = s := by
  unfold State.hearRelease
  split
  · rfl
  · exact h.wakeSweep

/-! ### The directory -/

/-- R6: a removal takes the line's entry out of its set; a set that has none stays. -/
theorem State.dropEntry_eq (l : Line) (s : State) :
    s.dropEntry l = s.putSet l ((s.dirSet l).filter fun e => e.line != l) := by
  unfold State.dropEntry
  split
  · rfl
  · rename_i h
    have hnone : ∀ e ∈ s.dirSet l, (e.line != l) = true := by
      simpa [State.hasEntry, State.findEntry] using h
    have hset : s.pd.sets.set (setOf l).val (s.dirSet l) (setOf l).isLt = s.pd.sets := Vector.set_getElem_self _
    rw [List.filter_eq_self.mpr hnone, State.putSet, hset]

theorem State.Deaf.removeEntry {s : State} (h : s.Deaf) (l : Line) : s.removeEntry l = s.dropEntry l := by
  unfold State.removeEntry
  split
  · have hd : (s.dropEntry l).Deaf := by
      rw [State.dropEntry_eq]
      exact h
    exact hd.wakeSweep
  · rename_i hno
    exact (if_neg hno).symm

theorem State.setBecomes_putSet (s : State) (l : Line) (es : List DirEntry) : s.SetBecomes (s.putSet l es) (setOf l) es :=
  ⟨rfl, s.dirSet_putSet_self l es, fun k hk => s.sets_putSet_ne l es k hk⟩

/-- R6: what a removal leaves of the line's set. -/
theorem State.setBecomes_dropEntry (s : State) (l : Line) :
    s.SetBecomes (s.dropEntry l) (setOf l) ((s.dirSet l).filter fun e => e.line != l) := by
  rw [State.dropEntry_eq]
  exact s.setBecomes_putSet l _

/-- R60, R61, R64: the entry of a probed line goes; a RECALL that names no fill hands its way to none. -/
theorem State.Deaf.removeProbed {s : State} (h : s.Deaf) {i : EntryIx} (hi : i ≠ recallEntry ∨ s.recallLink = none)
    (l : Line) : s.removeProbed i l = s.dropEntry l := by
  have hnone : s.findEntry l = none → s.dropEntry l = s := fun hf => if_neg (by rw [State.hasEntry, hf]; nofun)
  unfold State.removeProbed
  split
  · split
    · rename_i hi'
      have hlink := hi.resolve_left (not_not_intro hi')
      have hd : (s.dropEntry l).recallLink = none := by
        rw [State.dropEntry_eq]
        exact hlink
      rw [State.handOverWay, hd]
    · exact h.removeEntry l
  · rename_i hf
    split
    · rename_i hi'
      rw [hnone hf, State.declineLinked, hi.resolve_left (not_not_intro hi')]
    · exact (hnone hf).symm

/-! ### The transaction table -/

/-- R62: starting a timer that is PENDING, as the operation and as the specification put it. -/
theorem Txn.timerStarted_eq (limit : Nat) (t : Txn) :
    { t with wbTimer := t.wbTimer.map (WbTimer.start limit) } = t.timerStarted limit := by
  unfold Txn.timerStarted
  rcases t.wbTimer with _ | _ | _ | _ | _ <;> rfl

theorem State.txn_endCycle_eq (s : State) (j : EntryIx) :
    s.endCycle.txn j = (s.txn j).map (Txn.timerStarted s.pu.wbLimit.toNat) := by
  rw [State.txn_endCycle]
  exact congrArg (Option.map · (s.txn j)) (funext (Txn.timerStarted_eq _))

theorem State.txnBecomes_refl {s : State} {i : EntryIx} {x : Option Txn} (h : s.txn i = x) : s.TxnBecomes s i x :=
  ⟨h, fun _ _ => rfl⟩

theorem State.txnBecomes_putTxn (s : State) (i : EntryIx) (x : Option Txn) : s.TxnBecomes (s.putTxn i x) i x :=
  ⟨s.txn_putTxn_self i x, fun _ hj => s.txn_putTxn_ne (Ne.symm hj) x⟩

/-- A further change of the entry that has changed. -/
theorem State.TxnBecomes.modTxn {s t : State} {i : EntryIx} {x : Txn} (h : s.TxnBecomes t i (some x)) (f : Txn → Txn) :
    s.TxnBecomes (t.modTxn i f) i (some (f x)) :=
  ⟨by rw [State.txn_modTxn, if_pos rfl, h.1]; rfl, fun j hj => by rw [State.txn_modTxn, if_neg hj]; exact h.2 j hj⟩

theorem State.TxnBecomes.freeEntry {s t : State} {i : EntryIx} {x : Option Txn} (h : s.TxnBecomes t i x) :
    s.TxnBecomes (t.freeEntry i) i none :=
  ⟨by rw [State.txn_freeEntry, if_pos rfl], fun j hj => by rw [State.txn_freeEntry, if_neg hj]; exact h.2 j hj⟩

theorem State.TxnBecomes.toMemWait {s t : State} {i : EntryIx} {x : Txn} (h : s.TxnBecomes t i (some x)) :
    s.TxnBecomes (t.toMemWait i) i (some { x.loadWrite with phase := .memWait }) :=
  h.modTxn _

theorem State.txnBecomes_freeEntry (s : State) (i : EntryIx) : s.TxnBecomes (s.freeEntry i) i none :=
  s.txnBecomes_putTxn i none

theorem State.txnBecomesBusEmpty_endCycle {s : State} {i : EntryIx} {x : Txn} (h : s.txn i = some x) :
    s.TxnBecomesBusEmpty s.endCycle i (some (x.timerStarted s.pu.wbLimit.toNat)) :=
  ⟨by rw [State.txn_endCycle_eq, h]; rfl, fun j _ => s.txn_endCycle_eq j⟩

theorem State.TxnBecomesBusEmpty.freeEntry {s t : State} {i : EntryIx} {x : Option Txn} (h : s.TxnBecomesBusEmpty t i x) :
    s.TxnBecomesBusEmpty (t.freeEntry i) i none :=
  ⟨by rw [State.txn_freeEntry, if_pos rfl], fun j hj => by rw [State.txn_freeEntry, if_neg hj]; exact h.2 j hj⟩

/-- R36, R95: the cycle ends and its entry is freed. -/
theorem State.txnBecomesBusEmpty_freed (s : State) (i : EntryIx) : s.TxnBecomesBusEmpty (s.endCycle.freeEntry i) i none :=
  ⟨by rw [State.txn_freeEntry, if_pos rfl], fun j hj => by rw [State.txn_freeEntry, if_neg hj]; exact s.txn_endCycle_eq j⟩

theorem State.TxnBecomesBusEmpty.isSome_eq {s t : State} {i j : EntryIx} {x : Option Txn} (h : s.TxnBecomesBusEmpty t i x)
    (hj : j ≠ i) : (t.txn j).isSome = (s.txn j).isSome := by
  rw [h.2 j hj, Option.isSome_map]

/-- R30: what a transaction holds as it enters MEM_WAIT without write-back data. -/
theorem Txn.enteredMemWait {x : Txn} (hd : x.wbData = false) : x.EnteredMemWait { x.loadWrite with phase := .memWait } := by
  cases hw : x.work with
  | rWrite p g m d =>
    have hl : x.loadWrite = { x with buf := overlay x.buf d m, mask := m } := by
      simp only [Txn.loadWrite, hw, hd]
      rfl
    refine ⟨?_, fun p' g' m' d' h => ?_, fun h => absurd (by rw [hw]; rfl) h⟩
    · rw [hl]
    · obtain ⟨rfl, rfl, rfl, rfl⟩ := Work.rWrite.inj (hw.symm.trans h)
      rw [hl]
      exact ⟨rfl, fun k => Vector.getElem_ofFn k.isLt⟩
  | _ =>
    have hl : x.loadWrite = x := by simp only [Txn.loadWrite, hw]
    exact ⟨by rw [hl], fun p g m d h => absurd (hw.symm.trans h) nofun, fun _ => by rw [hl]; exact ⟨rfl, rfl⟩⟩

/-- R30: a transaction that is no R_WRITE enters MEM_WAIT with its buffer as it is. -/
theorem Txn.loadWrite_of_ne {x : Txn} (h : x.work.kind ≠ .rWrite) : x.loadWrite = x := by
  unfold Txn.loadWrite
  split
  · rename_i hw
    exact absurd (by rw [hw]; rfl) h
  · rfl

/-! ### The line locks -/

theorem State.lockBecomes_putLock (s : State) (r : LockRec) : s.LockBecomes (s.putLock r) r.line (some r) :=
  ⟨s.lockOf_putLock_self r, fun _ hm => s.lockOf_putLock_ne r hm⟩

theorem State.lockBecomes_dropLock (s : State) (l : Line) : s.LockBecomes (s.dropLock l) l none :=
  ⟨s.lockOf_dropLock_self l, fun _ hm => s.lockOf_dropLock_ne hm⟩

theorem State.line_of_lockOf {s : State} {l : Line} {r : LockRec} (h : s.lockOf l = some r) : r.line = l :=
  by
  simpa using List.find?_some h

/-- R38: a transaction that joins a line's wait list. -/
theorem State.lockBecomes_joinWaiters {s : State} {i : EntryIx} {l : Line} {r : LockRec} (h : s.lockOf l = some r)
    (hi : i ≠ recallEntry) :
    s.LockBecomes (s.joinWaiters i r) l (some { r with waiters := joinTail r.waiters i }) := by
  obtain rfl := State.line_of_lockOf h
  have := s.lockBecomes_putLock { r with waiters := joinGeneral r.waiters i }
  rw [joinGeneral_of_ne hi] at this
  rw [State.joinWaiters, joinGeneral_of_ne hi]
  exact this

/-- R36, R38: a holder for whose line nothing waits leaves it unlocked. -/
theorem State.Deaf.releaseLock {s : State} (h : s.Deaf) {i : EntryIx} {l : Line} (hl : s.HoldsAlone i l) :
    s.releaseLock i l = s.dropLock l := by
  rw [State.releaseLock, hl]
  dsimp only
  rw [if_pos rfl, h.hearRelease]
  rfl

theorem State.releaseLock_of_not_holder {s : State} {i : EntryIx} {l : Line}
    (h : ∀ r, s.lockOf l = some r → r.holder ≠ .txn i) : s.releaseLock i l = s := by
  unfold State.releaseLock
  split
  · rename_i r hr
    exact if_neg (h r hr)
  · rfl

/-- R37: the kinds other than the locked ones hold their lock themselves. -/
theorem State.takeLock_of_unlocked {w : Work} (hw : w.isLocked = false) (i : EntryIx) (l : Line) (ws : List EntryIx)
    (s : State) : s.takeLock i w l ws = s.putLock { line := l, holder := .txn i, waiters := ws } :=
  if_neg (by rw [State.joinsLockSet, hw]; nofun)

theorem State.inLockSet_iff {s : State} {l : Line} : s.inLockSet l = true ↔ l ∈ s.hp.lockSet := by
  simp [State.inLockSet]

/-- R44, R107: the line of a locked cycle joins the host lock set, which holds the lock. -/
theorem State.takeLock_of_locked {w : Work} {l : Line} {s : State} (hw : w.isLocked = true) (hl : l ∉ s.hp.lockSet)
    (hroom : s.hp.lockSet.length < 2) (i : EntryIx) (ws : List EntryIx) :
    s.takeLock i w l ws = { s with hp := { s.hp with lockSet := s.hp.lockSet ++ [l] } }.putLock
      { line := l, holder := .hostSet, waiters := ws } := by
  refine if_pos ?_
  have hin : s.inLockSet l = false := Bool.eq_false_iff.mpr fun h => hl (State.inLockSet_iff.mp h)
  rw [State.joinsLockSet, hw, hin, decide_eq_true hroom]
  rfl

theorem State.requestLock_of_locked {s : State} {l : Line} {r : LockRec} (h : s.lockOf l = some r) (i : EntryIx) :
    s.requestLock i l = s.joinWaiters i r := by
  rw [State.requestLock, h]

/-- R33, R38: an unlocked line's lock is taken at once, and the holder makes its lookup. -/
theorem State.requestLock_of_unlocked {s : State} {i : EntryIx} {l : Line} {x : Txn} (h : s.lockOf l = none)
    (hx : s.txn i = some x) (hc : ((s.takeLock i x.work l []).lookup i).completed = false) :
    s.requestLock i l = ((s.takeLock i x.work l []).lookup i).state := by
  rw [State.requestLock, h]
  dsimp only
  rw [State.handOff, hx]
  exact if_neg (by rw [hc]; nofun)

/-! ### The lookup -/

/-- R7: a READ, WRITE, LREAD or LWRITE consults nothing. -/
theorem State.lookup_of_plain {s : State} {i : EntryIx} {x : Txn} (hx : s.txn i = some x)
    (hk : x.work.kind ∈ [.hRead, .hWrite, .hLread, .hLwrite]) :
    s.lookup i = { state := s.toMemWait i, completed := false } := by
  cases hw : x.work <;> simp only [State.lookup, hx, hw] <;> simp [hw, Work.kind] at hk

theorem State.lookup_of_fill {s : State} {i : EntryIx} {x : Txn} {b : Beat} (hx : s.txn i = some x) (hw : x.work = .hFill b) :
    s.lookup i =
      { state := (s.modTxn i fun t => { t with
          snapshot := some (s.rm.resolve x.line), dirResult := some (s.dirResult t.line) }).decideFill i x.line
            (s.rm.resolve x.line)
        completed := false } := by
  simp only [State.lookup, hx, hw]

theorem State.lookup_of_evict {s : State} {i : EntryIx} {x : Txn} {b : Beat} (hx : s.txn i = some x)
    (hw : x.work = .hEvict b) : s.lookup i = { state := s.lookupEvict i x.line, completed := false } := by
  simp only [State.lookup, hx, hw]

theorem State.lookup_of_requester {s : State} {i : EntryIx} {x : Txn} {p : PortIx} (hx : s.txn i = some x)
    (hp : x.work.port? = some p) : s.lookup i = s.lookupRequester i x p := by
  cases hw : x.work with
  | rRead p' g f n | rWrite p' g m d | rAtomic p' g f op =>
    rw [hw] at hp
    cases hp
    simp only [State.lookup, hx, hw]
  | _ =>
    rw [hw] at hp
    cases hp

/-- R33: a READ, WRITE, LREAD or LWRITE that meets an unlocked line takes it and waits for memory. -/
theorem State.requestLock_of_plain {s : State} {i : EntryIx} {l : Line} {x : Txn} (h : s.lockOf l = none)
    (hx : s.txn i = some x) (hk : x.work.kind ∈ [.hRead, .hWrite, .hLread, .hLwrite]) :
    s.requestLock i l = (s.takeLock i x.work l []).toMemWait i := by
  have hx' : (s.takeLock i x.work l []).txn i = some x := by
    unfold State.takeLock
    split
    · exact hx
    · exact hx
  have hlook := State.lookup_of_plain hx' hk
  rw [State.requestLock_of_unlocked h hx (by rw [hlook]), hlook]

theorem Work.kind_of_isLocked {w : Work} (h : w.isLocked = true) : w.kind = .hLread ∨ w.kind = .hLwrite := by
  simpa [Work.isLocked] using h

/-- R44, R108: a locked cycle of a line in the host lock set looks up at once. -/
theorem State.askLock_of_inSet {s : State} {i : EntryIx} {l : Line} {x : Txn} (hx : s.txn i = some x)
    (hw : x.work.isLocked = true) (hl : l ∈ s.hp.lockSet) : s.askLock i x.work l = s.toMemWait i := by
  have hcond : (x.work.isLocked && s.inLockSet l) = true := by rw [hw, State.inLockSet_iff.mpr hl]; rfl
  have hk : x.work.kind ∈ [.hRead, .hWrite, .hLread, .hLwrite] := by
    rcases Work.kind_of_isLocked hw with h | h <;> rw [h] <;> decide
  rw [State.askLock, if_pos hcond, State.lookup_of_plain hx hk]

theorem State.askLock_of_notInSet {s : State} {l : Line} {w : Work} (h : w.isLocked = false ∨ l ∉ s.hp.lockSet)
    (i : EntryIx) : s.askLock i w l = s.requestLock i l := by
  refine if_neg fun hc => ?_
  rw [Bool.and_eq_true, State.inLockSet_iff] at hc
  rcases h with h | h
  · rw [h] at hc
    exact absurd hc.1 nofun
  · exact h hc.2

/-! ### The end of a transaction -/

theorem State.respond_of_requester {s : State} {i : EntryIx} {x : Txn} {p : PortIx} {g : Tag} (hx : s.txn i = some x)
    (hp : x.work.port? = some p) (hg : x.work.tag? = some g) (code : ResultCode) :
    s.respond i code = (s.placeResponse p
      { tag := g, result := code, data := if code = .ok then x.responseData else .none }).freeEntry i := by
  rw [State.respond, hx]
  dsimp only
  rw [hp, hg]

/-- R36, R38, R133: a requester transaction for whose line nothing waits is answered, and entry and line are free. -/
theorem State.Deaf.endRequester {s : State} (h : s.Deaf) {i : EntryIx} {x : Txn} {p : PortIx} {g : Tag} {l : Line}
    (hx : s.txn i = some x) (hp : x.work.port? = some p) (hg : x.work.tag? = some g) (hl : s.HoldsAlone i l)
    (code : ResultCode) :
    s.endRequester i l code = ((s.placeResponse p
      { tag := g, result := code, data := if code = .ok then x.responseData else .none }).freeEntry i).dropLock l := by
  rw [State.endRequester, State.respond_of_requester hx hp hg]
  exact State.Deaf.releaseLock (s := (s.placeResponse p _).freeEntry i) h hl

/-! ### Write-back data -/

/-- R64, R65: the write-back data is complete and has been taken, for a holder that hands no way over. -/
theorem State.Deaf.dataTaken {s : State} (h : s.Deaf) {i : EntryIx} {x : Txn} (hx : s.txn i = some x)
    (hi : i ≠ recallEntry ∨ s.recallLink = none) :
    s.dataTaken i = ((if x.probeMode = some .invalidate then s.dropEntry x.line else s).modTxn i fun t =>
      { t.workOnData with wbTimer := none }).toMemWait i := by
  rw [State.dataTaken, hx]
  dsimp only
  rw [h.removeProbed hi]

theorem Txn.workOnData_frame (x : Txn) : x.workOnData =
    { x with buf := x.workOnData.buf, oldValue := x.workOnData.oldValue, outcome := x.workOnData.outcome } := by
  unfold Txn.workOnData
  split <;> rfl

/-- R65, R145: what the data taken leaves of a record whose buffer holds the raw bytes. -/
theorem Txn.tookData {x : Txn} (hm : x.mask = BitVec.allOnes 32) (hd : x.wbData = true) :
    x.TookData { ({ x.workOnData with wbTimer := none } : Txn).loadWrite with phase := .memWait } x.buf := by
  have hl : ({ x.workOnData with wbTimer := none } : Txn).loadWrite = { x.workOnData with wbTimer := none } := by
    rw [x.workOnData_frame]
    unfold Txn.loadWrite
    split
    · exact if_pos hd
    · rfl
  rw [hl]
  refine ⟨?_, fun hk => ?_, fun p g m w hw => ?_, fun p g f op hw => ?_⟩
  · rw [x.workOnData_frame]
    simp only [hm, hd]
  · have : x.workOnData = x := by
      unfold Txn.workOnData
      split
      · rename_i hw; rw [hw] at hk; rcases hk with h | h <;> cases h
      · rename_i hw; rw [hw] at hk; rcases hk with h | h <;> cases h
      · rfl
    rw [this]
    exact ⟨rfl, rfl, rfl⟩
  · have : x.workOnData = { x with buf := overlay x.buf w m } := by
      unfold Txn.workOnData
      rw [hw]
    rw [this]
    exact ⟨rfl, rfl, fun k => Vector.getElem_ofFn k.isLt⟩
  · have : x.workOnData = { x with
        buf := (runAtomic op f x.buf).buf
        oldValue := some (runAtomic op f x.buf).old
        outcome := some (runAtomic op f x.buf).outcome } := by
      unfold Txn.workOnData
      rw [hw]
    rw [this]
    exact ⟨rfl, rfl, rfl⟩

/-! ### Commands that run their operation -/

theorem State.freeGeneral_of_lowestFree {s : State} {i : EntryIx} (h : s.LowestFree i) : s.freeGeneral = some i := by
  refine List.find?_eq_some_iff_getElem.mpr ⟨by simp [h.general, h.free], i.val, by simp [allEntries], ?_, fun j hj => ?_⟩
  · simp [allEntries]
  · have := h.below ⟨j, by omega⟩ hj
    simp only [allEntries, List.getElem_finRange]
    rw [Option.isSome_iff_exists] at this
    obtain ⟨x, hx⟩ := this
    simp [Fin.cast, hx]

theorem State.claimant_of_claims {s : State} {c : Cycle} (h : s.Claims c) : s.claimant = some (.host c) := by
  rw [State.claimant, h.cycle]
  exact if_pos h.standing

/-- R45: a port's place in the offers, and the ports offered before it. -/
theorem PortIx.offered : ∀ g p : PortIx, p = g + 1 ∨
    (p = g + 2 ∧ (g + 1 - g - 1).val < (p - g - 1).val) ∨
    (p = g + 3 ∧ (g + 1 - g - 1).val < (p - g - 1).val ∧ (g + 2 - g - 1).val < (p - g - 1).val) ∨
    (p = g ∧ (g + 1 - g - 1).val < (p - g - 1).val ∧ (g + 2 - g - 1).val < (p - g - 1).val ∧
      (g + 3 - g - 1).val < (p - g - 1).val) := by decide

/-- R45, R46: the first port that can claim, in the order of the offers. -/
theorem findSome_offerOrder {α : Type} {f : PortIx → Option α} {g p : PortIx} {a : α} (hp : f p = some a)
    (hbefore : ∀ q : PortIx, (q - g - 1).val < (p - g - 1).val → f q = none) : (offerOrder g).findSome? f = some a := by
  unfold offerOrder
  rcases PortIx.offered g p with h | ⟨h, h1⟩ | ⟨h, h1, h2⟩ | ⟨h, h1, h2, h3⟩
  · simp [← h, hp]
  · simp [← h, hp, hbefore _ h1]
  · simp [← h, hp, hbefore _ h1, hbefore _ h2]
  · rw [h] at hp
    simp [hp, hbefore _ h1, hbefore _ h2, hbefore _ h3]

theorem State.claimant_of_portClaims {s : State} {p : PortIx} {r : Accepted} {rest : List Accepted}
    (h : s.PortClaims p r rest) : s.claimant = some (.port p r rest) := by
  have hp : s.portClaim p = some (.port p r rest) := by
    rw [State.portClaim, if_pos h.enabled, h.head]
  have hbefore : ∀ q : PortIx, (q - s.tt.roundRobin - 1).val < (p - s.tt.roundRobin - 1).val → s.portClaim q = none := by
    intro q hq
    unfold State.portClaim
    rcases h.before q hq with hst | hnil
    · exact if_neg hst
    · rw [hnil]
      exact ite_self _
  have hfind := findSome_offerOrder hp hbefore
  unfold State.claimant
  split
  · rename_i c hc
    exact (if_neg (h.bus c hc)).trans hfind
  · exact hfind

theorem exec_admissionGrant_of {s : State} {c : Claimant} {i : EntryIx} (hs : s.Running) (hc : s.claimant = some c)
    (hi : s.LowestFree i) : exec .admissionGrant s = .next (s.clearOut.admitClaimant i c).settle := by
  rw [exec, execAdmissionGrant, live_of_running hs]
  have hc' : s.clearOut.claimant = some c := hc
  have hi' : s.clearOut.freeGeneral = some i := State.freeGeneral_of_lowestFree ⟨hi.1, hi.2, hi.3⟩
  simp only [hc', hi']

theorem exec_hostBeatTaken_of {s : State} {c : Cycle} {i : EntryIx} {x : Txn} {r : ResultCode} (hs : s.Running)
    (h : s.Carries c i x) (hp : x.phase = .dataOut) (hr : x.result = some r) :
    exec .hostBeatTaken s = .next (s.clearOut.takeDelivered i c x r) := by
  rw [exec, execHostBeatTaken, live_of_running hs]
  have hd : s.clearOut.delivering = some (i, c, x, r) := State.delivering_eq_some.mpr ⟨⟨h.1, h.2, h.3⟩, hp, hr⟩
  simp only [hd]

theorem exec_memCompletion_of {s : State} {q : MemReq} {rest : List MemReq} {x : Txn} (hs : s.Running)
    (hm : s.mp.outstanding = q :: rest) (hx : s.txn q.txn = some x) (ha : x.abandoned = false) (k : Completion) :
    exec (.memCompletion k) s = .next
      ({ s.clearOut with mp := { s.mp with outstanding := rest } }.completeTxn q.txn x q.kind k).settle := by
  rw [exec, execMemCompletion, live_of_running hs]
  have hx' : State.txn { s.clearOut with mp := { s.mp with outstanding := rest } } q.txn = some x := hx
  simp only [State.clearOut_mp, hm, State.complete, hx', ha]
  rfl

theorem exec_answer_of {s : State} {i : EntryIx} {a : Answer} {c : Instr} (hs : s.Running)
    (h : ∃ l m n, s.pu.channel = .outstanding i l m n)
    (hc : (c, a) ∈ [(Instr.probeAnswerMiss, Answer.miss), (.probeAnswerClean, .clean), (.probeAnswerDirty, .dirty)]) :
    exec c s = .next
      (((s.clearOut.setChannel .idle).modTxn i fun t => { t with answer := some a }).actOnAnswer i a).settle := by
  obtain ⟨l, m, n, h⟩ := h
  have htake : s.clearOut.takeAnswer a =
      (((s.clearOut.setChannel .idle).modTxn i fun t => { t with answer := some a }).actOnAnswer i a).settle := by
    rw [State.takeAnswer, show s.clearOut.pu.channel = _ from h]
  rw [← htake]
  simp only [List.mem_cons, Prod.mk.injEq, List.not_mem_nil, or_false] at hc
  rcases hc with ⟨rfl, rfl⟩ | ⟨rfl, rfl⟩ | ⟨rfl, rfl⟩
  · exact live_of_running hs fun s => .next (s.takeAnswer .miss)
  · exact live_of_running hs fun s => .next (s.takeAnswer .clean)
  · exact live_of_running hs fun s => .next (s.takeAnswer .dirty)

end Sys2Proof.Machine
end

section
/-! SUPPORT. What the processor takes: delivered beats and final acknowledgments (R36, R95, R98, R101, R107, R111). -/

set_option Elab.async false

namespace Sys2Proof.Machine

theorem State.Quiet.deaf {s : State} (h : s.Quiet) : s.Deaf := h.sweep

/-- R94, R111: a locked cycle of this kind has completed, and the lock timer counts from LOCK_LIMIT. -/
def State.underLockTimer (k : LockedKind) (s : State) : State :=
  { s with hp := { s.hp with lastLocked := some k, lockTimer := some s.hp.lockLimit.toNat } }

/-- R111: under a set that is not empty a locked cycle that completes is noted, and the lock timer starts. -/
theorem State.startLockTimer_lockedDone {s : State} (h : s.hp.lockSet ≠ []) (k : LockedKind) :
    (s.lockedDone k).startLockTimer = s.underLockTimer k := by
  have hne : ¬ s.hp.lockSet.isEmpty = true := fun he => h (List.isEmpty_iff.mp he)
  have hdone : s.lockedDone k = { s with hp := { s.hp with lastLocked := some k } } := if_neg hne
  rw [hdone]
  exact if_neg hne

/-- What is left as a cycle's end has freed its entry is quiet, when the entry is not the recall entry. -/
theorem State.Quiet.endCycle_freeEntry {s : State} (h : s.Quiet) {i : EntryIx} (hi : i ≠ recallEntry) :
    (s.endCycle.freeEntry i).Quiet :=
  h.of_eq ((s.txnBecomesBusEmpty_freed i).isSome_eq (Ne.symm hi)) rfl rfl h.channel fun _ => rfl

/-- R36, R95: a cycle ends for whose line nothing else waits. -/
theorem State.Quiet.endWrite {s : State} (h : s.Quiet) {i : EntryIx} (hi : i ≠ recallEntry) {l : Line}
    (hl : s.HoldsAlone i l) : s.endWrite i l = (s.endCycle.freeEntry i).dropLock l := by
  have hq := h.endCycle_freeEntry hi
  rw [State.endWrite, State.Deaf.releaseLock (s := s.endCycle.freeEntry i) hq.deaf hl]
  exact State.Quiet.settle (hq.of_eq rfl rfl rfl hq.channel fun _ => rfl)

/-- R36, R111: a locked cycle under the host lock set ends; the set keeps its line. -/
theorem State.Quiet.endLocked {s : State} (h : s.Quiet) {i : EntryIx} (hi : i ≠ recallEntry) {l : Line}
    (hl : ∀ r, s.lockOf l = some r → r.holder ≠ .txn i) (hset : s.hp.lockSet ≠ []) (k : LockedKind) :
    ((((s.endCycle.freeEntry i).lockedDone k).startLockTimer).releaseLock i l).settle =
      (s.endCycle.freeEntry i).underLockTimer k := by
  have hq := h.endCycle_freeEntry hi
  have hl' : ∀ r, ((s.endCycle.freeEntry i).underLockTimer k).lockOf l = some r → r.holder ≠ .txn i := hl
  rw [State.startLockTimer_lockedDone (s := s.endCycle.freeEntry i) hset, State.releaseLock_of_not_holder hl']
  exact State.Quiet.settle (hq.of_eq rfl rfl rfl hq.channel fun _ => rfl)

/-- R98: the bytes of a beat with its result. -/
theorem deliveredData_eq (x : Txn) (b : Beat) (r : ResultCode) :
    deliveredData x b (r == .ok) = if r = .ok then beatAt x.buf b else zeroBeat := by
  cases r <;> rfl

theorem State.delivering_eq_none {s : State} (h : ∀ c i x, s.Carries c i x → x.phase ≠ .dataOut) : s.delivering = none := by
  refine Option.eq_none_iff_forall_ne_some.mpr fun ⟨i, c, x, r⟩ hd => ?_
  obtain ⟨hc, hp, -⟩ := State.delivering_eq_some.mp hd
  exact h c i x hc hp

/-- R98, R99: a READ, a WRITE or an eviction ends as its beat or acknowledgment is taken. -/
theorem State.Quiet.takeDelivered_unlocked {s : State} (h : s.Quiet) {c : Cycle} {i : EntryIx} {x : Txn} {b : Beat}
    {m : BeatMask} {r : ResultCode} {os : List Output} (hi : i ≠ recallEntry)
    (hk : ((x.work = .hRead b m ∨ x.work = .hLread b m) ∧
        os = [.beat b (if r = .ok then beatAt x.buf b else zeroBeat) .noCache (r != .ok)]) ∨
      ((x.work = .hWrite b m ∨ x.work = .hEvict b ∨ ∃ e, x.work = .hLwrite b m e) ∧ os = []))
    (hw : x.work.isLocked = false) (hl : s.HoldsAlone i x.line) :
    s.clearOut.takeDelivered i c x r = (({ s with out := os }.endCycle).freeEntry i).dropLock x.line := by
  have hos : ∀ os, ({ s with out := os } : State).Quiet := fun os => h.of_eq rfl rfl rfl h.channel fun _ => rfl
  rcases hk with ⟨hk | hk, rfl⟩ | ⟨hk | hk | ⟨e, hk⟩, rfl⟩
  · simp only [State.takeDelivered, hk, State.deliverRead, deliveredData_eq]
    exact (hos _).endWrite hi hl
  · rw [hk] at hw
    cases hw
  · simp only [State.takeDelivered, hk]
    exact (hos _).endWrite hi hl
  · simp only [State.takeDelivered, hk]
    exact (hos _).endWrite hi hl
  · rw [hk] at hw
    cases hw

/-- R107, R111: an LREAD, or an LWRITE without END, ends as its beat or acknowledgment is taken. -/
theorem State.Quiet.takeDelivered_locked {s : State} (h : s.Quiet) {c : Cycle} {i : EntryIx} {x : Txn} {b : Beat}
    {m : BeatMask} {r : ResultCode} {os : List Output} {k : LockedKind} (hi : i ≠ recallEntry)
    (hk : (x.work = .hLread b m ∧ k = .hLread ∧
        os = [.beat b (if r = .ok then beatAt x.buf b else zeroBeat) .noCache (r != .ok)]) ∨
      (x.work = .hLwrite b m false ∧ k = .hLwrite ∧ os = []))
    (hl : ∀ r, s.lockOf x.line = some r → r.holder ≠ .txn i) (hset : s.hp.lockSet ≠ []) :
    s.clearOut.takeDelivered i c x r = (({ s with out := os } : State).endCycle.freeEntry i).underLockTimer k := by
  have hq : ({ s with out := os } : State).Quiet := h.of_eq rfl rfl rfl h.channel fun _ => rfl
  rcases hk with ⟨hk, rfl, rfl⟩ | ⟨hk, rfl, rfl⟩
  · simp only [State.takeDelivered, hk, State.deliverLread, deliveredData_eq]
    exact hq.endLocked hi hl hset .hLread
  · simp only [State.takeDelivered, hk]
    exact hq.endLocked hi hl hset .hLwrite

/-- Settles O14: each kind's beat or acknowledgment ends its cycle. -/
theorem takenBeatsAndAcknowledgmentsEndCycles : Obligations.TakenBeatsAndAcknowledgmentsEndCycles := by
  refine ⟨fun s c i x b m r os hs hq hc hi hp hr hk => ⟨fun hw hl => ?unlocked, fun k hkind hlock hset => ?locked,
    fun hw hl => ?ending⟩, fun s hs h => ?none⟩
  case unlocked =>
    rw [exec_hostBeatTaken_of hs hc hp hr, hq.takeDelivered_unlocked hi hk hw hl]
    exact ⟨_, rfl, rfl, rfl, State.txnBecomesBusEmpty_freed { s with out := os } i,
      State.lockBecomes_dropLock (({ s with out := os } : State).endCycle.freeEntry i) x.line⟩
  case locked =>
    obtain ⟨ws, hlock⟩ := hlock
    have hl : ∀ r, s.lockOf x.line = some r → r.holder ≠ .txn i := by
      intro r' hr' he
      rw [hlock] at hr'
      cases hr'
      cases he
    have hk' : (x.work = .hLread b m ∧ k = .hLread ∧
          os = [.beat b (if r = .ok then beatAt x.buf b else zeroBeat) .noCache (r != .ok)]) ∨
        (x.work = .hLwrite b m false ∧ k = .hLwrite ∧ os = []) := by
      rcases hkind with ⟨hw, hkk⟩ | ⟨hw, hkk⟩ <;> rw [hw] at hk <;> simp_all
    rw [exec_hostBeatTaken_of hs hc hp hr, hq.takeDelivered_locked hi hk' hl hset]
    exact ⟨_, rfl, rfl, State.txnBecomesBusEmpty_freed { s with out := os } i⟩
  case ending =>
    have hq' := State.Quiet.endCycle_freeEntry (s := s.clearOut) (hq.of_eq rfl rfl rfl hq.channel fun _ => rfl) hi
    have htake : s.clearOut.takeDelivered i c x r = s.clearOut.endCycle.freeEntry i := by
      have hend : s.clearOut.takeDelivered i c x r = s.clearOut.endLwrite i x.line true := by
        simp only [State.takeDelivered, hw]
      rw [hend, State.endLwrite]
      rw [if_pos rfl, State.releaseLock_of_not_holder (s := s.clearOut.endCycle.freeEntry i) hl, hq'.settle]
    rw [exec_hostBeatTaken_of hs hc hp hr, htake]
    exact ⟨_, rfl, rfl, s.clearOut.txnBecomesBusEmpty_freed i⟩
  case none =>
    rw [exec, execHostBeatTaken, live_of_running hs]
    have hd : s.clearOut.delivering = none := State.delivering_eq_none fun c i x hc => h c i x ⟨hc.1, hc.2, hc.3⟩
    simp only [hd]
    rfl

/-! ### The beats of a fill -/

/-- R20, R101: a beat grants a policy exactly when memory answered OK and the line's entry is RESERVED with it. -/
theorem State.fillGrant_iff (s : State) (l : Line) (r : ResultCode) :
    (s.fillGrant l (r == .ok) = .wt ↔ r = .ok ∧ ∃ e, s.findEntry l = some e ∧ e.state = .reserved ∧ e.policy = .wt) ∧
    (s.fillGrant l (r == .ok) = .wb ↔ r = .ok ∧ ∃ e, s.findEntry l = some e ∧ e.state = .reserved ∧ e.policy = .wb) := by
  unfold State.fillGrant
  rcases s.findEntry l with _ | e
  · simp
  · rcases e with ⟨w, l', st, p⟩
    cases st <;> cases p <;> cases r <;> simp

/-- R20, R21: the fourth beat settles a RESERVED entry. -/
theorem State.Deaf.finishFill_cases {s : State} (h : s.Deaf) (l : Line) (r : ResultCode) :
    ∃ d, s.finishFill l (r == .ok) = { s with pd := d } ∧
      (r = .ok → s.isReserved l = true → s.SetBecomes { s with pd := d } (setOf l)
        ((s.dirSet l).map fun e => if e.line = l then { e with state := .held } else e)) ∧
      (r ≠ .ok → s.isReserved l = true → s.SetBecomes { s with pd := d } (setOf l)
        ((s.dirSet l).filter fun e => e.line != l)) ∧
      (s.isReserved l = false → d = s.pd) := by
  cases hres : s.isReserved l with
  | false =>
    refine ⟨s.pd, ?_, fun _ => nofun, fun _ => nofun, fun _ => rfl⟩
    have hno : ¬ s.isReserved l = true := by rw [hres]; nofun
    unfold State.finishFill State.makeHeld State.removeReserved
    rw [if_neg hno, if_neg hno, ite_self]
  | true =>
    by_cases hr : r = .ok
    · refine ⟨_, ?_, fun _ _ => s.setBecomes_putSet l _, fun h => absurd hr h, nofun⟩
      rw [hr, State.finishFill, State.makeHeld, if_pos (beq_self_eq_true _), if_pos hres]
      exact State.Deaf.wakeSweep (s := s.putSet l _) h
    · refine ⟨_, ?_, fun h => absurd h hr, fun _ _ => s.setBecomes_putSet l _, nofun⟩
      rw [State.finishFill, if_neg (fun h => hr (beq_iff_eq.mp h)), State.removeReserved, if_pos hres, h.removeEntry,
        State.dropEntry_eq]
      rfl

/-- R98, R101: the beat that a fill delivers next. -/
def State.fillBeat (s : State) (c : Cycle) (x : Txn) (start : Beat) (r : ResultCode) : Output :=
  .beat (start + Fin.ofNat 4 c.given) (if r = .ok then beatAt x.buf (start + Fin.ofNat 4 c.given) else zeroBeat)
    (s.fillGrant x.line (r == .ok)) (r != .ok)

/-- R98, R101: the first three beats of a fill are delivered and counted. -/
theorem State.deliverFill_of_lt {s : State} {c : Cycle} (hg : c.given < 3) (i : EntryIx) (x : Txn) (start : Beat)
    (r : ResultCode) : s.deliverFill i c x start (r == .ok) =
      (s.emit (s.fillBeat c x start r)).setCycle (some { c with given := c.given + 1 }) := by
  rw [State.deliverFill, if_pos hg, deliveredData_eq]
  rfl

/-- R20, R21, R101: the fourth settles the entry and ends the fill, for whose line nothing waits. -/
theorem State.Quiet.deliverFill_of_last {s : State} (h : s.Quiet) {c : Cycle} {i : EntryIx} {x : Txn} (hi : i ≠ recallEntry)
    (hl : s.HoldsAlone i x.line) (hg : ¬ c.given < 3) {start : Beat} {r : ResultCode} {d : Directory}
    (hd : (s.emit (s.fillBeat c x start r)).finishFill x.line (r == .ok) =
      { s.emit (s.fillBeat c x start r) with pd := d }) :
    s.deliverFill i c x start (r == .ok) =
      (({ s.emit (s.fillBeat c x start r) with pd := d } : State).endCycle.freeEntry i).dropLock x.line := by
  rw [State.deliverFill, if_neg hg, deliveredData_eq]
  refine (congrArg (fun u : State => ((u.endCycle.freeEntry i).releaseLock i x.line).settle) hd).trans ?_
  exact State.Quiet.endWrite (s := { s.emit (s.fillBeat c x start r) with pd := d })
    (h.of_eq rfl rfl rfl h.channel fun _ => rfl) hi hl

/-- Settles O15, by the beats still to come. -/
theorem fillBeatsCarryTheGrant : Obligations.FillBeatsCarryTheGrant := by
  intro s c i x start r hs hq hc hi hp hr hw hgiven hl
  obtain ⟨hwt, hwb⟩ := s.fillGrant_iff x.line r
  have hb : (start + Fin.ofNat 4 c.given).val = (start.val + c.given) % 4 := by
    rw [Fin.val_add, Fin.val_ofNat, Nat.add_mod_mod]
  have htake : s.clearOut.takeDelivered i c x r = s.clearOut.deliverFill i c x start (r == .ok) := by
    simp only [State.takeDelivered, hw]
  rw [exec_hostBeatTaken_of hs hc hp hr, htake]
  have hq' : s.clearOut.Quiet := hq.of_eq rfl rfl rfl hq.channel fun _ => rfl
  by_cases hlast : c.given < 3
  · rw [State.deliverFill_of_lt hlast]
    exact ⟨_, _, _, rfl, hb, rfl, hwt, hwb, fun _ => rfl, fun h => absurd hlast (by omega)⟩
  · obtain ⟨d, hd, hheld, hgone, hsame⟩ :=
      State.Deaf.finishFill_cases (s := s.clearOut.emit (s.clearOut.fillBeat c x start r)) hq.deaf x.line r
    rw [hq'.deliverFill_of_last hi hl hlast hd]
    let u : State := { s.clearOut.emit (s.clearOut.fillBeat c x start r) with pd := d }
    exact ⟨_, _, _, rfl, hb, rfl, hwt, hwb, fun h => absurd h hlast, fun _ => ⟨rfl, rfl, u.txnBecomesBusEmpty_freed i,
      (u.endCycle.freeEntry i).lockBecomes_dropLock x.line, hheld, hgone, hsame⟩⟩

end Sys2Proof.Machine
end

section
/-! SUPPORT. Beats in a line buffer, the lock of a plain host kind, and the admission of the host cycle (R30, R33, R38, R44, R45). -/

set_option Elab.async false

namespace Sys2Proof.Machine

/-! ### Beats in a line buffer -/

/-- R100: the positions of a beat's mask in its line. -/
theorem getLsbD_placeMask (b : Beat) (m : BeatMask) (k : Fin 32) :
    (placeMask b m).getLsbD k.val = (decide (k.val / 8 = b.val) && m.getLsbD (k.val % 8)) := by
  rw [placeMask, BitVec.getLsbD_shiftLeft, BitVec.getLsbD_setWidth]
  have hk := k.isLt
  have hb := b.isLt
  by_cases hlt : k.val < 8 * b.val
  · have hne : ¬ k.val / 8 = b.val := by omega
    simp [hlt, hne]
  · by_cases heq : k.val / 8 = b.val
    · have hmod : k.val - 8 * b.val = k.val % 8 := by omega
      simp [hlt, heq, hmod, hk]
      omega
    · have hwide : 8 ≤ k.val - 8 * b.val := by omega
      simp [hlt, heq, BitVec.getLsbD_of_ge m _ hwide]

/-- R30, R100: the single beat of a WRITE or LWRITE, under its mask. -/
theorem Txn.tookBeat_takeMasked (x : Txn) (b : Beat) (m : BeatMask) (d : BeatData) :
    x.TookBeat (x.takeMasked b m d) b m d where
  bytes k := by
    show (overlay x.buf (spreadBeat d) (placeMask b m))[k.val] = _
    rw [overlay, Vector.getElem_ofFn]
    dsimp only
    rw [getLsbD_placeMask, spreadBeat, Vector.getElem_ofFn]
    simp only [Bool.and_eq_true, decide_eq_true_eq]
  positions k := by
    show (x.mask ||| placeMask b m).getLsbD k.val = _
    rw [BitVec.getLsbD_or, getLsbD_placeMask]

/-- R30, R100: taking the single beat touches buffer and mask alone. -/
theorem Txn.exists_takeMasked (x : Txn) (b : Beat) (m : BeatMask) (d : BeatData) : ∃ buf mask,
    x.takeMasked b m d = { x with buf := buf, mask := mask } ∧ x.TookBeat { x with buf := buf, mask := mask } b m d := by
  have h := x.tookBeat_takeMasked b m d
  unfold Txn.takeMasked at h ⊢
  exact ⟨_, _, rfl, h⟩

theorem beatPlaced_setBeat (b : Beat) (d : BeatData) (old : LineData) : BeatPlaced b d old (setBeat old b d) :=
  fun k => Vector.getElem_ofFn k.isLt

/-- A buffer is told by the beat placed in it. -/
theorem BeatPlaced.eq_setBeat {b : Beat} {d : BeatData} {old new : LineData} (h : BeatPlaced b d old new) :
    new = setBeat old b d :=
  Vector.ext fun k hk => (h ⟨k, hk⟩).trans (beatPlaced_setBeat b d old ⟨k, hk⟩).symm

/-- R30, R103: a whole beat of an eviction. -/
theorem Txn.tookBeat_takeWhole (x : Txn) (b : Beat) (d : BeatData) :
    x.TookBeat (x.takeWhole b d) b (BitVec.allOnes 8) d where
  bytes k := by
    have hm : (BitVec.allOnes 8).getLsbD (k.val % 8) = true := by
      rw [BitVec.getLsbD_allOnes]
      exact decide_eq_true (Nat.mod_lt _ (by omega))
    refine (beatPlaced_setBeat b d x.buf k).trans ?_
    simp only [hm, and_true]
  positions k := by
    show (x.mask ||| placeMask b (BitVec.allOnes 8)).getLsbD k.val = _
    rw [BitVec.getLsbD_or, getLsbD_placeMask]

theorem beatAt_setBeat_self (d : LineData) (b : Beat) (v : BeatData) : beatAt (setBeat d b v) b = v := by
  refine Vector.ext fun k hk => ?_
  have hb := b.isLt
  rw [beatAt, Vector.getElem_ofFn]
  dsimp only
  rw [setBeat, Vector.getElem_ofFn]
  dsimp only
  have hdiv : (8 * b.val + k) / 8 = b.val := by omega
  have hmod : (8 * b.val + k) % 8 = k := by omega
  rw [if_pos hdiv]
  simp only [hmod]

theorem beatAt_setBeat_ne (d : LineData) {a b : Beat} (h : a ≠ b) (v : BeatData) : beatAt (setBeat d b v) a = beatAt d a := by
  refine Vector.ext fun k hk => ?_
  have ha := a.isLt
  have hdiv : ¬ (8 * a.val + k) / 8 = b.val := fun he => h (Fin.ext (by omega))
  rw [beatAt, beatAt, Vector.getElem_ofFn, Vector.getElem_ofFn]
  dsimp only
  rw [setBeat, Vector.getElem_ofFn]
  exact if_neg hdiv

theorem placeBeats_cons (p : Beat × BeatData) (bs : List (Beat × BeatData)) (d : LineData) :
    placeBeats (p :: bs) d = placeBeats bs (setBeat d p.1 p.2) := by
  unfold placeBeats
  rw [List.foldl_cons]

/-- R64, R103: beats other than those placed are as they were. -/
theorem beatAt_placeBeats_of_not_mem {bs : List (Beat × BeatData)} {a : Beat} (h : a ∉ bs.map Prod.fst) (d : LineData) :
    beatAt (placeBeats bs d) a = beatAt d a := by
  induction bs generalizing d with
  | nil => rfl
  | cons p bs ih =>
    rw [List.map_cons, List.mem_cons, not_or] at h
    rw [placeBeats_cons, ih h.2, beatAt_setBeat_ne d h.1]

/-- R64, R103: beats placed each at its own position are there. -/
theorem beatAt_placeBeats {bs : List (Beat × BeatData)} (h : (bs.map Prod.fst).Nodup) (d : LineData) {p : Beat × BeatData}
    (hp : p ∈ bs) : beatAt (placeBeats bs d) p.1 = p.2 := by
  induction bs generalizing d with
  | nil => cases hp
  | cons q bs ih =>
    rw [List.map_cons, List.nodup_cons] at h
    rcases List.mem_cons.mp hp with rfl | hp
    · rw [placeBeats_cons, beatAt_placeBeats_of_not_mem h.1, beatAt_setBeat_self]
    · rw [placeBeats_cons, ih h.2 _ hp]

/-- A byte of a line is one of its beat's. -/
theorem getElem_eq_beatAt (d : LineData) (k : Fin 32) : d[k.val] = (beatAt d ⟨k.val / 8, by omega⟩)[k.val % 8] := by
  have hk : 8 * (k.val / 8) + k.val % 8 = k.val := by omega
  refine Eq.trans ?_ (Vector.getElem_ofFn (Nat.mod_lt _ (by omega))).symm
  simp only [hk]

/-- A line is told by its beats. -/
theorem line_ext_beats {a b : LineData} (h : ∀ i : Beat, beatAt a i = beatAt b i) : a = b :=
  Vector.ext fun k hk =>
    (getElem_eq_beatAt a ⟨k, hk⟩).trans ((congrArg (fun v : BeatData => v[k % 8]) (h _)).trans (getElem_eq_beatAt b ⟨k, hk⟩).symm)

/-! ### The lock of a plain host kind -/

theorem State.TxnBecomes.trans {s t u : State} {i : EntryIx} {x y : Option Txn} (h : s.TxnBecomes t i x)
    (h' : t.TxnBecomes u i y) : s.TxnBecomes u i y :=
  ⟨h'.1, fun j hj => (h'.2 j hj).trans (h.2 j hj)⟩

/-- R33, R38, R44, R107, R108: what a READ, WRITE, LREAD or LWRITE brings about as it asks for its line's lock. -/
structure State.AsksPlainly (s t : State) (i : EntryIx) (x y : Txn) (l : Line) : Prop where
  frame : t = { s with hp := t.hp, tt := t.tt, mp := t.mp }
  hp : t.hp = { s.hp with lockSet := t.hp.lockSet }
  tt : t.tt = { s.tt with entries := t.tt.entries, locks := t.tt.locks }
  txn : s.TxnBecomes t i (some y)
  record : y = { x with phase := y.phase }
  free : s.lockOf l = none → x.work.isLocked = false →
    y.phase = .memWait ∧ t.mp = { s.mp with waiting := joinTail s.mp.waiting i } ∧ t.hp.lockSet = s.hp.lockSet ∧
      s.LockBecomes t l (some { line := l, holder := .txn i, waiters := [] })
  waits : ∀ r, s.lockOf l = some r → (x.work.isLocked = false ∨ l ∉ s.hp.lockSet) →
    y.phase = .lockWait ∧ t.mp = s.mp ∧ t.hp.lockSet = s.hp.lockSet ∧
      s.LockBecomes t l (some { r with waiters := joinTail r.waiters i })
  joins : s.lockOf l = none → x.work.isLocked = true → l ∉ s.hp.lockSet → s.hp.lockSet.length < 2 →
    y.phase = .memWait ∧ t.mp = { s.mp with waiting := joinTail s.mp.waiting i } ∧ t.hp.lockSet = s.hp.lockSet ++ [l] ∧
      s.LockBecomes t l (some { line := l, holder := .hostSet, waiters := [] })
  member : x.work.isLocked = true → l ∈ s.hp.lockSet →
    y.phase = .memWait ∧ t.mp = { s.mp with waiting := joinTail s.mp.waiting i } ∧ t.hp.lockSet = s.hp.lockSet ∧
      t.tt.locks = s.tt.locks

theorem TxnKind.ne_rWrite_of_plain {k : TxnKind} (h : k ∈ [TxnKind.hRead, .hWrite, .hLread, .hLwrite]) : k ≠ .rWrite := by
  rintro rfl
  revert h
  decide

/-- R33: the four cases of a plain host kind that asks for its line's lock. -/
theorem State.asksPlainly {s : State} {i : EntryIx} {x : Txn} {l : Line} (hx : s.txn i = some x) (hi : i ≠ recallEntry)
    (hk : x.work.kind ∈ [.hRead, .hWrite, .hLread, .hLwrite]) :
    ∃ y, s.AsksPlainly (s.askLock i x.work l) i x y l := by
  have hload : ∀ u : State, s.TxnBecomes u i (some x) → s.TxnBecomes (u.toMemWait i) i (some { x with phase := .memWait }) := by
    intro u hu
    have := hu.toMemWait
    rwa [Txn.loadWrite_of_ne (TxnKind.ne_rWrite_of_plain hk)] at this
  by_cases hset : x.work.isLocked = true ∧ l ∈ s.hp.lockSet
  · rw [State.askLock_of_inSet hx hset.1 hset.2]
    refine ⟨_, rfl, rfl, rfl, hload s (State.txnBecomes_refl hx), rfl, fun _ h => ?_, fun _ _ h => ?_, fun _ _ h => ?_,
      fun _ _ => ⟨rfl, rfl, rfl, rfl⟩⟩
    · rw [hset.1] at h
      cases h
    · rcases h with h | h
      · rw [hset.1] at h
        cases h
      · exact absurd hset.2 h
    · exact absurd hset.2 h
  · have hnot : x.work.isLocked = false ∨ l ∉ s.hp.lockSet := by
      rcases Bool.eq_false_or_eq_true x.work.isLocked with h | h
      · exact .inr fun hl => hset ⟨h, hl⟩
      · exact .inl h
    rw [State.askLock_of_notInSet hnot]
    cases hlock : s.lockOf l with
    | some r =>
      rw [State.requestLock_of_locked hlock]
      refine ⟨_, rfl, rfl, rfl, (State.txnBecomes_refl (s := s) hx).modTxn _, rfl,
        fun h => absurd (hlock.symm.trans h) nofun, fun r' hr' _ => ?_, fun h => absurd (hlock.symm.trans h) nofun,
        fun h hl => absurd ⟨h, hl⟩ hset⟩
      obtain rfl := Option.some.inj (hlock.symm.trans hr')
      exact ⟨rfl, rfl, rfl, State.lockBecomes_joinWaiters hlock hi⟩
    | none =>
      rw [State.requestLock_of_plain hlock hx hk]
      rcases State.takeLock_cases i x.work l [] s with htake | ⟨hroom, hnew, htake⟩
      · rw [htake]
        refine ⟨_, rfl, rfl, rfl, hload (s.putLock _) ⟨hx, fun _ _ => rfl⟩, rfl,
          fun _ _ => ⟨rfl, rfl, rfl, s.lockBecomes_putLock _⟩,
          fun r h => absurd (hlock.symm.trans h) nofun, fun _ hw hl hroom => ?_,
          fun h hl => absurd ⟨h, hl⟩ hset⟩
        rw [State.takeLock_of_locked hw hl hroom] at htake
        have hset' := congrArg (fun u : State => u.hp.lockSet) htake
        have hlen := congrArg List.length hset'
        simp at hlen
      · rw [htake]
        have hbecomes := hload ({ s with hp := { s.hp with lockSet := s.hp.lockSet ++ [l] } }.putLock
          { line := l, holder := .hostSet, waiters := [] }) ⟨hx, fun _ _ => rfl⟩
        refine ⟨{ x with phase := .memWait }, rfl, rfl, rfl, hbecomes, rfl, fun _ hw => ?_, fun r h => absurd (hlock.symm.trans h) nofun,
          fun _ _ _ _ => ⟨rfl, rfl, rfl, State.lockBecomes_putLock { s with hp := { s.hp with lockSet := s.hp.lockSet ++ [l] } } _⟩,
          fun h hl => absurd ⟨h, hl⟩ hset⟩
        rw [State.takeLock_of_unlocked hw] at htake
        have hset' := congrArg (fun u : State => u.hp.lockSet) htake
        have hlen := congrArg List.length hset'
        simp at hlen

/-- What is left as a plain host kind has asked for its lock is quiet. -/
theorem State.AsksPlainly.quiet {s t : State} {i : EntryIx} {x y : Txn} {l : Line} (h : s.AsksPlainly t i x y l)
    (hq : s.Quiet) (hi : i ≠ recallEntry) : t.Quiet :=
  have hpu : t.pu = s.pu := (congrArg State.pu h.frame).trans rfl
  have hrp : t.rp = s.rp := (congrArg State.rp h.frame).trans rfl
  hq.of_eq (by rw [h.txn.2 recallEntry (Ne.symm hi)]) ((congrArg State.msc h.frame).trans rfl)
    ((congrArg TxnTable.recallWait h.tt).trans rfl)
    (by rw [hpu]; exact hq.channel) fun p => by rw [State.port, hrp]; rfl

/-! ### The beats of a WRITE or LWRITE -/

/-- R97: a beat that the cycle on the bus does not await is not taken. -/
theorem State.takeServedBeat_of_not_awaited {s : State} {i : EntryIx} {c : Cycle} {x : Txn} {b : Beat}
    (h : b ∈ c.taken ∨ x.phase ≠ .dataIn ∨
      ((∀ m, x.work ≠ .hWrite b m) ∧ (∀ m e, x.work ≠ .hLwrite b m e) ∧ x.work.kind ≠ .hEvict)) (d : BeatData) :
    s.takeServedBeat i c x b d = s := by
  by_cases hcond : x.phase ≠ .dataIn ∨ b ∈ c.taken
  · exact if_pos hcond
  · obtain ⟨hw, hlw, hev⟩ := (h.resolve_left fun hb => hcond (.inr hb)).resolve_left fun hp => hcond (.inl hp)
    rw [State.takeServedBeat, if_neg hcond]
    split
    · rename_i beat m hk
      exact if_neg fun hb => hw m (by rw [hb]; exact hk)
    · rename_i beat m e hk
      exact if_neg fun hb => hlw m e (by rw [hb]; exact hk)
    · rename_i hk
      exact absurd (by rw [hk]; rfl) hev
    all_goals rfl

/-- R97: no beat is taken that the cycle on the bus does not await. -/
theorem exec_beat_of_awaitsNot {s : State} {b : Beat} (hs : s.Running) (d : BeatData)
    (h : ∀ c, s.hp.cycle = some c → s.AwaitsNot c b) :
    exec (.hostWriteBeat b d) s = .next { s with out := [] } ∧
    exec (.writebackBeat b d) s = .next { s with out := [] } := by
  rw [exec, exec, execHostWriteBeat, execWritebackBeat, live_of_running hs, live_of_running hs]
  simp only [State.clearOut_hp]
  rcases hc : s.hp.cycle with _ | c
  · exact ⟨rfl, rfl⟩
  have hawait := h c hc
  cases hst : c.standing with
  | claiming =>
    simp only [hst]
    exact ⟨rfl, rfl⟩
  | served i =>
    simp only [hst, State.clearOut_txn]
    rcases hx : s.txn i with _ | x
    · exact ⟨rfl, rfl⟩
    have hno : b ∈ c.taken ∨ x.phase ≠ .dataIn ∨
        ((∀ m, x.work ≠ .hWrite b m) ∧ (∀ m e, x.work ≠ .hLwrite b m e) ∧ x.work.kind ≠ .hEvict) := by
      rcases hawait with h | h | ⟨j, h, -⟩ | ⟨j, h, hx'⟩
      · exact absurd (hst.symm.trans h) nofun
      · exact .inl h
      · exact absurd (hst.symm.trans h) nofun
      · obtain rfl := Standing.served.inj (hst.symm.trans h)
        exact .inr (hx' x hx)
    simp only [State.takeServedBeat_of_not_awaited hno]
    exact ⟨rfl, ite_self _⟩
  | attached i =>
    simp only [hst]
    have hno : b ∈ c.taken ∨ 4 ≤ c.taken.length := by
      rcases hawait with h | h | ⟨j, -, h⟩ | ⟨j, h, -⟩
      · exact absurd (hst.symm.trans h) nofun
      · exact .inl h
      · exact .inr h
      · exact absurd (hst.symm.trans h) nofun
    rw [State.takeAttachedBeat, if_pos hno]
    exact ⟨rfl, rfl⟩

theorem exec_hostWriteBeat_of_carries {s : State} {c : Cycle} {i : EntryIx} {x : Txn} (hs : s.Running)
    (h : s.Carries c i x) (b : Beat) (d : BeatData) :
    exec (.hostWriteBeat b d) s = .next (s.clearOut.takeServedBeat i c x b d) := by
  rw [exec, execHostWriteBeat, live_of_running hs]
  simp only [State.clearOut_hp, h.cycle, h.standing, State.clearOut_txn, h.txn]

/-- R97, R100: the beat that a WRITE or LWRITE addresses is taken. -/
theorem State.takeServedBeat_of_single {s : State} {i : EntryIx} {c : Cycle} {x : Txn} {b : Beat} {m : BeatMask}
    (hp : x.phase = .dataIn) (hb : b ∉ c.taken) (hw : x.work = .hWrite b m ∨ ∃ e, x.work = .hLwrite b m e) (d : BeatData) :
    s.takeServedBeat i c x b d = s.takeSingleBeat i c x b m d := by
  have hcond : ¬ (x.phase ≠ .dataIn ∨ b ∈ c.taken) := by simp [hp, hb]
  rw [State.takeServedBeat, if_neg hcond]
  rcases hw with hw | ⟨e, hw⟩ <;> rw [hw] <;> exact if_pos rfl

/-- Settles O11. -/
theorem writeBeatIsTakenUnderItsMask : Obligations.WriteBeatIsTakenUnderItsMask := by
  refine ⟨fun s b d hs => ⟨exec_beat_of_awaitsNot hs d, fun c i x hc hk => ?served⟩,
    fun s c i x b m d hs hq hc hi hp hb hw => ?taken⟩
  case served =>
    rw [exec, execWritebackBeat, live_of_running hs]
    simp only [State.clearOut_hp, hc.cycle, hc.standing, State.clearOut_txn, hc.txn]
    exact if_neg hk
  case taken =>
    obtain ⟨buf, mask, hbeat, htook⟩ := x.exists_takeMasked b m d
    let u : State := (s.clearOut.modTxn i (Txn.takeMasked b m d)).ackBeat { c with taken := c.taken ++ [b] }
    have hu : s.TxnBecomes u i (some { x with buf := buf, mask := mask }) := by
      rw [← hbeat]
      exact State.txnBecomes_modTxn (s := s.clearOut) hc.txn (Txn.takeMasked b m d)
    have hk : x.work.kind ∈ [TxnKind.hRead, .hWrite, .hLread, .hLwrite] := by
      rcases hw with hw | ⟨e, hw⟩ <;> rw [hw] <;> simp [Work.kind]
    obtain ⟨y, h⟩ := State.asksPlainly (l := x.line) hu.1 hi hk
    have huq : u.Quiet := hq.of_eq (by rw [hu.2 recallEntry (Ne.symm hi)]) rfl rfl hq.channel fun _ => rfl
    have hexec : exec (.hostWriteBeat b d) s = .next (u.askLock i x.work x.line) := by
      rw [exec_hostWriteBeat_of_carries hs hc, State.takeServedBeat_of_single hp hb hw]
      exact congrArg _ (h.quiet huq hi).settle
    have hrec := h.record
    refine ⟨_, y, hexec, h.frame, h.hp, h.tt, hu.trans h.txn, ?_, ?_, h.free, h.waits, h.joins, h.member⟩
    · rw [hrec]
    · rw [hrec]
      exact ⟨htook.bytes, htook.positions⟩

end Sys2Proof.Machine
end

section
/-! SUPPORT. The admission of the host cycle (R45 to R47, R33, R38, R111). -/

set_option Elab.async false

namespace Sys2Proof.Machine

/-! ### The beats that a cycle holds -/

/-- R64, R68: beats placed where a line has them already. -/
theorem beatAt_placeBeats_of_agree {bs : List (Beat × BeatData)} {raw : LineData} (h : ∀ p ∈ bs, beatAt raw p.1 = p.2)
    {a : Beat} (ha : a ∈ bs.map Prod.fst) (d : LineData) : beatAt (placeBeats bs d) a = beatAt raw a := by
  induction bs generalizing d with
  | nil => cases ha
  | cons p bs ih =>
    rw [placeBeats_cons]
    by_cases htail : a ∈ bs.map Prod.fst
    · exact ih (fun q hq => h q (List.mem_cons_of_mem _ hq)) htail _
    · have hp : a = p.1 := by
        rw [List.map_cons, List.mem_cons] at ha
        exact ha.resolve_right htail
      subst hp
      rw [beatAt_placeBeats_of_not_mem htail, beatAt_setBeat_self, h p List.mem_cons_self]

/-- R64, R68: a line is told by the beats placed in it and by what it was. -/
theorem BeatsPlaced.eq_placeBeats {bs : List (Beat × BeatData)} {old new : LineData} (h : BeatsPlaced bs old new) :
    new = placeBeats bs old := by
  obtain ⟨hthere, helse⟩ := h
  refine line_ext_beats fun a => ?_
  by_cases ha : a ∈ bs.map Prod.fst
  · exact (beatAt_placeBeats_of_agree hthere ha old).symm
  · rw [beatAt_placeBeats_of_not_mem ha]
    refine Vector.ext fun k hk => ?_
    have hb := a.isLt
    have hdiv : (8 * a.val + k) / 8 = a.val := by omega
    rw [beatAt, beatAt, Vector.getElem_ofFn, Vector.getElem_ofFn]
    refine helse ⟨8 * a.val + k, by omega⟩ fun p hp he => ha (List.mem_map.mpr ⟨p, hp, Fin.ext ?_⟩)
    dsimp only at he
    omega

/-- R47, R68: the record of a host cycle as it is admitted. -/
theorem Cycle.exists_admitted (c : Cycle) (w : Work) : ∃ buf mask,
    c.admitted w = { Txn.fresh w c.line (if w.takesBeats then .dataIn else .lockWait) with buf := buf, mask := mask } ∧
      (c.held = [] → mask = 0#32) ∧
      ((c.held.map Prod.fst).Nodup → ∀ p ∈ c.held, beatAt buf p.1 = p.2) ∧
      ∀ raw, (∀ b : Beat, b ∈ c.held.map Prod.fst) → BeatsPlaced c.held raw raw → buf = raw := by
  unfold Cycle.admitted
  refine ⟨_, _, rfl, fun h => ?_, fun h p hp => beatAt_placeBeats h zeroLine hp, fun raw hall h => ?_⟩
  · rw [h]
    rfl
  · exact line_ext_beats fun a => beatAt_placeBeats_of_agree h.1 (hall a) zeroLine

/-! ### The kinds of work -/

/-- R96, R105, R112: what a cycle of each kind is admitted as. -/
theorem Cycle.work_eq (c : Cycle) (broken : Bool) :
    (c.kind = .read ∨ (c.kind = .lread ∧ broken = true) → c.work broken = .hRead c.beat c.mask) ∧
    (c.kind = .lread → broken = false → c.work broken = .hLread c.beat c.mask) ∧
    (c.kind = .write ∨ (c.kind = .lwrite ∧ broken = true) → c.work broken = .hWrite c.beat c.mask) ∧
    (c.kind = .lwrite → broken = false → c.work broken = .hLwrite c.beat c.mask c.endMark) ∧
    (c.kind = .evict ∨ c.kind = .probeWb → c.work broken = .hEvict c.beat) ∧
    (c.kind = .fill → c.work broken = .hFill c.beat) := by
  cases hk : c.kind <;> cases broken <;> simp [Cycle.work, hk]

/-- R33: the cycles other than READ, LREAD and FILL take their beats first. -/
theorem Cycle.work_takesBeats (c : Cycle) (broken : Bool) : (c.work broken).takesBeats = true ↔
    c.kind ≠ .read ∧ c.kind ≠ .lread ∧ c.kind ≠ .fill := by
  cases hk : c.kind <;> cases broken <;> simp [Cycle.work, hk, Work.takesBeats, Work.kind]

/-- R7: a READ or LREAD is a plain kind. -/
theorem Cycle.work_plain {c : Cycle} (h : c.kind = .read ∨ c.kind = .lread) (broken : Bool) :
    (c.work broken).kind ∈ [.hRead, .hWrite, .hLread, .hLwrite] := by
  rcases h with h | h <;> cases broken <;> simp [Cycle.work, h, Work.kind]

/-- R111: a locked cycle's admission stops the lock timer. -/
theorem State.stopLockTimer_eq (w : Work) (s : State) : s.stopLockTimer w =
    { s with hp := { s.hp with lockTimer := if w.isLocked then none else s.hp.lockTimer } } := by
  unfold State.stopLockTimer
  split <;> rfl

/-- R45, R47: a host cycle has an entry, before it takes beats or asks for a lock. -/
def State.entered (i : EntryIx) (c : Cycle) (w : Work) (x : Txn) (s : State) : State :=
  { s.putTxn i (some x) with
    hp := { s.hp with
      cycle := some { c with standing := .served i, held := [] }
      lockTimer := if w.isLocked then none else s.hp.lockTimer } }

theorem State.admitHost_eq (i : EntryIx) (c : Cycle) (s : State) : s.admitHost i c =
    if (c.work s.hp.broken).takesBeats then
      if c.taken.length = 4 then
        (s.entered i c (c.work s.hp.broken) (c.admitted (c.work s.hp.broken))).lastEvictBeat i
          { c with standing := .served i, held := [] }
      else s.entered i c (c.work s.hp.broken) (c.admitted (c.work s.hp.broken))
    else (s.entered i c (c.work s.hp.broken) (c.admitted (c.work s.hp.broken))).askLock i (c.work s.hp.broken) c.line := by
  rw [State.admitHost]
  rw [State.stopLockTimer_eq]
  rfl

theorem State.txnBecomes_entered (s : State) (i : EntryIx) (c : Cycle) (w : Work) (x : Txn) :
    s.TxnBecomes (s.entered i c w x) i (some x) :=
  s.txnBecomes_putTxn i (some x)

theorem State.Quiet.entered {s : State} (h : s.Quiet) {i : EntryIx} (hi : i ≠ recallEntry) (c : Cycle) (w : Work) (x : Txn) :
    (s.entered i c w x).Quiet :=
  h.of_eq (by rw [(s.txnBecomes_entered i c w x).2 recallEntry (Ne.symm hi)]) rfl rfl h.channel fun _ => rfl

/-! ### Admission -/

/-- R45: while no general entry is free, or nothing claims one, nothing is given. -/
theorem exec_admissionGrant_of_none {s : State} (hs : s.Running)
    (h : (∀ i, i ≠ recallEntry → (s.txn i).isSome = true) ∨
      ((∀ c, ¬ s.Claims c) ∧ ∀ p, (s.port p).state ≠ .enabled ∨ (s.port p).ingress = [])) :
    exec .admissionGrant s = .next { s with out := [] } := by
  rw [exec, execAdmissionGrant, live_of_running hs]
  rcases h with hfull | ⟨hbus, hports⟩
  · have hfree : s.clearOut.freeGeneral = none := by
      refine List.find?_eq_none.mpr fun i _ hi => ?_
      rw [Bool.and_eq_true, bne_iff_ne] at hi
      have hsome := hfull i hi.1
      rw [State.clearOut_txn, Option.isNone_iff_eq_none] at hi
      rw [hi.2] at hsome
      cases hsome
    simp only [hfree]
    split <;> rfl
  · have hport : ∀ p, s.clearOut.portClaim p = none := by
      intro p
      unfold State.portClaim
      rcases hports p with hst | hnil
      · exact if_neg hst
      · rw [State.clearOut_port, hnil]
        exact ite_self _
    have hoffers : (offerOrder s.clearOut.tt.roundRobin).findSome? s.clearOut.portClaim = none :=
      List.findSome?_eq_none_iff.mpr fun p _ => hport p
    have hnone : s.clearOut.claimant = none := by
      unfold State.claimant
      split
      · rename_i c hc
        rw [if_neg fun hst => hbus c ⟨hc, hst⟩, hoffers]
      · exact hoffers
    simp only [hnone]
    rfl

/-- Settles O16: a cycle of a write kind takes its beats, and a READ or LREAD asks for its lock. -/
theorem hostCyclesAreAdmittedByKind : Obligations.HostCyclesAreAdmittedByKind := by
  refine ⟨fun s hs h => exec_admissionGrant_of_none hs h, fun s c i hs hq hc hi hfill htaken => ?_⟩
  obtain ⟨hread, hlread, hwrite, hlwrite, hevict, -⟩ := c.work_eq s.hp.broken
  have hbeats := c.work_takesBeats s.hp.broken
  have hplain := fun h => Cycle.work_plain (c := c) h s.hp.broken
  have hadmit := State.admitHost_eq i c s.clearOut
  have hbroken : s.clearOut.hp.broken = s.hp.broken := rfl
  rw [hbroken] at hadmit
  generalize c.work s.hp.broken = w at *
  obtain ⟨buf, mask, hx, hmask, hbuf, -⟩ := c.exists_admitted w
  rw [hx] at hadmit
  rw [exec_admissionGrant_of hs (State.claimant_of_claims hc) hi]
  show ∃ t y, Host.Outcome.next (s.clearOut.admitHost i c).settle = .next t ∧ _
  have hq' : s.clearOut.Quiet := hq.of_eq rfl rfl rfl hq.channel fun _ => rfl
  by_cases hr : c.kind = .read ∨ c.kind = .lread
  · have hno : ¬ w.takesBeats = true := fun h => by
      rcases hr with h' | h'
      · exact (hbeats.mp h).1 h'
      · exact (hbeats.mp h).2.1 h'
    rw [if_neg hno, if_neg hno] at hadmit
    have hent := s.clearOut.txnBecomes_entered i c w { Txn.fresh w c.line .lockWait with buf := buf, mask := mask }
    obtain ⟨y, h⟩ := State.asksPlainly (l := c.line) hent.1 hi.general (hplain hr)
    rw [(congrArg State.settle hadmit).trans (h.quiet (hq'.entered hi.general _ _ _) hi.general).settle]
    have hrec : y = { Txn.fresh w c.line y.phase with buf := buf, mask := mask } := h.record
    have hwork : y.work = w := congrArg Txn.work hrec
    refine ⟨_, y, rfl, h.frame, ?_, h.tt, hent.trans h.txn, ?_, ?_⟩
    · rw [hwork]
      exact h.hp
    · rw [hrec]
      rfl
    · rw [hwork]
      exact ⟨hread, hlread, hwrite, hlwrite, hevict, fun h1 h2 => absurd hr (not_or.mpr ⟨h1, h2⟩),
        fun _ => ⟨fun hw hl => h.free hl hw, fun hw hl => h.joins hl hw, h.member⟩⟩
  · have hyes : w.takesBeats = true := hbeats.mpr ⟨fun h => hr (.inl h), fun h => hr (.inr h), hfill⟩
    rw [if_pos hyes, if_pos hyes, if_neg (Nat.ne_of_lt htaken)] at hadmit
    rw [(congrArg State.settle hadmit).trans (hq'.entered hi.general _ _ _).settle]
    exact ⟨_, { Txn.fresh w c.line .dataIn with buf := buf, mask := mask }, rfl, rfl, rfl, rfl,
      s.clearOut.txnBecomes_entered i c w _, rfl, hread, hlread, hwrite, hlwrite, hevict,
      fun _ _ => ⟨rfl, rfl, rfl, rfl, hmask, fun hn b d hp => hbuf hn (b, d) hp⟩, fun h => absurd h hr⟩

/-! ### Waiting for a locked line -/

/-- R45 to R47: a port's request has an entry, before it asks for its line's lock. -/
def State.enteredFrom (i : EntryIx) (p : PortIx) (r : Accepted) (rest : List Accepted) (s : State) : State :=
  ((s.modPort p fun q => { q with ingress := rest }).setRoundRobin p).putTxn i
    (some (Txn.fresh (r.toWork p) r.line .lockWait))

theorem State.txnBecomes_enteredFrom (s : State) (i : EntryIx) (p : PortIx) (r : Accepted) (rest : List Accepted) :
    s.TxnBecomes (s.enteredFrom i p r rest) i (some (Txn.fresh (r.toWork p) r.line .lockWait)) :=
  State.txnBecomes_putTxn ((s.modPort p fun q => { q with ingress := rest }).setRoundRobin p) i _

theorem State.portBecomes_enteredFrom (s : State) (i : EntryIx) (p : PortIx) (r : Accepted) (rest : List Accepted) :
    s.PortBecomes (s.enteredFrom i p r rest) p { s.port p with ingress := rest } :=
  s.portBecomes_modPort p fun q => { q with ingress := rest }

/-- A port whose state is not changed. -/
theorem State.PortBecomes.state_eq {s t : State} {p : PortIx} {q : Port} (h : s.PortBecomes t p q)
    (hq : q.state = (s.port p).state) (p' : PortIx) : (t.port p').state = (s.port p').state := by
  by_cases hp : p' = p
  · rw [hp, h.1, hq]
  · rw [h.2 p' hp]

theorem State.Quiet.enteredFrom {s : State} (h : s.Quiet) {i : EntryIx} (hi : i ≠ recallEntry) (p : PortIx) (r : Accepted)
    (rest : List Accepted) : (s.enteredFrom i p r rest).Quiet :=
  h.of_eq (by rw [(s.txnBecomes_enteredFrom i p r rest).2 recallEntry (Ne.symm hi)]) rfl rfl h.channel
    ((s.portBecomes_enteredFrom i p r rest).state_eq rfl)

/-- R38: joining a wait list leaves a quiet bridge quiet. -/
theorem State.Quiet.joinWaiters {s : State} (h : s.Quiet) {i : EntryIx} (hi : i ≠ recallEntry) (r : LockRec) :
    (s.joinWaiters i r).Quiet := by
  refine h.of_eq ?_ rfl rfl h.channel fun _ => rfl
  rw [State.joinWaiters, State.txn_setPhase, if_neg (Ne.symm hi)]
  rfl

/-- Settles O17. -/
theorem aLockedLineIsWaitedFor : Obligations.ALockedLineIsWaitedFor := by
  refine ⟨fun s c i r hs hq hc hi hheld hl hk => ?host, fun s p i r rest k hs hq hp hi hl => ?port⟩
  case host =>
    obtain ⟨hread, hlread, -, -, -, hfill⟩ := c.work_eq s.hp.broken
    have hbeats := c.work_takesBeats s.hp.broken
    have hlocked : (c.work s.hp.broken).isLocked = false ∨ c.line ∉ s.hp.lockSet := by
      rcases hk with h | h | ⟨h, hb | hb⟩
      · rw [hread (.inl h)]
        exact .inl rfl
      · rw [hfill h]
        exact .inl rfl
      · rw [hread (.inr ⟨h, hb⟩)]
        exact .inl rfl
      · exact .inr hb
    have hadmit := State.admitHost_eq i c s.clearOut
    have hbroken : s.clearOut.hp.broken = s.hp.broken := rfl
    rw [hbroken] at hadmit
    have hw : (c.kind = .read → c.work s.hp.broken = .hRead c.beat c.mask) ∧ (c.kind = .fill → c.work s.hp.broken = .hFill c.beat) ∧
        (c.kind = .lread → c.work s.hp.broken = if s.hp.broken then .hRead c.beat c.mask else .hLread c.beat c.mask) := by
      refine ⟨fun h => hread (.inl h), hfill, fun h => ?_⟩
      cases hb : s.hp.broken with
      | true => rw [hb] at hread; exact hread (.inr ⟨h, rfl⟩)
      | false => rw [hb] at hlread; exact hlread h rfl
    generalize c.work s.hp.broken = w at *
    obtain ⟨buf, mask, hx, hmask, -, -⟩ := c.exists_admitted w
    obtain rfl := hmask hheld
    have hno : ¬ w.takesBeats = true := fun h => by
      obtain ⟨h1, h2, h3⟩ := hbeats.mp h
      rcases hk with h | h | ⟨h, -⟩
      · exact h1 h
      · exact h3 h
      · exact h2 h
    rw [hx, if_neg hno, if_neg hno] at hadmit
    have hent := s.clearOut.txnBecomes_entered i c w { Txn.fresh w c.line .lockWait with buf := buf, mask := 0#32 }
    have hq' : s.clearOut.Quiet := hq.of_eq rfl rfl rfl hq.channel fun _ => rfl
    rw [State.askLock_of_notInSet (s := s.clearOut.entered i c w _) hlocked,
      State.requestLock_of_locked (s := s.clearOut.entered i c w _) hl] at hadmit
    rw [exec_admissionGrant_of hs (State.claimant_of_claims hc) hi]
    show ∃ t w y, Host.Outcome.next (s.clearOut.admitHost i c).settle = .next t ∧ _
    rw [(congrArg State.settle hadmit).trans ((hq'.entered hi.general _ _ _).joinWaiters hi.general r).settle]
    exact ⟨_, w, _, rfl, rfl, rfl, rfl, State.TxnBecomes.modTxn (t := (s.clearOut.entered i c w _).putLock _) hent _, rfl,
      hw.1, hw.2.1, hw.2.2, State.lockBecomes_joinWaiters (s := s.clearOut.entered i c w _) hl hi.general⟩
  case port =>
    have hq' : s.clearOut.Quiet := hq.of_eq rfl rfl rfl hq.channel fun _ => rfl
    have hent := s.clearOut.txnBecomes_enteredFrom i p r rest
    have hadmit : s.clearOut.admitClaimant i (.port p r rest) = (s.clearOut.enteredFrom i p r rest).joinWaiters i k :=
      State.requestLock_of_locked (s := s.clearOut.enteredFrom i p r rest) hl i
    rw [exec_admissionGrant_of hs (State.claimant_of_portClaims hp) hi, hadmit,
      ((hq'.enteredFrom hi.general p r rest).joinWaiters hi.general k).settle]
    exact ⟨_, _, rfl, rfl, s.clearOut.portBecomes_enteredFrom i p r rest, rfl,
      State.TxnBecomes.modTxn (t := (s.clearOut.enteredFrom i p r rest).putLock _) hent _, rfl,
      State.lockBecomes_joinWaiters (s := s.clearOut.enteredFrom i p r rest) hl hi.general⟩

end Sys2Proof.Machine
end

section
/-! SUPPORT. The probe queue (R57, R58), the lookup of a requester transaction (R55, R92, R127) and the start of a RECALL (R13). -/

set_option Elab.async false

namespace Sys2Proof.Machine

/-! ### The probe queue -/

/-- R42: no eviction of the line waits to attach. -/
theorem State.NoneAttaches.attachWaiting {s : State} {l : Line} (h : s.NoneAttaches l) (i : EntryIx) :
    s.attachWaiting i l = s := by
  unfold State.attachWaiting
  split
  · rfl
  · rename_i c hc
    split
    · rename_i hwb
      rw [Bool.and_eq_true, beq_iff_eq] at hwb
      have hwrites : c.WritesBack := by simpa [Cycle.WritesBack, CycleKind.isWriteback] using hwb.1
      obtain ⟨hclaim, hserved⟩ := h c hc hwb.2 hwrites
      split
      · exact absurd ‹_› hclaim
      · rename_i j hst
        split
        · rename_i t ht
          exact if_neg fun hcond => hserved j t hst ht hcond.1 hcond.2
        · rfl
      · rfl
    · rfl

/-- R42: a change of the table that brings no H_EVICT about lets none attach. -/
theorem State.NoneAttaches.of_txn {s t : State} {l : Line} (h : s.NoneAttaches l) (hc : t.hp.cycle = s.hp.cycle)
    (ht : ∀ j x, t.txn j = some x → x.work.kind = .hEvict → s.txn j = some x) : t.NoneAttaches l := by
  intro c hcyc hline hw
  rw [hc] at hcyc
  obtain ⟨hclaim, hserved⟩ := h c hcyc hline hw
  exact ⟨hclaim, fun j x hst hx hp hk => hserved j x hst (ht j x hx hk) hp hk⟩

theorem State.NoneAttaches.of_txnBecomes {s t : State} {l : Line} {i : EntryIx} {y : Txn} (h : s.NoneAttaches l)
    (hc : t.hp.cycle = s.hp.cycle) (ht : s.TxnBecomes t i (some y)) (hy : y.work.kind ≠ .hEvict) : t.NoneAttaches l := by
  refine h.of_txn hc fun j x hx hk => ?_
  by_cases hj : j = i
  · rw [hj, ht.1] at hx
    cases hx
    exact absurd hk hy
  · rw [← ht.2 j hj]
    exact hx

/-- R55, R57: a transaction for which no eviction waits joins the probe queue. -/
theorem State.NoneAttaches.enterProbeQueued {s : State} {l : Line} {i : EntryIx} {x : Txn} (h : s.NoneAttaches l)
    (hx : s.txn i = some x) (hk : x.work.kind ≠ .hEvict) (m : ProbeMode) :
    s.enterProbeQueued i l m = (s.modTxn i fun t => { t with phase := .probeQueued, probeMode := some m }).setQueue
      (joinTail s.pu.queue i) := by
  have hb := State.txnBecomes_modTxn hx fun t => { t with phase := .probeQueued, probeMode := some m }
  let u := (s.modTxn i fun t => { t with phase := .probeQueued, probeMode := some m }).setQueue (joinTail s.pu.queue i)
  exact State.NoneAttaches.attachWaiting (s := u) (h.of_txnBecomes rfl hb hk) i

/-- R58: the head of the queue goes out on an idle channel, and nothing else follows. -/
theorem State.settle_issue {s : State} {i : EntryIx} {x : Txn} {rest : List EntryIx} (h11 : s.giveEntry11 = s)
    (hch : s.pu.channel = .idle) (hmode : s.msc.mode ≠ .faulted) (hq : s.pu.queue = i :: rest) (hx : s.txn i = some x)
    (hheld : s.isHeld x.line = true) (hports : ∀ p, (s.port p).state ≠ .draining) :
    s.settle = (s.setQueue rest).issueProbe i x (x.probeMode.getD .invalidate) := by
  have hpump : s.pumpProbes pumpBound = (s.setQueue rest).issueProbe i x (x.probeMode.getD .invalidate) := by
    have hcond : ¬ (s.pu.channel ≠ .idle ∨ s.msc.mode = .faulted) := by simp [hch, hmode]
    have hx' : (s.setQueue rest).txn i = some x := hx
    have hheld' : (s.setQueue rest).isHeld x.line = true := hheld
    rw [pumpBound, State.pumpProbes, if_neg hcond, hq]
    simp only [hx']
    rw [if_pos hheld']
  rw [State.settle, h11, hpump]
  exact State.drainPorts_of_none hports

/-- R58: while the channel is in use nothing leaves the queue. -/
theorem State.settle_of_channel {s : State} (h11 : s.giveEntry11 = s) (hch : s.pu.channel ≠ .idle)
    (hports : ∀ p, (s.port p).state ≠ .draining) : s.settle = s := by
  have hpump : s.pumpProbes pumpBound = s := by
    rw [pumpBound, State.pumpProbes, if_pos (.inl hch)]
  rw [State.settle, h11, hpump]
  exact State.drainPorts_of_none hports

theorem ProbeUnit.queue_nil {u : ProbeUnit} (h : u.queue = []) (c : Channel) :
    ({ u with queue := [], channel := c } : ProbeUnit) = { u with channel := c } := by rw [← h]

/-- R57, R58: a transaction that joins the probe queue: its probe goes out on an idle channel, and waits otherwise. -/
theorem State.settle_joinQueue {s : State} {i : EntryIx} {x : Txn} {m : ProbeMode} (hx : s.txn i = some x)
    (hp : x.phase = .probeQueued) (hm : x.probeMode = some m)
    (h11 : (s.setQueue (joinTail s.pu.queue i)).giveEntry11 = s.setQueue (joinTail s.pu.queue i))
    (hmode : s.msc.mode ≠ .faulted) (hq : s.pu.channel ≠ .idle ∨ s.pu.queue = []) (hheld : s.isHeld x.line = true)
    (hports : ∀ p, (s.port p).state ≠ .draining) :
    ∃ t y, (s.setQueue (joinTail s.pu.queue i)).settle = t ∧
      t = { s with tt := t.tt, pu := t.pu, ev := t.ev, out := t.out } ∧
      t.tt = { s.tt with entries := t.tt.entries } ∧ s.TxnBecomes t i (some y) ∧ y = { x with phase := y.phase } ∧
      (s.pu.channel = .idle → y.phase = .probing ∧ t.out = s.out ++ [.probe x.line m] ∧
        t.pu = { s.pu with channel := .outstanding i x.line m s.pu.probeLimit.toNat } ∧
        t.ev = { s.ev with counters := { s.ev.counters with probes := s.ev.counters.probes + 1#32 } }) ∧
      (s.pu.channel ≠ .idle → y.phase = .probeQueued ∧ t.out = s.out ∧ t.pu = { s.pu with queue := joinTail s.pu.queue i } ∧
        t.ev = s.ev) := by
  by_cases hch : s.pu.channel = .idle
  · have hqueue : s.pu.queue = [] := hq.resolve_left (not_not_intro hch)
    have hhead : (s.setQueue (joinTail s.pu.queue i)).pu.queue = i :: [] := by
      show joinTail s.pu.queue i = _
      rw [hqueue]
      rfl
    have hsettle := State.settle_issue (s := s.setQueue (joinTail s.pu.queue i)) h11 hch hmode hhead hx hheld hports
    rw [hm] at hsettle
    exact ⟨_, { x with phase := .probing }, hsettle, rfl, rfl,
      State.txnBecomes_modTxn (s := (s.setQueue (joinTail s.pu.queue i)).setQueue []) hx fun t => { t with phase := .probing },
      rfl, fun _ => ⟨rfl, rfl, ProbeUnit.queue_nil hqueue _, rfl⟩, fun hne => absurd hch hne⟩
  · exact ⟨_, x, State.settle_of_channel (s := s.setQueue (joinTail s.pu.queue i)) h11 hch hports, rfl, rfl,
      State.txnBecomes_refl hx, rfl, fun hidle => absurd hidle hch, fun _ => ⟨hp, rfl, rfl, rfl⟩⟩

theorem State.giveEntry11_of_isSome {s : State} (h : (s.txn recallEntry).isSome = true) : s.giveEntry11 = s := if_pos h

/-! ### The start of a RECALL -/

/-- R13, R173: a RECALL that has started stands at the tail of the probe queue with its line's lock. -/
def State.recallQueued (cause : RecallCause) (l : Line) (link : Option EntryIx) (s : State) : State :=
  (((s.putTxn recallEntry (some { Txn.fresh (.recall cause) l .probeQueued with
    link := link, dirResult := some (s.dirResult l), probeMode := some .invalidate })).putLock
    { line := l, holder := .txn recallEntry, waiters := [] }).bump .recalls).setQueue (joinTail s.pu.queue recallEntry)

theorem State.startRecall_eq (cause : RecallCause) (l : Line) (link : Option EntryIx) (s : State) :
    s.startRecall cause l link = (s.recallQueued cause l link).attachWaiting recallEntry l := by
  let t : Txn := { Txn.fresh (.recall cause) l .probeQueued with link := link, dirResult := some (s.dirResult l) }
  let u := ((s.putTxn recallEntry (some t)).putLock { line := l, holder := .txn recallEntry, waiters := [] }).bump .recalls
  have hu : s.TxnBecomes u recallEntry (some t) := s.txnBecomes_putTxn recallEntry (some t)
  have hmod : u.modTxn recallEntry (fun t => { t with phase := .probeQueued, probeMode := some .invalidate }) =
      u.putTxn recallEntry (some { t with phase := .probeQueued, probeMode := some .invalidate }) := by
    rw [State.modTxn, hu.1]
    rfl
  have htwice : ∀ a b : Option Txn, (s.tt.entries.set recallEntry.val a recallEntry.isLt).set recallEntry.val b
      recallEntry.isLt = s.tt.entries.set recallEntry.val b recallEntry.isLt := fun a b => Vector.set_set ..
  have hput : ∀ b : Option Txn, u.putTxn recallEntry b =
      ((s.putTxn recallEntry b).putLock { line := l, holder := .txn recallEntry, waiters := [] }).bump .recalls := by
    intro b
    simp only [u, State.putTxn, State.putLock, State.bump, htwice]
  show u.enterProbeQueued recallEntry l .invalidate = _
  rw [State.enterProbeQueued, hmod, hput]
  rfl

/-- R13, R173: a RECALL as it starts. -/
theorem State.NoneAttaches.startRecall {s : State} {l : Line} (h : s.NoneAttaches l) (cause : RecallCause)
    (link : Option EntryIx) : s.startRecall cause l link = s.recallQueued cause l link := by
  rw [State.startRecall_eq]
  refine State.NoneAttaches.attachWaiting ?_ recallEntry
  exact h.of_txnBecomes (t := s.recallQueued cause l link) rfl (s.txnBecomes_putTxn recallEntry (some _)) nofun

/-- R13, R58: what a RECALL that has started, its victim HELD and no eviction waiting to attach, leaves at the end of the event:
its probe goes out on an idle channel, and waits in the queue otherwise. -/
theorem State.NoneAttaches.settle_startRecall {s : State} {l : Line} (h : s.NoneAttaches l) (cause : RecallCause)
    (link : Option EntryIx) (hmode : s.msc.mode ≠ .faulted) (hq : s.pu.channel ≠ .idle ∨ s.pu.queue = [])
    (hheld : s.isHeld l = true) (hports : ∀ p, (s.port p).state ≠ .draining) :
    ∃ t z, (s.startRecall cause l link).settle = t ∧
      t = { s with tt := t.tt, pu := t.pu, ev := t.ev, out := t.out } ∧
      t.tt = { s.tt with entries := t.tt.entries, locks := t.tt.locks } ∧ s.TxnBecomes t recallEntry (some z) ∧
      z.work = .recall cause ∧ z.line = l ∧ z.probeMode = some .invalidate ∧ z.link = link ∧
      s.LockBecomes t l (some { line := l, holder := .txn recallEntry, waiters := [] }) ∧
      s.RecallAsksProbe t l z.phase s.out [] := by
  obtain ⟨x, hxeq⟩ : ∃ x : Txn, x = { Txn.fresh (.recall cause) l .probeQueued with
    link := link, dirResult := some (s.dirResult l), probeMode := some .invalidate } := ⟨_, rfl⟩
  have hstart := h.startRecall cause link
  rw [State.recallQueued, ← hxeq] at hstart
  let u := ((s.putTxn recallEntry (some x)).putLock { line := l, holder := .txn recallEntry, waiters := [] }).bump .recalls
  have hux : s.TxnBecomes u recallEntry (some x) := s.txnBecomes_putTxn recallEntry (some x)
  have hline : x.line = l := by rw [hxeq]; rfl
  obtain ⟨t, y, ht, hframe, htt, hy, hrec, hidle, hbusy⟩ := State.settle_joinQueue (s := u) (m := .invalidate) hux.1
    (by rw [hxeq]; rfl) (by rw [hxeq]) (State.giveEntry11_of_isSome (by show (u.txn recallEntry).isSome = true; rw [hux.1]; rfl))
    hmode hq (by rw [hline]; exact hheld) hports
  have hwork : y.work = .recall cause ∧ y.line = l ∧ y.probeMode = some .invalidate ∧ y.link = link := by
    rw [hrec, hxeq]
    exact ⟨rfl, rfl, rfl, rfl⟩
  obtain ⟨hyw, hyl, hym, hyk⟩ := hwork
  have hlocks : t.tt.locks = u.tt.locks := (congrArg TxnTable.locks htt).trans rfl
  have hlock : s.LockBecomes t l (some { line := l, holder := .txn recallEntry, waiters := [] }) := by
    have := State.lockBecomes_putLock (s.putTxn recallEntry (some x)) { line := l, holder := .txn recallEntry, waiters := [] }
    unfold State.LockBecomes State.lockOf at this ⊢
    rw [hlocks]
    exact this
  rw [hline] at hidle
  exact ⟨t, y, (congrArg State.settle hstart).trans ht, hframe, htt.trans (by rw [hlocks]; rfl), hux.trans hy, hyw, hyl, hym, hyk,
    hlock, hidle, fun hne => by rw [List.append_nil]; exact hbusy hne⟩

/-! ### The lookup of a requester transaction -/

/-- R47: a request's work. -/
theorem Accepted.toWork_spec (r : Accepted) (p : PortIx) : (r.toWork p).port? = some p ∧ (r.toWork p).tag? = some r.tag ∧
    (r.toWork p).isLocked = false ∧
    ((r.toWork p).kind = .rRead ∨ (r.toWork p).kind = .rWrite ∨ (r.toWork p).kind = .rAtomic) := by
  unfold Accepted.toWork
  cases r.work <;> simp [Work.port?, Work.issuer, Work.tag?, Work.isLocked, Work.kind]

theorem Work.requester_spec {w : Work} {p : PortIx} (h : w.port? = some p) : w.isLocked = false ∧ w.isHost = false ∧
    w.isRecall = false ∧ w.issuer = .rp p ∧ w.tag?.isSome = true ∧ (w.kind = .rRead ∨ w.kind = .rWrite ∨ w.kind = .rAtomic) := by
  cases w <;> simp_all [Work.port?, Work.issuer, Work.tag?, Work.isLocked, Work.kind, Work.isHost, Work.isRecall]

/-- R92: the checks as the model makes them, and as the specification states them. -/
theorem State.lookupRefusal_eq {s : State} {k : TxnKind} (hk : k = .rRead ∨ k = .rWrite ∨ k = .rAtomic) (p : PortIx) (l : Line) :
    s.lookupRefusal k p l (s.rm.resolve l) =
      if s.checksResult k p l = .ok then none else some (s.checksResult k p l) := by
  have hwriter : (k.writes && !(s.rm.resolve l).writers.getLsbD p.val) = true ↔
      k ≠ .rRead ∧ (s.rm.resolve l).writers.getLsbD p.val = false := by
    rcases hk with rfl | rfl | rfl <;> simp [TxnKind.writes]
  have hatomic : (k == .rAtomic && !(s.rm.resolve l).atomics) = true ↔ k = .rAtomic ∧ (s.rm.resolve l).atomics = false := by
    simp
  have hfaulted : (s.msc.mode == .faulted && (s.rm.resolve l).coherent) = true ↔
      s.msc.mode = .faulted ∧ (s.rm.resolve l).coherent = true := by simp
  unfold State.lookupRefusal State.checksResult
  simp only [hwriter, hatomic, hfaulted]
  split_ifs <;> simp_all

/-- R55, R91: the lookup calls for no probe, as the specification puts it. -/
theorem State.NeedsNoProbe.probeNeeded {s : State} {k : TxnKind} {l : Line} (hk : k = .rRead ∨ k = .rWrite ∨ k = .rAtomic)
    (h : s.NeedsNoProbe k l) : probeNeeded k (s.consulted l (s.rm.resolve l)) = none := by
  unfold State.consulted
  split
  · rename_i hc
    rcases h with h | h | h | ⟨rfl, e, he, hp⟩
    · rw [hc.2] at h
      cases h
    · exact absurd hc.1 h
    · unfold State.dirResult
      unfold State.isHeld at h
      rcases hf : s.findEntry l with _ | e
      · rfl
      · rw [hf] at h
        rcases e with ⟨w, l', st, pol⟩
        cases st
        · rfl
        · simp at h
    · unfold State.dirResult
      rw [he]
      rcases e with ⟨w, l', st, pol⟩
      cases hp
      cases st <;> rfl
  · rfl

/-- R55, R91: the lookup calls for a probe, as the specification puts it. -/
theorem State.NeedsProbe.probeNeeded {s : State} {k : TxnKind} {l : Line} {m : ProbeMode}
    (hk : k = .rRead ∨ k = .rWrite ∨ k = .rAtomic) (h : s.NeedsProbe k l m) :
    probeNeeded k (s.consulted l (s.rm.resolve l)) = some m := by
  obtain ⟨hm, hc, e, he, hst, hkind⟩ := h
  rw [State.consulted, if_pos ⟨hm, hc⟩, State.dirResult, he]
  rcases e with ⟨w, l', st, pol⟩
  cases hst
  rcases hkind with ⟨hk', rfl⟩ | ⟨rfl, hp, rfl⟩
  · have hw : k.writes = true := by rcases hk with rfl | rfl | rfl <;> first | rfl | exact absurd rfl hk'
    cases pol <;> simp [Machine.probeNeeded, hw]
  · cases hp
    rfl

/-- R127: what the lookup leaves in the record of a requester transaction. -/
def State.lookedAt (i : EntryIx) (l : Line) (s : State) : State :=
  s.modTxn i fun t =>
    { t with snapshot := some (s.rm.resolve l), dirResult := some (s.consulted l (s.rm.resolve l)) }

/-- R92, R127: the lookup of a request that a check refuses. -/
theorem State.lookup_of_refused {s : State} {i : EntryIx} {x : Txn} {p : PortIx} (hx : s.txn i = some x)
    (hp : x.work.port? = some p) (hc : s.checksResult x.work.kind p x.line ≠ .ok) :
    s.lookup i = ⟨(s.reportRefusal x (s.checksResult x.work.kind p x.line)).respond i
      (s.checksResult x.work.kind p x.line), true⟩ := by
  obtain ⟨-, -, -, -, -, hk⟩ := Work.requester_spec hp
  rw [State.lookup_of_requester hx hp, State.lookupRequester]
  dsimp only
  rw [State.lookupRefusal_eq hk, if_neg hc]

/-- R55, R127: that of one that no check refuses and that needs no probe. -/
theorem State.lookup_of_noProbe {s : State} {i : EntryIx} {x : Txn} {p : PortIx} (hx : s.txn i = some x)
    (hp : x.work.port? = some p) (hc : s.checksResult x.work.kind p x.line = .ok) (hn : s.NeedsNoProbe x.work.kind x.line) :
    s.lookup i = { state := (s.lookedAt i x.line).toMemWait i, completed := false } := by
  obtain ⟨-, -, -, -, -, hk⟩ := Work.requester_spec hp
  rw [State.lookup_of_requester hx hp, State.lookupRequester]
  dsimp only
  rw [State.lookupRefusal_eq hk, if_pos hc]
  dsimp only
  rw [hn.probeNeeded hk]
  rfl

/-- R55, R127: that of one that no check refuses and that needs a probe. -/
theorem State.lookup_of_probe {s : State} {i : EntryIx} {x : Txn} {p : PortIx} {m : ProbeMode} (hx : s.txn i = some x)
    (hp : x.work.port? = some p) (hc : s.checksResult x.work.kind p x.line = .ok) (hn : s.NeedsProbe x.work.kind x.line m) :
    s.lookup i = { state := (s.lookedAt i x.line).enterProbeQueued i x.line m, completed := false } := by
  obtain ⟨-, -, -, -, -, hk⟩ := Work.requester_spec hp
  rw [State.lookup_of_requester hx hp, State.lookupRequester]
  dsimp only
  rw [State.lookupRefusal_eq hk, if_pos hc]
  dsimp only
  rw [hn.probeNeeded hk]
  rfl

/-- R38: the head of a wait list becomes the holder, and keeps the lock when its lookup does not complete it. -/
theorem State.handOff_cons {s : State} {i : EntryIx} {l : Line} {rest : List EntryIx} {x : Txn} {u : State}
    (hx : s.txn i = some x) (h : (s.takeLock i x.work l rest).lookup i = { state := u, completed := false }) :
    s.handOff l (i :: rest) = u := by
  rw [State.handOff, hx]
  dsimp only
  rw [h]
  exact if_neg nofun

/-- R38, R92: a request that its lookup refuses gives the lock on. -/
theorem State.Deaf.handOff_of_refused {s : State} (hd : s.Deaf) {i : EntryIx} {l : Line} {rest : List EntryIx} {x : Txn}
    {u : State} (hx : s.txn i = some x) (h : (s.takeLock i x.work l rest).lookup i = { state := u, completed := true })
    (hu : u.msc = s.msc) : s.handOff l (i :: rest) = u.handOff l rest := by
  have hud : u.Deaf := by
    unfold State.Deaf
    rw [hu]
    exact hd
  rw [State.handOff, hx]
  dsimp only
  rw [h]
  exact (if_pos rfl).trans (by rw [hud.wakeSweep])

/-! ### The admission of a request -/

/-- R92, R182: what a refusal at the lookup reports. -/
theorem State.exists_reportRefusal (s : State) (x : Txn) (code : ResultCode) : ∃ e, s.reportRefusal x code = { s with ev := e } ∧
    (code = .accessDenied → s.ev.Reported (x.record .accessDenied) e) ∧
    (code = .atomicRefused → s.ev.Reported (x.record .atomicRefused) e) ∧
    (code ≠ .accessDenied → code ≠ .atomicRefused → e = s.ev) := by
  by_cases ha : code = .accessDenied
  · obtain ⟨e, he, hr⟩ := s.exists_reportError (x.record .accessDenied)
    exact ⟨e, by rw [ha]; exact he, fun _ => hr, fun h => absurd (ha.symm.trans h) nofun, fun h => absurd ha h⟩
  · by_cases hb : code = .atomicRefused
    · obtain ⟨e, he, hr⟩ := s.exists_reportError (x.record .atomicRefused)
      exact ⟨e, by rw [hb]; exact he, fun h => absurd h ha, fun _ => hr, fun _ h => absurd hb h⟩
    · refine ⟨s.ev, ?_, fun h => absurd h ha, fun h => absurd h hb, fun _ _ => rfl⟩
      unfold State.reportRefusal
      split
      · exact absurd rfl ha
      · exact absurd rfl hb
      · rfl

theorem exec_admissionGrant_of_port {s : State} {p : PortIx} {i : EntryIx} {r : Accepted} {rest : List Accepted}
    (hs : s.Running) (hp : s.PortClaims p r rest) (hi : s.LowestFree i) (hl : s.lockOf r.line = none) :
    exec .admissionGrant s = .next ((s.clearOut.enteredFrom i p r rest).handOff r.line [i]).settle := by
  rw [exec_admissionGrant_of hs (State.claimant_of_portClaims hp) hi]
  have hlock : (s.clearOut.enteredFrom i p r rest).requestLock i r.line =
      (s.clearOut.enteredFrom i p r rest).handOff r.line [i] := by
    rw [State.requestLock, show (s.clearOut.enteredFrom i p r rest).lockOf r.line = none from hl]
  exact congrArg (fun u : State => Host.Outcome.next u.settle) hlock

/-- Settles O21: the refused request is answered and passes its lock on to no one. -/
theorem refusalAtLookupAnswersAtOnce : Obligations.RefusalAtLookupAnswersAtOnce := by
  intro s p i r rest code hs hq hp hi hl hcode hbad
  subst hcode
  obtain ⟨hport, htag, hunlocked, -⟩ := r.toWork_spec p
  have hent := s.clearOut.txnBecomes_enteredFrom i p r rest
  have hq' : s.clearOut.Quiet := hq.of_eq rfl rfl rfl hq.channel fun _ => rfl
  have hqe := hq'.enteredFrom hi.general p r rest
  have hportsBecome := s.clearOut.portBecomes_enteredFrom i p r rest
  let v := (s.clearOut.enteredFrom i p r rest).putLock { line := r.line, holder := .txn i, waiters := [] }
  obtain ⟨e, he, hdenied, hrefused, hother⟩ := v.exists_reportRefusal (Txn.fresh (r.toWork p) r.line .lockWait)
    (s.checksResult (r.toWork p).kind p r.line)
  have hlook := State.lookup_of_refused (s := v) hent.1 hport hbad
  have hrespond := State.respond_of_requester (s := { v with ev := e }) hent.1 hport htag
    (s.checksResult (r.toWork p).kind p r.line)
  rw [if_neg hbad] at hrespond
  have hlook' : v.lookup i = { state := ({ v with ev := e }.placeResponse p
      { tag := r.tag, result := s.checksResult (r.toWork p).kind p r.line, data := .none }).freeEntry i, completed := true } :=
    hlook.trans (congrArg (Looked.mk · true) ((congrArg (State.respond i _) he).trans hrespond))
  have htake : (s.clearOut.enteredFrom i p r rest).takeLock i (r.toWork p) r.line [] = v :=
    State.takeLock_of_unlocked hunlocked i r.line [] _
  have hhand := hqe.deaf.handOff_of_refused hent.1 ((congrArg (State.lookup i) htake).trans hlook') rfl
  let w := (({ v with ev := e }.placeResponse p
    { tag := r.tag, result := s.checksResult (r.toWork p).kind p r.line, data := .none }).freeEntry i).dropLock r.line
  have htable : ∀ j, w.txn j = s.txn j := by
    intro j
    show (State.freeEntry i v).txn j = _
    rw [State.txn_freeEntry]
    split
    · rename_i hj
      rw [hj, hi.free]
    · rename_i hj
      exact hent.2 j hj
  have hresponse : s.PortBecomes w p { s.port p with
      ingress := rest
      responses := (s.port p).responses ++
        [{ tag := r.tag, result := s.checksResult (r.toWork p).kind p r.line, data := .none }] } := by
    have hplace := v.portBecomes_modPort p fun q => { q with responses := q.responses ++
      [{ tag := r.tag, result := s.checksResult (r.toWork p).kind p r.line, data := .none }] }
    have hv : v.port p = { s.port p with ingress := rest } := hportsBecome.1
    rw [hv] at hplace
    exact ⟨hplace.1, fun p' hp' => (hplace.2 p' hp').trans (hportsBecome.2 p' hp')⟩
  have hwq : w.Quiet := hq.of_eq (by rw [htable]) rfl rfl hq.channel (hresponse.state_eq rfl)
  rw [exec_admissionGrant_of_port hs hp hi hl, hhand]
  show ∃ t, Host.Outcome.next w.settle = .next t ∧ _
  rw [hwq.settle]
  refine ⟨w, rfl, rfl, hresponse, rfl, htable, fun l => ?_, fun h => ?_, fun h => ?_, fun h => ?_⟩
  · by_cases hline : l = r.line
    · rw [hline, hl]
      exact State.lockOf_dropLock_self _ _
    · exact (State.lockOf_dropLock_ne _ hline).trans (State.lockOf_putLock_ne _ _ hline)
  · obtain ⟨-, -, -, hissuer, -, -⟩ := Work.requester_spec hport
    have := hdenied h
    rwa [Txn.record, show (Txn.fresh (r.toWork p) r.line .lockWait).work.issuer = .rp p from hissuer,
      show (Txn.fresh (r.toWork p) r.line .lockWait).work.tag? = some r.tag from htag] at this
  · obtain ⟨-, -, -, hissuer, -, -⟩ := Work.requester_spec hport
    have := hrefused h
    rwa [Txn.record, show (Txn.fresh (r.toWork p) r.line .lockWait).work.issuer = .rp p from hissuer,
      show (Txn.fresh (r.toWork p) r.line .lockWait).work.tag? = some r.tag from htag] at this
  · refine hother (fun h' => ?_) (fun h' => ?_) <;> rw [h'] at h <;> rcases h with h | h <;> cases h

/-- Settles O20: a request that no check refuses, without and with a probe. -/
theorem requesterIsAdmittedInTurnAndProbed : Obligations.RequesterIsAdmittedInTurnAndProbed := by
  intro s p i r rest hs hq hp hi hl hok
  obtain ⟨hport, -, hunlocked, hkind⟩ := r.toWork_spec p
  have hent := s.clearOut.txnBecomes_enteredFrom i p r rest
  have hq' : s.clearOut.Quiet := hq.of_eq rfl rfl rfl hq.channel fun _ => rfl
  have hqe := hq'.enteredFrom hi.general p r rest
  have hports := s.clearOut.portBecomes_enteredFrom i p r rest
  let v := (s.clearOut.enteredFrom i p r rest).putLock { line := r.line, holder := .txn i, waiters := [] }
  have htake : (s.clearOut.enteredFrom i p r rest).takeLock i (r.toWork p) r.line [] = v :=
    State.takeLock_of_unlocked hunlocked i r.line [] _
  have hlooked : s.TxnBecomes (v.lookedAt i r.line) i (some { Txn.fresh (r.toWork p) r.line .lockWait with
      snapshot := some (s.rm.resolve r.line), dirResult := some (s.consulted r.line (s.rm.resolve r.line)) }) :=
    State.TxnBecomes.modTxn (t := v) hent _
  have hlock : s.LockBecomes v r.line (some { line := r.line, holder := .txn i, waiters := [] }) :=
    State.lockBecomes_putLock (s.clearOut.enteredFrom i p r rest) _
  refine ⟨fun hn => ?_, fun m hn hnone => ?_⟩
  · have hhand := State.handOff_cons hent.1 ((congrArg (State.lookup i) htake).trans
      (State.lookup_of_noProbe (s := v) hent.1 hport hok hn))
    have hmem := hlooked.toMemWait
    have hwq : ((v.lookedAt i r.line).toMemWait i).Quiet :=
      hq.of_eq (by rw [hmem.2 recallEntry (Ne.symm hi.general)]) rfl rfl hq.channel (hports.state_eq rfl)
    rw [exec_admissionGrant_of_port hs hp hi hl, (congrArg State.settle hhand).trans hwq.settle]
    have hentered := Txn.enteredMemWait (x := { Txn.fresh (r.toWork p) r.line .lockWait with
      snapshot := some (s.rm.resolve r.line), dirResult := some (s.consulted r.line (s.rm.resolve r.line)) }) rfl
    exact ⟨_, { Txn.fresh (r.toWork p) r.line .memWait with
      snapshot := some (s.rm.resolve r.line), dirResult := some (s.consulted r.line (s.rm.resolve r.line)) }, _, rfl, rfl, hports,
      rfl, hmem, ⟨hentered.record, hentered.write, hentered.other⟩, rfl, hlock⟩
  · have hhand := State.handOff_cons hent.1 ((congrArg (State.lookup i) htake).trans
      (State.lookup_of_probe (s := v) hent.1 hport hok hn))
    have hkindNe : (r.toWork p).kind ≠ .hEvict := by
      intro h
      rw [h] at hkind
      rcases hkind with h | h | h <;> cases h
    have hnone' : (v.lookedAt i r.line).NoneAttaches r.line := hnone.of_txnBecomes rfl hlooked hkindNe
    have henter := hnone'.enterProbeQueued hlooked.1 hkindNe m
    let u := ((v.lookedAt i r.line).modTxn i fun t => { t with phase := .probeQueued, probeMode := some m }).setQueue
      (joinTail s.pu.queue i)
    obtain ⟨z, hz⟩ : ∃ z : Txn, z = { Txn.fresh (r.toWork p) r.line .probeQueued with
        snapshot := some (s.rm.resolve r.line), dirResult := some (s.consulted r.line (s.rm.resolve r.line)),
        probeMode := some m } := ⟨_, rfl⟩
    have hu : s.TxnBecomes u i (some z) := by
      rw [hz]
      exact hlooked.modTxn fun t => { t with phase := .probeQueued, probeMode := some m }
    have hheld : s.isHeld r.line = true := by
      obtain ⟨-, -, e, he, hst, -⟩ := hn
      rw [State.isHeld, he]
      exact beq_iff_eq.mpr hst
    have h11 : u.giveEntry11 = u := by
      have hqu : State.Quiet { u with pu := s.pu } :=
        hq.of_eq (t := { u with pu := s.pu }) (by exact congrArg Option.isSome (hu.2 recallEntry (Ne.symm hi.general))) rfl rfl
          hq.channel (hports.state_eq rfl)
      unfold State.giveEntry11
      rcases hqu.entry11 with h1 | ⟨h1, h2⟩
      · exact if_pos h1
      · split
        · rfl
        · rw [show u.msc.sweep.phase = .stopped from h1, show u.tt.recallWait = [] from h2]
          rfl
    have hportsQuiet : ∀ q, (u.port q).state ≠ .draining := fun q h => hq.ports q ((hports.state_eq rfl q).symm.trans h)
    have hu' : (s.clearOut.enteredFrom i p r rest).handOff r.line [i] = u := hhand.trans henter
    have hzline : z.line = r.line := by rw [hz]; rfl
    let u₀ := (v.lookedAt i r.line).modTxn i fun t => { t with phase := .probeQueued, probeMode := some m }
    have hqueue : s.pu.channel ≠ .idle ∨ s.pu.queue = [] := by
      rcases hq.channel with h | h | h
      · exact .inl h
      · rw [hn.1] at h
        cases h
      · exact .inr h
    obtain ⟨t, y, ht, hframe, htt, hy, hrec, hidle, hbusy⟩ := State.settle_joinQueue (s := u₀) (m := m) hu.1
      (by rw [hz]; rfl) (by rw [hz]) h11 (by show s.msc.mode ≠ .faulted; rw [hn.1]; nofun) hqueue (by rw [hzline]; exact hheld)
      hportsQuiet
    have hrp : t.rp = u₀.rp := (congrArg State.rp hframe).trans rfl
    have hlocks : t.tt.locks = u₀.tt.locks := (congrArg TxnTable.locks htt).trans rfl
    rw [hzline] at hidle
    rw [exec_admissionGrant_of_port hs hp hi hl, (congrArg State.settle hu').trans ht]
    refine ⟨t, y, rfl, hframe.trans (by rw [hrp]; rfl), ?_, htt.trans (by rw [hlocks]; rfl), State.TxnBecomes.trans hu hy, ?_, ?_,
      hidle, hbusy⟩
    · unfold State.PortBecomes State.port at *
      rw [hrp]
      exact hports
    · rw [hrec, hz]
      rfl
    · unfold State.LockBecomes State.lockOf at *
      rw [hlocks]
      exact hlock

end Sys2Proof.Machine
end

section
/-! SUPPORT. The admission decision of a FILL (R8 to R14). -/

set_option Elab.async false

namespace Sys2Proof.Machine

/-! ### What the decision reads -/

theorem State.putSet_dirSet (s : State) (l : Line) : s.putSet l (s.dirSet l) = s := by
  have hset : s.pd.sets.set (setOf l).val (s.dirSet l) (setOf l).isLt = s.pd.sets := Vector.set_getElem_self _
  rw [State.putSet, hset]

/-- R10: the lowest-numbered free way. -/
theorem freeWay_eq_some {es : List DirEntry} {w : Way} (hw : ∀ e ∈ es, e.way ≠ w)
    (hbelow : ∀ v : Way, v < w → ∃ e ∈ es, e.way = v) : freeWay es = some w := by
  refine List.find?_eq_some_iff_getElem.mpr ⟨by simpa using hw, w.val, by simp, by simp, fun j hj => ?_⟩
  obtain ⟨e, he, hway⟩ := hbelow ⟨j, by omega⟩ hj
  have hany : (es.any fun e => e.way == (⟨j, by omega⟩ : Way)) = true := List.any_eq_true.mpr ⟨e, he, beq_iff_eq.mpr hway⟩
  simp only [List.getElem_finRange, Bool.not_eq_true']
  exact congrArg not hany

theorem freeWay_eq_none {es : List DirEntry} (h : ∀ w : Way, ∃ e ∈ es, e.way = w) : freeWay es = none := by
  refine List.find?_eq_none.mpr fun w _ => ?_
  obtain ⟨e, he, hway⟩ := h w
  have hany : (es.any fun e => e.way == w) = true := List.any_eq_true.mpr ⟨e, he, beq_iff_eq.mpr hway⟩
  simp only [hany]
  nofun

theorem State.line_ne_of_findEntry {s : State} {l : Line} (h : s.findEntry l = none) : ∀ e ∈ s.dirSet l, e.line ≠ l := by
  intro e he
  simpa using List.find?_eq_none.mp h e he

theorem State.insertEntry_of_free {s : State} {l : Line} {w : Way} (hw : ∀ e ∈ s.dirSet l, e.way ≠ w)
    (hf : s.findEntry l = none) (p : EntryPolicy) :
    s.insertEntry l w p = s.putSet l ({ way := w, line := l, state := .reserved, policy := p } :: s.dirSet l) := by
  refine if_neg fun h => ?_
  obtain ⟨e, he, hor⟩ := List.any_eq_true.mp h
  rw [Bool.or_eq_true, beq_iff_eq, beq_iff_eq] at hor
  exact hor.elim (hw e he) (State.line_ne_of_findEntry hf e he)

/-- R12: the entries a recall may take, as the model tests them. -/
theorem State.recallable_iff (s : State) (e : DirEntry) :
    (e.state == .held && !s.isLocked e.line && !s.isQuarantined e.line) = true ↔ s.Recallable e := by
  simp [State.Recallable, and_assoc]

theorem State.victim_eq_none {s : State} {l : Line} (h : ∀ e ∈ s.dirSet l, ¬ s.Recallable e) : s.victim l = none := by
  refine List.find?_eq_none.mpr fun e he hc => ?_
  exact h e (List.mem_reverse.mp he) ((s.recallable_iff e).mp hc)

/-- R12: the victim is the oldest entry that may be recalled. -/
theorem State.victim_eq_some {s : State} {l : Line} {newer older : List DirEntry} {v : DirEntry}
    (hd : s.dirSet l = newer ++ v :: older) (hv : s.Recallable v) (ho : ∀ e ∈ older, ¬ s.Recallable e) :
    s.victim l = some v := by
  have hrev : (s.dirSet l).reverse = older.reverse ++ v :: newer.reverse := by
    rw [hd, List.reverse_append, List.reverse_cons, List.append_assoc]
    rfl
  have hnone : older.reverse.find? (fun e => e.state == .held && !s.isLocked e.line && !s.isQuarantined e.line) = none :=
    List.find?_eq_none.mpr fun e he hc => ho e (List.mem_reverse.mp he) ((s.recallable_iff e).mp hc)
  rw [State.victim, hrev, List.find?_append, hnone, Option.none_or]
  exact List.find?_cons_of_pos ((s.recallable_iff v).mpr hv)

/-- R8: what declines a fill at once. -/
theorem State.declines_eq_false {s : State} {l : Line} {a : Attr} (hm : s.msc.mode = .coherent)
    (hw : s.msc.sweep.phase = .stopped) (hq : s.isQuarantined l = false) {p : EntryPolicy}
    (hp : a.policy.entryPolicy = some p) : s.declines l a = false := by
  have hpol : (a.policy == .uncached) = false := by
    rcases ha : a.policy with _ | _ | _
    · rw [ha] at hp
      cases hp
    · rfl
    · rfl
  rw [State.declines, State.sweeping, hm, hw, hq, hpol]
  rfl

theorem State.declines_eq_true {s : State} {l : Line} {a : Attr} (h : s.msc.mode ≠ .coherent ∨ s.msc.sweep.phase ≠ .stopped ∨
    s.isQuarantined l = true ∨ a.policy = .uncached) : s.declines l a = true := by
  simp only [State.declines, State.sweeping, Bool.or_eq_true, bne_iff_ne, beq_iff_eq]
  tauto

/-- R8: the state of a fill that is admitted or declined, before it enters MEM_WAIT: the set of its line, and the fills counted
as declined. -/
def State.decided (l : Line) (es : List DirEntry) (n : BitVec 32) (s : State) : State :=
  { s.putSet l es with
    ev := { s.ev with counters := { s.ev.counters with declinedFills := s.ev.counters.declinedFills + n } } }

theorem State.decided_zero (s : State) (l : Line) (es : List DirEntry) : s.decided l es 0#32 = s.putSet l es := by
  rw [State.decided, BitVec.add_zero]
  rfl

theorem State.declineFill_eq (s : State) (i : EntryIx) (l : Line) :
    s.declineFill i = (s.decided l (s.dirSet l) 1#32).toMemWait i := by
  rw [State.decided, State.putSet_dirSet]
  rfl

/-- R12: an entry of another line may be recalled whatever becomes of this line's lock. -/
theorem State.recallable_congr {s u : State} {e : DirEntry} (hm : u.msc = s.msc) (hl : u.lockOf e.line = s.lockOf e.line) :
    u.Recallable e ↔ s.Recallable e := by
  unfold State.Recallable State.isLocked State.isQuarantined
  rw [hm, hl]

/-- R8 to R12: the decision that the specification's cases name, in a state that differs from `s` in the lock of the fill's line
alone, as far as the decision reads it. -/
theorem State.FillDecides.decideFill {s u : State} {l : Line} {es : List DirEntry} {n : BitVec 32} (h : s.FillDecides l es n)
    (hpd : u.pd = s.pd) (hmsc : u.msc = s.msc) (hlock : ∀ m, m ≠ l → u.lockOf m = s.lockOf m) (i : EntryIx) :
    u.decideFill i l (s.rm.resolve l) = (u.decided l es n).toMemWait i := by
  have hset : u.dirSet l = s.dirSet l := by rw [State.dirSet, hpd]; rfl
  have hfind : u.findEntry l = s.findEntry l := by rw [State.findEntry, hset]; rfl
  have hquar : u.isQuarantined l = s.isQuarantined l := by rw [State.isQuarantined, hmsc]; rfl
  rcases h with ⟨p, hw, hm, hq, hp, hcase⟩ | ⟨hdecl, rfl, rfl⟩
  · have hno : u.declines l (s.rm.resolve l) = false :=
      State.declines_eq_false (by rw [hmsc]; exact hm) (by rw [hmsc]; exact hw) (by rw [hquar]; exact hq) hp
    rw [State.decideFill, hno, hp]
    refine (if_neg nofun).trans ?_
    dsimp only
    rcases hcase with ⟨e, he, rfl, rfl⟩ | ⟨w, hf, rfl, hfree, hbelow, rfl⟩ | ⟨hf, hfull, hpolicy, rfl, rfl⟩
    · have hhas : u.hasEntry l = true := by rw [State.hasEntry, hfind, he]; rfl
      rw [if_pos hhas, State.decided_zero, ← hset, State.reReserve, hfind, he]
    · have hhas : ¬ u.hasEntry l = true := by rw [State.hasEntry, hfind, hf]; nofun
      rw [if_neg hhas, hset, freeWay_eq_some hfree hbelow]
      dsimp only
      rw [State.insertEntry_of_free (by rw [hset]; exact hfree) (hfind.trans hf), State.decided_zero, hset]
    · have hhas : ¬ u.hasEntry l = true := by rw [State.hasEntry, hfind, hf]; nofun
      rw [if_neg hhas, hset, freeWay_eq_none hfull, ← hset]
      dsimp only
      rcases hpolicy with hpol | hnone
      · rw [show u.pd.admitPolicy = .decline by rw [hpd]; exact hpol]
        exact u.declineFill_eq i l
      · have hvictim : u.victim l = none := by
          refine State.victim_eq_none fun e he => ?_
          rw [hset] at he
          rw [State.recallable_congr hmsc (hlock e.line (State.line_ne_of_findEntry hf e he))]
          exact hnone e he
        split
        · exact u.declineFill_eq i l
        · rw [hvictim]
          exact u.declineFill_eq i l
  · have hyes : u.declines l (s.rm.resolve l) = true := by
      refine State.declines_eq_true ?_
      rw [hmsc, hquar]
      exact hdecl
    rw [State.decideFill, if_pos hyes, ← hset]
    exact u.declineFill_eq i l

/-! ### The admission of a FILL -/

/-- R45, R90: a FILL has its entry and its line's lock, and its lookup has begun. -/
def State.fillLooks (i : EntryIx) (c : Cycle) (x : Txn) (s : State) : State :=
  ((s.entered i c (.hFill c.beat) x).putLock { line := c.line, holder := .txn i, waiters := [] }).modTxn i fun t =>
    { t with snapshot := some (s.rm.resolve c.line), dirResult := some (s.dirResult t.line) }

theorem exec_admissionGrant_of_fill {s : State} {c : Cycle} {i : EntryIx} (hs : s.Running) (hc : s.Claims c)
    (hk : c.kind = .fill) (hi : s.LowestFree i) (hl : s.lockOf c.line = none) :
    ∃ x y : Txn, exec .admissionGrant s =
        .next ((s.clearOut.fillLooks i c x).decideFill i c.line (s.rm.resolve c.line)).settle ∧
      s.TxnBecomes (s.clearOut.fillLooks i c x) i (some y) ∧ y.work = .hFill c.beat ∧ y.line = c.line ∧
      y.snapshot = some (s.rm.resolve c.line) ∧ y.wbData = false := by
  obtain ⟨-, -, -, -, -, hfill⟩ := c.work_eq s.hp.broken
  have hw : c.work s.clearOut.hp.broken = .hFill c.beat := hfill hk
  obtain ⟨buf, mask, hx, -⟩ := c.exists_admitted (.hFill c.beat)
  obtain ⟨x, hxeq⟩ : ∃ x, x = c.admitted (.hFill c.beat) := ⟨_, rfl⟩
  have hwork : x.work = .hFill c.beat ∧ x.line = c.line ∧ x.wbData = false := by
    rw [hxeq, hx]
    exact ⟨rfl, rfl, rfl⟩
  obtain ⟨hxw, hxl, hxd⟩ := hwork
  let e := s.clearOut.entered i c (.hFill c.beat) x
  have he : s.TxnBecomes e i (some x) := s.clearOut.txnBecomes_entered i c _ x
  have hadmit : s.clearOut.admitHost i c = e.askLock i (.hFill c.beat) c.line := by
    rw [State.admitHost_eq, hw, ← hxeq]
    exact if_neg nofun
  have htake : e.takeLock i x.work c.line [] = e.putLock { line := c.line, holder := .txn i, waiters := [] } := by
    rw [hxw]
    exact State.takeLock_of_unlocked rfl i c.line [] e
  have hlook := State.lookup_of_fill (s := e.takeLock i x.work c.line []) (by rw [htake]; exact he.1) hxw
  have hreq := State.requestLock_of_unlocked (s := e) (l := c.line) hl he.1 (by rw [hlook])
  rw [hlook, htake, hxl] at hreq
  refine ⟨x, { x with
    snapshot := some (s.rm.resolve c.line), dirResult := some (s.clearOut.dirResult x.line) }, ?_, ?_, hxw, hxl, rfl, hxd⟩
  · rw [exec_admissionGrant_of hs (State.claimant_of_claims hc) hi]
    refine congrArg (fun u : State => Host.Outcome.next u.settle) (hadmit.trans ?_)
    rw [State.askLock_of_notInSet (.inl rfl)]
    exact hreq
  · exact State.TxnBecomes.modTxn (t := e.putLock { line := c.line, holder := .txn i, waiters := [] }) he fun t =>
      { t with snapshot := some (s.rm.resolve c.line), dirResult := some (s.clearOut.dirResult t.line) }

theorem State.lockBecomes_fillLooks (s : State) (i : EntryIx) (c : Cycle) (x : Txn) :
    s.LockBecomes (s.fillLooks i c x) c.line (some { line := c.line, holder := .txn i, waiters := [] }) :=
  State.lockBecomes_putLock (s.entered i c (.hFill c.beat) x) _

/-- Settles O18: the decision leaves the set and the count that the specification's cases give. -/
theorem fillIsReservedOrDeclined : Obligations.FillIsReservedOrDeclined := by
  intro s c i es declined hs hq hc hk hi hl hdec
  obtain ⟨x, y, hexec, hy, hyw, hyl, hysnap, -⟩ := exec_admissionGrant_of_fill hs hc hk hi hl
  have hlock := s.clearOut.lockBecomes_fillLooks i c x
  have hdecide := hdec.decideFill (u := s.clearOut.fillLooks i c x) rfl rfl (fun m hm => hlock.2 m hm) i
  let w := ((s.clearOut.fillLooks i c x).decided c.line es declined).toMemWait i
  have hmem : s.TxnBecomes w i (some { y.loadWrite with phase := .memWait }) :=
    State.TxnBecomes.toMemWait (t := (s.clearOut.fillLooks i c x).decided c.line es declined) hy
  have hload : y.loadWrite = y := Txn.loadWrite_of_ne (by rw [hyw]; nofun)
  rw [hload] at hmem
  have hwq : w.Quiet := hq.of_eq (by rw [hmem.2 recallEntry (Ne.symm hi.general)]) rfl rfl hq.channel fun _ => rfl
  rw [hexec, (congrArg State.settle hdecide).trans hwq.settle]
  exact ⟨w, _, rfl, rfl, s.clearOut.setBecomes_putSet c.line es, rfl, rfl, rfl, hmem, hyw, hyl, rfl, hysnap, hlock⟩

/-- R13: with a victim in a full set under DISPLACE the fill asks for its recall. -/
theorem State.decideFill_of_victim {u : State} {i : EntryIx} {l : Line} {a : Attr} {v : DirEntry} {p : EntryPolicy}
    (hno : u.declines l a = false) (hp : a.policy.entryPolicy = some p) (hf : u.findEntry l = none)
    (hfull : ∀ w : Way, ∃ e ∈ u.dirSet l, e.way = w) (hpol : u.pd.admitPolicy = .displace) (hv : u.victim l = some v) :
    u.decideFill i l a = u.askRecall i v := by
  have hhas : ¬ u.hasEntry l = true := by rw [State.hasEntry, hf]; nofun
  rw [State.decideFill, hno, hp]
  refine (if_neg nofun).trans ?_
  dsimp only
  rw [if_neg hhas, freeWay_eq_none hfull, hpol, hv]

/-- Settles O19: with entry 11 free the recall starts and asks for its probe; with it busy the fill waits for it. -/
theorem fullSetStartsADisplacementRecall : Obligations.FullSetStartsADisplacementRecall := by
  intro s c i p v newer older hs hq hw hc hk hi hl hm hquar hp hf hfull hpol hd hset hv ho
  obtain ⟨x, y, hexec, hy, hyw, hyl, hysnap, -⟩ := exec_admissionGrant_of_fill hs hc hk hi hl
  have hlock := s.clearOut.lockBecomes_fillLooks i c x
  have hvline : v.line ≠ c.line := State.line_ne_of_findEntry hf v (by rw [hd]; simp)
  let u := s.clearOut.fillLooks i c x
  have hrecall : ∀ e ∈ s.dirSet c.line, (u.Recallable e ↔ s.Recallable e) := fun e he =>
    State.recallable_congr rfl (hlock.2 e.line (State.line_ne_of_findEntry hf e he))
  have hvictim : u.victim c.line = some v :=
    State.victim_eq_some (s := u) hd ((hrecall v (by rw [hd]; simp)).mpr hv)
      fun e he => mt (hrecall e (by rw [hd]; simp [he])).mp (ho e he)
  have hask : u.decideFill i c.line (s.rm.resolve c.line) = u.askRecall i v :=
    State.decideFill_of_victim (State.declines_eq_false (s := u) hm hw hquar hp) hp hf hfull hpol hvictim
  have hway : s.TxnBecomes (u.setPhase i .wayWait) i (some { y with phase := .wayWait }) := hy.modTxn _
  have hrec11 : (u.setPhase i .wayWait).txn recallEntry = s.txn recallEntry := hway.2 recallEntry (Ne.symm hi.general)
  refine ⟨fun hheld h11 => ?free, fun h11 => ?busy⟩
  case free =>
    have hstart : u.askRecall i v = (u.setPhase i .wayWait).startRecall .displace v.line (some i) :=
      if_pos (by rw [hrec11, h11]; rfl)
    have hnone : (u.setPhase i .wayWait).NoneAttaches v.line := by
      intro c' hc' _ hwb
      cases hc'
      rcases hwb with h | h <;> exact absurd (hk.symm.trans h) nofun
    have hqueue : s.pu.channel ≠ .idle ∨ s.pu.queue = [] := by
      rcases hq.channel with h | h | h
      · exact .inl h
      · rw [hm] at h
        cases h
      · exact .inr h
    obtain ⟨t, z, ht, hframe, htt, hz, hzw, hzl, hzm, hzk, hzlock, hasks⟩ := hnone.settle_startRecall .displace (some i)
      (by show s.msc.mode ≠ .faulted; rw [hm]; nofun) hqueue hheld hq.ports
    have hhp : t.hp = u.hp := (congrArg State.hp hframe).trans rfl
    rw [hexec, ((congrArg State.settle hask).trans (congrArg State.settle hstart)).trans ht]
    refine ⟨t, { y with phase := .wayWait }, z, rfl, hframe.trans (by rw [hhp]; rfl), hhp.trans rfl, htt,
      (hz.2 i hi.general).trans hway.1, hz.1, fun j hj hj11 => (hz.2 j hj11).trans (hway.2 j hj), hyw, hyl, rfl, hzw, hzl, hzm, hzk,
      (hzlock.2 c.line (Ne.symm hvline)).trans hlock.1, hzlock.1, fun l hlc hlv => (hzlock.2 l hlv).trans (hlock.2 l hlc), hasks⟩
  case busy =>
    have hwait : u.askRecall i v = { u.setPhase i .wayWait with
        tt := { (u.setPhase i .wayWait).tt with recallWait := joinTail s.tt.recallWait i } } := by
      have hno : ¬ ((u.setPhase i .wayWait).txn recallEntry).isNone = true := by
        rw [hrec11]
        intro h
        rw [Option.isNone_iff_eq_none.mp h] at h11
        cases h11
      rw [← joinGeneral_of_ne hi.general]
      exact if_neg hno
    have hquiet : State.Quiet { u.setPhase i .wayWait with
        tt := { (u.setPhase i .wayWait).tt with recallWait := joinTail s.tt.recallWait i } } :=
      ⟨.inl (by exact (congrArg Option.isSome hrec11).trans h11), hq.channel, hq.ports, hq.sweep⟩
    rw [hexec, ((congrArg State.settle hask).trans (congrArg State.settle hwait)).trans hquiet.settle]
    exact ⟨_, _, rfl, rfl, rfl, rfl, hway, hyw, hyl, rfl, hysnap, hlock⟩

end Sys2Proof.Machine
end

section
/-! SUPPORT. Completions at the memory port (R128 to R131, R144 to R149, R157 to R160, R110). -/

set_option Elab.async false

namespace Sys2Proof.Machine

/-! ### The end of a transaction -/

theorem State.isSome_modTxn (s : State) (i j : EntryIx) (f : Txn → Txn) : ((s.modTxn i f).txn j).isSome = (s.txn j).isSome := by
  rw [State.txn_modTxn]
  split
  · rename_i h
    rw [h, Option.isSome_map]
  · rfl

/-- R36, R38, R133: a requester transaction, for whose line nothing waits, is answered in a quiet bridge. -/
theorem State.Quiet.settle_endRequester {u : State} (h : u.Quiet) {i : EntryIx} {x : Txn} {p : PortIx} {g : Tag} {l : Line}
    (hi : i ≠ recallEntry) (hx : u.txn i = some x) (hp : x.work.port? = some p) (hg : x.work.tag? = some g)
    (hl : u.HoldsAlone i l) (code : ResultCode) :
    ∃ t, (u.endRequester i l code).settle = t ∧
      t = { u with rp := t.rp, tt := { u.tt with entries := t.tt.entries, locks := t.tt.locks } } ∧ u.TxnBecomes t i none ∧
      u.LockBecomes t l none ∧ u.PortBecomes t p { u.port p with
        responses := (u.port p).responses ++
          [{ tag := g, result := code, data := if code = .ok then x.responseData else .none }] } := by
  let r : Response := { tag := g, result := code, data := if code = .ok then x.responseData else .none }
  have hend : u.endRequester i l code = ((u.placeResponse p r).freeEntry i).dropLock l :=
    h.deaf.endRequester hx hp hg hl code
  have htable : u.TxnBecomes (((u.placeResponse p r).freeEntry i).dropLock l) i none :=
    (u.placeResponse p r).txnBecomes_freeEntry i
  have hport := u.portBecomes_modPort p fun q => { q with responses := q.responses ++ [r] }
  have hq : (((u.placeResponse p r).freeEntry i).dropLock l).Quiet :=
    h.of_eq (by rw [htable.2 recallEntry (Ne.symm hi)]) rfl rfl h.channel (hport.state_eq rfl)
  rw [hend, hq.settle]
  exact ⟨_, rfl, rfl, htable, ((u.placeResponse p r).freeEntry i).lockBecomes_dropLock l, hport⟩

/-- R36, R174: a RECALL, for whose line nothing waits, gives up entry 11 and its line. -/
theorem State.endRecall_eq {s : State} {x : Txn} (hx : s.txn recallEntry = some x) (hw : x.work.isRecall = true)
    (hl : s.HoldsAlone recallEntry x.line) :
    s.endRecall = ((s.freeEntry recallEntry).dropLock x.line).giveEntry11 := by
  have hrelease : (s.freeEntry recallEntry).releaseLock recallEntry x.line = (s.freeEntry recallEntry).dropLock x.line := by
    rw [State.releaseLock, show (s.freeEntry recallEntry).lockOf x.line = _ from hl]
    dsimp only
    rw [if_pos rfl, State.hearRelease, if_pos rfl]
    rfl
  rw [State.endRecall, hx]
  dsimp only
  rw [if_pos hw, hrelease]

/-- R48: with entry 11 free, no sweep running and no fill waiting for it, entry 11 stays free. -/
theorem State.giveEntry11_of_stopped {s : State} (hw : s.msc.sweep.phase = .stopped) (hr : s.tt.recallWait = []) :
    s.giveEntry11 = s := by
  unfold State.giveEntry11
  split
  · rfl
  · rw [hw, hr]
    rfl

/-! ### The completion of a write-back's LINE_WRITE -/

theorem State.attachedEntry_eq_some {s : State} {i : EntryIx} :
    s.attachedEntry = some i ↔ ∃ c, s.hp.cycle = some c ∧ c.standing = .attached i := by
  unfold State.attachedEntry
  rcases hc : s.hp.cycle with _ | c
  · simp
  · cases hst : c.standing <;> simp [hst]

/-- R66, R158: what the last beat of an attached write-back leaves, and that of a cycle that is not attached. -/
theorem State.ackAttached_cases (s : State) (i : EntryIx) (fed : Bool) (hfed : fed = true → ∃ c x, s.Feeds c i x)
    (hnot : fed = false → s.NotAttached i) :
    s.ackAttached i = if fed then (s.emit (.finalAck false)).endCycle else s := by
  cases fed with
  | true =>
    obtain ⟨c, x, hc⟩ := hfed rfl
    exact if_pos (State.attachedEntry_eq_some.mpr ⟨c, hc.cycle, hc.standing⟩)
  | false =>
    refine if_neg fun h => ?_
    obtain ⟨c, hc, hst⟩ := State.attachedEntry_eq_some.mp h
    exact hnot rfl c hc hst

theorem State.NotAttached.ackAttached {s : State} {i : EntryIx} (h : s.NotAttached i) : s.ackAttached i = s :=
  s.ackAttached_cases i false nofun fun _ => h

/-- R159 to R161: a failed request is reported, and one that has not failed is not. -/
theorem State.exists_reportMemory (s : State) (x : Txn) (k : MemKind) (c : Completion) :
    ∃ e, s.reportMemory x k c = { s with ev := e } ∧ (c ≠ .error → e = s.ev) ∧
      (c = .error → s.ev.Reported (x.record k.errorKind) e) := by
  cases c with
  | ok d => exact ⟨s.ev, rfl, fun _ => rfl, nofun⟩
  | error =>
    obtain ⟨e, he, hr⟩ := s.exists_reportError (x.record k.errorKind)
    exact ⟨e, he, fun h => absurd rfl h, fun _ => hr⟩

/-! ### Requester transactions -/

/-- R186: the record of a requester transaction. -/
theorem Txn.record_of_requester {x : Txn} {p : PortIx} {g : Tag} (hp : x.work.port? = some p) (hg : x.work.tag? = some g)
    (k : FaultKind) :
    x.record k = { kind := k, issuer := .rp p, line := x.line, txnKind := x.work.kind, tag := some g } := by
  obtain ⟨-, -, -, hissuer, -, -⟩ := Work.requester_spec hp
  rw [Txn.record, hissuer, hg]

/-- R136, R146: the operation of an R_ATOMIC rewrites the buffer and leaves its old word and outcome. -/
theorem Txn.workOnData_of_atomic {x : Txn} {p : PortIx} {g : Tag} {f : Fin 32} {op : AtomicOp} (hw : x.work = .rAtomic p g f op) :
    x.workOnData = { x with
      buf := (runAtomic op f x.buf).buf, oldValue := some (runAtomic op f x.buf).old,
      outcome := some (runAtomic op f x.buf).outcome } := by
  obtain ⟨work⟩ := x
  obtain rfl : work = _ := hw
  rfl

/-- Settles O34, by what the completion leaves of the transaction and the end of a requester transaction. -/
theorem requesterCompletionsAreAnswered : Obligations.RequesterCompletionsAreAnswered := by
  intro s q rest x d p g hs hq hm hx hi ha hnot hl
  let u : State := { s.clearOut with mp := { s.mp with outstanding := rest } }
  have hu : u.Quiet := hq.of_eq rfl rfl rfl hq.channel fun _ => rfl
  have hfree : ∀ {v : State} {y : Txn}, s.TxnBecomes v q.txn (some y) → ∀ {t}, v.TxnBecomes t q.txn none →
      s.TxnBecomes t q.txn none := fun h _ h' => h.trans h'
  refine ⟨fun hkind => ?ok, fun hkind => ?error, fun f op hw hk hd => ⟨fun hout => ?changed, fun hout => ?unchanged⟩⟩
  case ok =>
    have hend : ∃ v y, exec (.memCompletion (.ok d)) s = .next (v.endRequester q.txn x.line .ok).settle ∧
        v = { u with tt := { u.tt with entries := v.tt.entries } } ∧ u.TxnBecomes v q.txn (some y) ∧
        y.work = x.work ∧ (∀ f n, x.work = .rRead p g f n → y.buf = d) ∧ y.oldValue = x.oldValue := by
      rw [exec_memCompletion_of hs hm hx ha]
      rcases hkind with ⟨f, n, hw, hk⟩ | ⟨m, w, hw, hk⟩ | ⟨f, op, hw, hk⟩ <;> simp only [State.completeTxn, hw, hk]
      · exact ⟨u.modTxn q.txn (Txn.load (.ok d)), _, rfl, rfl, State.txnBecomes_modTxn hx _, hw, fun _ _ _ => rfl, rfl⟩
      · refine ⟨u, x, ?_, rfl, State.txnBecomes_refl hx, hw, nofun, rfl⟩
        rw [State.completeRWrite, State.NotAttached.ackAttached (s := u.reportMemory x .maskedWrite (.ok d)) hnot]
        rfl
      · refine ⟨u, x, ?_, rfl, State.txnBecomes_refl hx, hw, nofun, rfl⟩
        rw [State.completeRAtomic, State.completeRWrite,
          State.NotAttached.ackAttached (s := u.reportMemory x .maskedWrite (.ok d)) hnot]
        rfl
    obtain ⟨v, y, hexec, hv, hy, hyw, hybuf, hyold⟩ := hend
    have hreq : x.work.port? = some p ∧ x.work.tag? = some g := by
      rcases hkind with ⟨f, n, hw, -⟩ | ⟨m, w, hw, -⟩ | ⟨f, op, hw, -⟩ <;> rw [hw] <;> exact ⟨rfl, rfl⟩
    have hvq : v.Quiet := by
      rw [hv]
      exact hu.of_eq (by exact congrArg Option.isSome (hy.2 recallEntry (Ne.symm hi))) rfl rfl hu.channel fun _ => rfl
    have hvl : v.HoldsAlone q.txn x.line := by rw [hv]; exact hl
    obtain ⟨t, ht, hframe, htable, hlock, hport⟩ := hvq.settle_endRequester hi hy.1 (by rw [hyw]; exact hreq.1)
      (by rw [hyw]; exact hreq.2) hvl .ok
    rw [hexec, ht]
    refine ⟨t, y.responseData, rfl, ?_, hfree hy htable, ?_, ?_, fun f n hw => ?_, fun m w hw => ?_, fun f op w hw hold => ?_⟩
    · exact hframe.trans (by rw [hv]; rfl)
    · rw [hv] at hlock
      exact hlock
    · rw [hv] at hport
      exact hport
    · rw [Txn.responseData, hyw, hw, hybuf f n hw]
      rfl
    · rw [Txn.responseData, hyw, hw]
    · rw [Txn.responseData, hyw, hw, hyold, hold]
  case error =>
    obtain ⟨e, he, -, hrep⟩ := u.exists_reportMemory x q.kind .error
    have hend : ∃ v, exec (.memCompletion .error) s = .next (v.endRequester q.txn x.line .memError).settle ∧
        v = { u with tt := { u.tt with entries := v.tt.entries }, ev := e } ∧ u.TxnBecomes v q.txn (some x) := by
      rw [exec_memCompletion_of hs hm hx ha]
      have hnot' : State.NotAttached { u with ev := e } q.txn := hnot
      rcases hkind with ⟨f, n, hw, hk⟩ | ⟨m, w, hw, hk⟩ | ⟨f, op, hw, hk | hk⟩ <;> rw [hk] at he <;>
        simp only [State.completeTxn, hw, hk]
      · rw [show u.reportMemory x .lineRead .error = _ from he]
        exact ⟨_, rfl, rfl, State.txnBecomes_modTxn (s := { u with ev := e }) hx (Txn.load .error)⟩
      · rw [show u.reportMemory x .maskedWrite .error = _ from he, State.completeRWrite, hnot'.ackAttached]
        exact ⟨_, rfl, rfl, State.txnBecomes_refl hx⟩
      · rw [show u.reportMemory x .lineRead .error = _ from he]
        exact ⟨_, rfl, rfl, State.txnBecomes_refl hx⟩
      · rw [show u.reportMemory x .maskedWrite .error = _ from he, State.completeRAtomic, State.completeRWrite,
          hnot'.ackAttached]
        exact ⟨_, rfl, rfl, State.txnBecomes_refl hx⟩
    obtain ⟨v, hexec, hv, hy⟩ := hend
    have hreq : x.work.port? = some p ∧ x.work.tag? = some g := by
      rcases hkind with ⟨f, n, hw, -⟩ | ⟨m, w, hw, -⟩ | ⟨f, op, hw, -⟩ <;> rw [hw] <;> exact ⟨rfl, rfl⟩
    have hvq : v.Quiet := by
      rw [hv]
      exact hu.of_eq (by exact congrArg Option.isSome (hy.2 recallEntry (Ne.symm hi))) rfl rfl hu.channel fun _ => rfl
    have hvl : v.HoldsAlone q.txn x.line := by rw [hv]; exact hl
    obtain ⟨t, ht, hframe, htable, hlock, hport⟩ := hvq.settle_endRequester hi hy.1 hreq.1 hreq.2 hvl .memError
    have hev : t.ev = e := by rw [hframe, hv]
    have hkindError : q.kind.errorKind = if q.kind = .lineRead then .memReadErr else .memWriteErr := by cases q.kind <;> rfl
    rw [hexec, ht]
    refine ⟨t, rfl, ?_, hfree hy htable, ?_, ?_, ?_⟩
    · exact hframe.trans (by rw [hev, hv]; rfl)
    · rw [hv] at hlock
      exact hlock
    · rw [hv] at hport
      exact hport
    · rw [hev, ← hkindError, ← Txn.record_of_requester hreq.1 hreq.2]
      exact hrep rfl
  case changed =>
    let y : Txn := { x with
      buf := (runAtomic op f d).buf, mask := fullMask, oldValue := some (runAtomic op f d).old,
      outcome := some (runAtomic op f d).outcome }
    have hy : (x.load (.ok d)).workOnData = y := by
      exact Txn.workOnData_of_atomic (x := x.load (.ok d)) hw
    have hbecomes : s.TxnBecomes (u.modTxn q.txn fun t => (t.load (.ok d)).workOnData) q.txn (some y) := by
      rw [← hy]
      exact State.txnBecomes_modTxn (s := u) hx fun t => (t.load (.ok d)).workOnData
    have hload : y.loadWrite = y := Txn.loadWrite_of_ne (by show x.work.kind ≠ _; rw [hw]; nofun)
    have hmem := hbecomes.toMemWait
    rw [hload] at hmem
    have hcomplete : u.completeTxn q.txn x q.kind (.ok d) =
        (u.modTxn q.txn fun t => (t.load (.ok d)).workOnData).toMemWait q.txn := by
      simp only [State.completeTxn, hw, hk]
      refine if_pos ?_
      rw [show (State.modTxn q.txn (fun t => (t.load (.ok d)).workOnData) (u.reportMemory x .lineRead (.ok d))).txn q.txn = some y
        from hbecomes.1]
      show (some (runAtomic op f d).outcome == some .changed) = true
      rw [hout]
      rfl
    have hquiet : ((u.modTxn q.txn fun t => (t.load (.ok d)).workOnData).toMemWait q.txn).Quiet :=
      hq.of_eq (by rw [hmem.2 recallEntry (Ne.symm hi)]) rfl rfl hq.channel fun _ => rfl
    rw [exec_memCompletion_of hs hm hx ha]
    refine ⟨_, congrArg _ ((congrArg State.settle hcomplete).trans hquiet.settle), rfl, ?_⟩
    rw [← hout]
    exact hmem
  case unchanged =>
    let y : Txn := { x with
      buf := (runAtomic op f d).buf, mask := fullMask, oldValue := some (runAtomic op f d).old,
      outcome := some (runAtomic op f d).outcome }
    have hy : (x.load (.ok d)).workOnData = y := by
      exact Txn.workOnData_of_atomic (x := x.load (.ok d)) hw
    let v := u.modTxn q.txn fun t => (t.load (.ok d)).workOnData
    have hbecomes : s.TxnBecomes v q.txn (some y) := by
      rw [← hy]
      exact State.txnBecomes_modTxn (s := u) hx fun t => (t.load (.ok d)).workOnData
    have hcomplete : u.completeTxn q.txn x q.kind (.ok d) = v.endRequester q.txn x.line .ok := by
      simp only [State.completeTxn, hw, hk]
      refine if_neg ?_
      rw [show (State.modTxn q.txn (fun t => (t.load (.ok d)).workOnData) (u.reportMemory x .lineRead (.ok d))).txn q.txn = some y
        from hbecomes.1]
      show ¬ (some (runAtomic op f d).outcome == some .changed) = true
      rw [hout]
      nofun
    have hvq : v.Quiet := hq.of_eq (by rw [hbecomes.2 recallEntry (Ne.symm hi)]) rfl rfl hq.channel fun _ => rfl
    obtain ⟨t, ht, hframe, htable, hlock, hport⟩ := hvq.settle_endRequester (x := y) (p := p) (g := g) hi hbecomes.1
      (by show x.work.port? = _; rw [hw]; rfl) (by show x.work.tag? = _; rw [hw]; rfl) hl .ok
    have hdata : y.responseData = .old (runAtomic op f d).old := by
      unfold Txn.responseData
      simp only [y, hw]
    rw [if_pos rfl, hdata] at hport
    rw [exec_memCompletion_of hs hm hx ha]
    exact ⟨t, congrArg _ ((congrArg State.settle hcomplete).trans ht), hframe, hbecomes.trans htable, hlock, hport⟩

end Sys2Proof.Machine
end

section
/-! SUPPORT. The end of a write-back's cycle, and the completions of host work (R65, R66, R97, R110, R157 to R160). -/

set_option Elab.async false

namespace Sys2Proof.Machine

/-! ### The completion of a write-back's LINE_WRITE -/

/-- R66, R95: what an attached write-back's cycle leaves as it ends, and what stays with no cycle attached. -/
theorem State.exists_ackAttached (u : State) {i : EntryIx} {x : Txn} (fed : Bool) (hx : u.txn i = some x)
    (hfed : fed = true → ∃ c, u.Feeds c i x) (hnot : fed = false → u.NotAttached i) :
    ∃ v y, u.ackAttached i = v ∧
      v = { u with
        hp := { u.hp with cycle := if fed then none else u.hp.cycle }
        tt := { u.tt with entries := v.tt.entries }
        out := if fed then u.out ++ [.finalAck false] else u.out } ∧
      v.txn i = some y ∧ y.work = x.work ∧ y.responseData = x.responseData ∧ y.line = x.line ∧
      (∀ j, (v.txn j).isSome = (u.txn j).isSome) ∧
      ∀ t, v.TxnBecomes t i none → if fed then u.TxnBecomesBusEmpty t i none else u.TxnBecomes t i none := by
  have hack := u.ackAttached_cases i fed (fun h => (hfed h).imp fun _ h => ⟨x, h⟩) hnot
  cases fed with
  | false => exact ⟨u, x, hack, rfl, hx, rfl, rfl, rfl, fun _ => rfl, fun t ht => ht⟩
  | true =>
    have hend := fun j => (u.emit (.finalAck false)).txn_endCycle_eq j
    refine ⟨(u.emit (.finalAck false)).endCycle, x.timerStarted u.pu.wbLimit.toNat, hack, rfl, ?_, rfl, rfl, rfl,
      fun j => ?_, fun t ht => ⟨ht.1, fun j hj => (ht.2 j hj).trans (hend j)⟩⟩
    · rw [hend i, show (u.emit (.finalAck false)).txn i = some x from hx]
      rfl
    · rw [hend j, Option.isSome_map]
      rfl

/-- R131, R146, R160: a requester transaction whose write-back data is in memory is answered; only an R_READ is answered OK
whatever became of the write. -/
theorem State.completeTxn_of_lineWrite {x : Txn} {p : PortIx} (hp : x.work.port? = some p) (i : EntryIx) (k : Completion)
    (s : State) :
    s.completeTxn i x .lineWrite k = ((s.reportMemory x .lineWrite k).ackAttached i).endRequester i x.line
      (if k ≠ .error ∨ x.work.kind = .rRead then .ok else .memError) := by
  have hcode : completionCode k = if k ≠ .error then .ok else .memError := by cases k <;> rfl
  cases hw : x.work with
  | rRead p' g f n =>
    simp only [State.completeTxn, hw, State.completeRRead]
    rw [if_pos (.inr rfl)]
  | rWrite p' g m d =>
    simp only [State.completeTxn, hw, State.completeRWrite, hcode]
    simp [Work.kind]
  | rAtomic p' g f op =>
    simp only [State.completeTxn, hw, State.completeRAtomic, State.completeRWrite, hcode]
    simp [Work.kind]
  | _ =>
    rw [hw] at hp
    cases hp

theorem Work.exists_of_isRecall {w : Work} (h : w.isRecall = true) : ∃ b, w = .recall b :=
  match w, h with
  | .recall b, _ => ⟨b, rfl⟩

/-- Settles O35, by the end of the cycle and then that of the transaction. -/
theorem writebackCompletionsEndTheirCycle : Obligations.WritebackCompletionsEndTheirCycle := by
  intro s q rest x k fed hs hq hm hkind hx ha hl hfed hnot
  let u : State := { s.clearOut with mp := { s.mp with outstanding := rest } }
  obtain ⟨e, he, hok, herr⟩ := u.exists_reportMemory x .lineWrite k
  obtain ⟨v, y, hack, hv, hy, hwork, hdata, hline, hsome, hcome⟩ := State.exists_ackAttached { u with ev := e } fed hx
    (fun h => (hfed h).imp fun _ h => ⟨h.1, h.2, h.3⟩) hnot
  have hvl : v.HoldsAlone q.txn x.line := by rw [hv]; exact hl
  have hvq : v.Quiet := hq.of_eq (hsome recallEntry) (by rw [hv]; rfl) (by rw [hv]; rfl)
    (by rw [hv]; exact hq.channel) fun _ => by rw [hv]; rfl
  rw [exec_memCompletion_of hs hm hx ha, hkind]
  refine ⟨fun p g hi hp hg => ?_, fun hi hrec hsweep hwait => ?_⟩
  · obtain ⟨code, hcode⟩ : ∃ c : ResultCode, c = if k ≠ .error ∨ x.work.kind = .rRead then .ok else .memError := ⟨_, rfl⟩
    obtain ⟨t, ht, hframe, htable, hlock, hport⟩ := hvq.settle_endRequester hi hy (by rw [hwork]; exact hp)
      (by rw [hwork]; exact hg) hvl code
    have hev : t.ev = e := by rw [hframe, hv]
    rw [State.completeTxn_of_lineWrite hp, ← hcode, show u.reportMemory x .lineWrite k = _ from he, hack, ht]
    rw [hdata] at hport
    refine ⟨t, code, if code = .ok then x.responseData else .none, rfl, hframe.trans (by rw [hev, hv]; rfl), hcome t htable,
      ?_, ?_, rfl, fun f n hw => ?_,
      fun m w hw => ?_, fun f op w hw hold => ?_, fun h => hev.trans (hok h), fun h => ?_⟩
    · rw [hv] at hlock
      exact hlock
    · rw [hv] at hport
      exact hport
    · rw [if_pos (hcode.trans (if_pos (.inr (by rw [hw]; rfl)))), Txn.responseData, hw]
      rfl
    · rw [Txn.responseData, hw]
      exact ite_self _
    · rw [hcode, Txn.responseData, hw, hold]
      cases k <;> rfl
    · rw [hev, ← Txn.record_of_requester hp hg]
      exact herr h
  · have hvsweep : v.msc.sweep.phase = .stopped := by rw [hv]; exact hsweep
    have hvwait : v.tt.recallWait = [] := by rw [hv]; exact hwait
    rw [hi] at hy hvl hcome
    have hend : v.endRecall = (v.freeEntry recallEntry).dropLock x.line := by
      rw [State.endRecall_eq hy (by rw [hwork]; exact hrec) (by rw [hline]; exact hvl), hline]
      exact State.giveEntry11_of_stopped hvsweep hvwait
    have hquiet : ((v.freeEntry recallEntry).dropLock x.line).Quiet :=
      ⟨.inr ⟨hvsweep, hvwait⟩, hvq.channel, hvq.ports, hvq.sweep⟩
    obtain ⟨b, hw⟩ := Work.exists_of_isRecall hrec
    have hcomplete : u.completeTxn q.txn x .lineWrite k = v.endRecall := by
      rw [← hack, ← he]
      simp only [State.completeTxn, hw]
    have hfree : v.TxnBecomes ((v.freeEntry recallEntry).dropLock x.line) recallEntry none := v.txnBecomes_freeEntry recallEntry
    have hlock := (v.freeEntry recallEntry).lockBecomes_dropLock x.line
    have hrecord : x.record .memWriteErr =
        { kind := .memWriteErr, issuer := .internal, line := x.line, txnKind := .recall, tag := none } := by
      rw [Txn.record, hw]
      rfl
    rw [hcomplete, hend, hquiet.settle, hi]
    obtain ⟨t, ht⟩ : ∃ t, t = (v.freeEntry recallEntry).dropLock x.line := ⟨_, rfl⟩
    have hframe : t = { v with tt := { v.tt with entries := t.tt.entries, locks := t.tt.locks } } := by rw [ht]; rfl
    have hev : t.ev = e := by rw [hframe, hv]
    rw [← ht] at hfree hlock ⊢
    refine ⟨t, rfl, hframe.trans (by rw [hev, hv]; rfl), hcome t hfree, ?_, fun h => hev.trans (hok h), fun h => ?_⟩
    · rw [hv] at hlock
      exact hlock
    · rw [hev, ← hrecord]
      exact herr h


/-! ### The host lock set given up -/

/-- R44: a line of the host lock set for which nothing waits is unlocked. -/
theorem State.Deaf.giveUpLine {s : State} (h : s.Deaf) {l : Line}
    (hl : s.lockOf l = some { line := l, holder := .hostSet, waiters := [] }) : s.giveUpLine l = s.dropLock l := by
  rw [State.giveUpLine, hl]
  dsimp only
  rw [if_pos rfl, h.wakeSweep]
  rfl

/-- R44, R110: lines of the host lock set for which nothing waits are unlocked one after another. -/
theorem State.Deaf.exists_giveUpLines {s : State} (h : s.Deaf) (ls : List Line) (hnodup : ls.Nodup)
    (hl : ∀ l ∈ ls, s.lockOf l = some { line := l, holder := .hostSet, waiters := [] }) :
    ∃ t, ls.foldl State.giveUpLine s = t ∧ t = { s with tt := { s.tt with locks := t.tt.locks } } ∧
      ∀ l, t.lockOf l = if l ∈ ls then none else s.lockOf l := by
  induction ls generalizing s with
  | nil => exact ⟨s, rfl, rfl, fun l => (if_neg List.not_mem_nil).symm⟩
  | cons m ls ih =>
    obtain ⟨hm, hnodup'⟩ := List.nodup_cons.mp hnodup
    have hne : ∀ l ∈ ls, l ≠ m := fun l hl' he => hm (he ▸ hl')
    obtain ⟨t, ht, hframe, hlock⟩ := ih (s := s.dropLock m) h hnodup'
      fun l hl' => by rw [s.lockOf_dropLock_ne (hne l hl')]; exact hl l (List.mem_cons_of_mem m hl')
    refine ⟨t, ?_, hframe, fun l => ?_⟩
    · rw [List.foldl_cons, h.giveUpLine (hl m List.mem_cons_self), ht]
    · rw [hlock l]
      by_cases he : l = m
      · rw [he, if_neg hm, s.lockOf_dropLock_self, if_pos List.mem_cons_self]
      · rw [s.lockOf_dropLock_ne he]
        simp [he]

/-- R110, R111: the host lock set is given up: its lines are unlocked, its timer stops and the last locked kind is forgotten. -/
theorem State.Deaf.exists_giveUpLockSet {s : State} (h : s.Deaf) (hnodup : s.hp.lockSet.Nodup)
    (hl : ∀ l ∈ s.hp.lockSet, s.lockOf l = some { line := l, holder := .hostSet, waiters := [] }) :
    ∃ t, s.giveUpLockSet = t ∧
      t = { s with
        tt := { s.tt with locks := t.tt.locks }
        hp := { s.hp with lockSet := [], lockTimer := none, lastLocked := none } } ∧
      ∀ l, t.lockOf l = if l ∈ s.hp.lockSet then none else s.lockOf l := by
  obtain ⟨t, ht, hframe, hlock⟩ := State.Deaf.exists_giveUpLines (s := s.emptyLockSet) h s.hp.lockSet hnodup hl
  exact ⟨t, ht, hframe, hlock⟩

/-! ### Host completions -/

/-- R186: the record of a host transaction. -/
theorem Txn.record_of_host {x : Txn} (hk : x.work.isHost = true) (k : FaultKind) :
    x.record k = { kind := k, issuer := .hp, line := x.line, txnKind := x.work.kind, tag := none } := by
  rw [Txn.record]
  cases hw : x.work with
  | hRead _ _ | hWrite _ _ | hFill _ | hEvict _ | hLread _ _ | hLwrite _ _ _ => rfl
  | _ => rw [hw] at hk; cases hk

/-- R97, R110, R158: the final acknowledgment of a host write kind, what an eviction's counts, and what END gives up. -/
theorem State.completeTxn_of_hostWrite {x : Txn} (hk : x.work.kind = .hWrite ∨ x.work.kind = .hEvict ∨ x.work.kind = .hLwrite)
    (i : EntryIx) {m : MemKind} (hm : m ≠ .lineRead) (k : Completion) {r : ResultCode}
    (hr : r = if x.work.kind = .hEvict then .ok else completionCode k) (s : State) :
    ∃ v, v = (s.reportMemory x .lineWrite k).giveFinalAck i r ∧
      (x.work.kind = .hEvict → s.completeTxn i x m k = v.countBeat) ∧
      ((∃ b m, x.work = .hLwrite b m true) → s.completeTxn i x m k = v.giveUpLockSet) ∧
      (x.work.kind ≠ .hEvict → (∀ b m, x.work ≠ .hLwrite b m true) → s.completeTxn i x m k = v) := by
  refine ⟨_, rfl, ?_⟩
  have hreport : s.reportMemory x .lineWrite k = s.reportMemory x m k := by
    cases m with
    | lineRead => exact absurd rfl hm
    | lineWrite | maskedWrite => rfl
  rw [hreport]
  cases hw : x.work with
  | hWrite b n =>
    rw [hw] at hr
    refine ⟨nofun, nofun, fun _ _ => ?_⟩
    simp only [State.completeTxn, hw]
    rw [hr]
    rfl
  | hEvict b =>
    rw [hw] at hr
    refine ⟨fun _ => ?_, nofun, fun h => absurd rfl h⟩
    simp only [State.completeTxn, hw]
    rw [hr]
    rfl
  | hLwrite b n endMark =>
    rw [hw] at hr
    refine ⟨nofun, fun ⟨b', n', h⟩ => ?_, fun _ h => ?_⟩ <;> simp only [State.completeTxn, hw, State.completeLwrite]
    · rw [(Work.hLwrite.inj h).2.2, hr]
      rfl
    · rw [show endMark = false from Bool.eq_false_iff.mpr fun he => h b n (by rw [he]), hr]
      rfl
  | _ => rw [hw] at hk; simp [Work.kind] at hk

/-- R158, R159: a host read kind goes to DATA_OUT with its result. -/
theorem State.completeTxn_of_hostRead {x : Txn} (hk : x.work.kind = .hRead ∨ x.work.kind = .hFill ∨ x.work.kind = .hLread)
    (i : EntryIx) (k : Completion) (s : State) :
    s.completeTxn i x .lineRead k = (s.reportMemory x .lineRead k).completeHostRead i k := by
  cases hw : x.work with
  | hRead _ _ | hFill _ | hLread _ _ => simp only [State.completeTxn, hw]
  | _ => rw [hw] at hk; simp [Work.kind] at hk

theorem Work.isHost_of_kind {w : Work} (h : w.kind ∈ [.hRead, .hFill, .hLread, .hWrite, .hEvict, .hLwrite]) :
    w.isHost = true := by
  cases w with
  | hRead _ _ | hWrite _ _ | hFill _ | hEvict _ | hLread _ _ | hLwrite _ _ _ => rfl
  | _ => simp [Work.kind] at h

/-- Settles O33, by what each kind of completion leaves. -/
theorem hostCompletionsReachDataOut : Obligations.HostCompletionsReachDataOut := by
  intro s q rest x d hs hq hm hx ha
  let u : State := { s.clearOut with mp := { s.mp with outstanding := rest } }
  have hsome : ∀ (e : EventUnit) (f : Txn → Txn), (({ u with ev := e } : State).modTxn q.txn f).Quiet := fun e f =>
    hq.of_eq (State.isSome_modTxn _ _ _ _) rfl rfl hq.channel fun _ => rfl
  have hcome : ∀ (e : EventUnit) (f : Txn → Txn), s.TxnBecomes (({ u with ev := e } : State).modTxn q.txn f) q.txn (some (f x)) :=
    fun e f => State.txnBecomes_modTxn (s := { u with ev := e }) hx f
  refine ⟨fun hkind hk => ⟨?ok, ?error⟩, fun hkind hk hset k r hkr => ?write⟩
  case ok =>
    rw [exec_memCompletion_of hs hm hx ha, hkind, State.completeTxn_of_hostRead hk]
    exact ⟨_, congrArg _ (hsome s.ev _).settle, rfl, hcome s.ev _⟩
  case error =>
    obtain ⟨e, he, -, hrep⟩ := u.exists_reportMemory x .lineRead .error
    have hhost := Work.isHost_of_kind (w := x.work) (by rcases hk with h | h | h <;> rw [h] <;> decide)
    rw [exec_memCompletion_of hs hm hx ha, hkind, State.completeTxn_of_hostRead hk, show u.reportMemory x .lineRead .error = _ from he]
    refine ⟨_, congrArg _ (hsome e _).settle, rfl, hcome e _, ?_⟩
    rw [← Txn.record_of_host hhost]
    exact hrep rfl
  case write =>
    obtain ⟨e, he, hok, herr⟩ := u.exists_reportMemory x .lineWrite k
    have hhost := Work.isHost_of_kind (w := x.work) (by rcases hk with h | h | h <;> rw [h] <;> decide)
    have hr : r = if x.work.kind = .hEvict then .ok else completionCode k := by
      rcases hkr with ⟨d, rfl, rfl⟩ | ⟨rfl, rfl⟩
      · exact (ite_self _).symm
      · rfl
    have hrep : k = .error → s.ev.Reported
        { kind := .memWriteErr, issuer := .hp, line := x.line, txnKind := x.work.kind, tag := none } e := by
      rw [← Txn.record_of_host hhost]
      exact herr
    obtain ⟨v, hv, hevict, hend, hplain⟩ := u.completeTxn_of_hostWrite hk q.txn hkind k hr
    rw [show u.reportMemory x .lineWrite k = _ from he] at hv
    have hvq : v.Quiet := by
      rw [hv]
      exact hq.of_eq (State.isSome_modTxn _ _ _ _) rfl rfl hq.channel fun _ => rfl
    have hvx : s.TxnBecomes v q.txn (some { x with phase := .dataOut, result := some r }) := hv ▸ hcome e _
    rw [exec_memCompletion_of hs hm hx ha]
    by_cases hke : x.work.kind = .hEvict
    · have hnot : ∀ b m, x.work ≠ .hLwrite b m true := fun b m h => by rw [h] at hke; cases hke
      rw [show u.completeTxn q.txn x q.kind k = _ from hevict hke,
        State.Quiet.settle (s := v.countBeat) (hvq.of_eq rfl rfl rfl hvq.channel fun _ => rfl)]
      refine ⟨v.countBeat, rfl, ?_, hvx, ?_, ?_, fun _ => ⟨?_, ?_⟩, fun b m h => absurd h (hnot b m)⟩
      · rw [hv]; rfl
      · rw [hv]; exact hok
      · rw [hv]; exact hrep
      · rw [hv]; rfl
      · rw [if_pos hke, hv]; rfl
    · by_cases hwe : ∃ b m, x.work = .hLwrite b m true
      · obtain ⟨b, m, hw⟩ := hwe
        have hvset : v.hp = s.hp := by rw [hv]; rfl
        have hvlock : v.tt.locks = s.tt.locks := by rw [hv]; rfl
        have hsame : ∀ l, v.lockOf l = s.lockOf l := fun l => by rw [State.lockOf, hvlock]; rfl
        obtain ⟨hnodup, hlines⟩ := hset b m hw
        obtain ⟨t, ht, hframe, hlock⟩ := hvq.deaf.exists_giveUpLockSet (by rw [hvset]; exact hnodup)
          (by rw [hvset]; exact fun l hl => (hsame l).trans (hlines l hl))
        have hev : t.ev = e := by rw [hframe, hv]; rfl
        have hent : t.tt.entries = v.tt.entries := (congrArg (fun u : State => u.tt.entries) hframe).trans rfl
        have hhp : t.hp = { s.hp with lockSet := [], lockTimer := none, lastLocked := none } := by rw [hframe, hv]; rfl
        have htq : t.Quiet := by
          rw [hframe]
          exact hvq.of_eq rfl rfl rfl hvq.channel fun _ => rfl
        rw [show u.completeTxn q.txn x q.kind k = _ from (hend ⟨b, m, hw⟩).trans ht, htq.settle]
        refine ⟨t, rfl, ?_, ?_, ?_, ?_, fun h => absurd hw (h b m), fun _ _ _ => ⟨?_, fun l => ?_⟩⟩
        · exact hframe.trans (by rw [hev, hent, hhp, hv]; rfl)
        · rw [hframe]; exact hvx
        · rw [hev]; exact hok
        · rw [hev]; exact hrep
        · exact hhp
        · rw [hlock l, hvset, hsame l]
      · have hnot : ∀ b m, x.work ≠ .hLwrite b m true := fun b m h => hwe ⟨b, m, h⟩
        rw [show u.completeTxn q.txn x q.kind k = _ from hplain hke hnot, hvq.settle]
        refine ⟨v, rfl, ?_, hvx, ?_, ?_, fun _ => ⟨?_, ?_⟩, fun b m h => absurd h (hnot b m)⟩
        · rw [hv]; rfl
        · rw [hv]; exact hok
        · rw [hv]; exact hrep
        · rw [hv]; rfl
        · rw [if_neg hke, hv]; rfl

end Sys2Proof.Machine
end

section
/-! SUPPORT. What an answer does to its transaction (R60 to R62, R64, R65, R68, R70, R75, R115). -/

set_option Elab.async false

namespace Sys2Proof.Machine

/-- An entry that stays occupied leaves the same entries free. -/
theorem State.TxnBecomes.isSome_eq {s t : State} {i : EntryIx} {x y : Txn} (h : s.TxnBecomes t i (some y))
    (hx : s.txn i = some x) (j : EntryIx) : (t.txn j).isSome = (s.txn j).isSome := by
  by_cases hj : j = i
  · rw [hj, h.1, hx]
    rfl
  · rw [h.2 j hj]

/-! ### Data taken -/

/-- R64, R65: the write-back data of a requester transaction, or of a RECALL that names no fill, has been taken. -/
theorem State.Deaf.exists_dataTaken {s : State} (h : s.Deaf) {i : EntryIx} {x : Txn} (hx : s.txn i = some x)
    (hi : i ≠ recallEntry ∨ x.link = none) :
    ∃ t y, s.dataTaken i = t ∧
      t = { s with
        pd := t.pd
        tt := { s.tt with entries := t.tt.entries }
        mp := { s.mp with waiting := joinTail s.mp.waiting i } } ∧
      s.TxnBecomes t i (some y) ∧ (x.mask = BitVec.allOnes 32 → x.wbData = true → x.TookData y x.buf) ∧
      (x.probeMode = some .invalidate →
        s.SetBecomes t (setOf x.line) ((s.dirSet x.line).filter fun e => e.line != x.line)) ∧
      (x.probeMode ≠ some .invalidate → t.pd = s.pd) := by
  have hlink : i ≠ recallEntry ∨ s.recallLink = none := hi.elim .inl fun hl => by
    by_cases he : i = recallEntry
    · exact .inr (by rw [State.recallLink, ← he, hx]; exact hl)
    · exact .inl he
  rw [h.dataTaken hx hlink]
  by_cases hmode : x.probeMode = some .invalidate
  · rw [if_pos hmode, State.dropEntry_eq]
    exact ⟨_, _, rfl, rfl, (State.txnBecomes_modTxn (s := s.putSet x.line _) hx _).toMemWait, Txn.tookData,
      fun _ => s.setBecomes_putSet x.line _, fun hn => absurd hmode hn⟩
  · rw [if_neg hmode]
    exact ⟨_, _, rfl, rfl, (State.txnBecomes_modTxn hx _).toMemWait, Txn.tookData, fun hn => absurd hn hmode, fun _ => rfl⟩

/-! ### The answers that carry no data -/

/-- R60: a requester transaction goes to memory. -/
theorem State.goOnWithoutData_of_requester {s : State} {i : EntryIx} {x : Txn} (hx : s.txn i = some x)
    (hr : x.work.isRecall = false) : s.goOnWithoutData i = s.toMemWait i := by
  rw [State.goOnWithoutData, hx]
  exact if_neg (by rw [hr]; nofun)

/-- R60, R61: the answers MISS and CLEAN, for a requester transaction. -/
theorem State.Deaf.afterMiss {s : State} (h : s.Deaf) {i : EntryIx} {x : Txn} (hx : s.txn i = some x)
    (hi : i ≠ recallEntry) (hr : x.work.isRecall = false) (remove : Bool) :
    s.afterMiss i remove = (if remove then s.dropEntry x.line else s).toMemWait i := by
  rw [State.afterMiss, hx]
  dsimp only
  cases remove with
  | true =>
    rw [if_pos rfl, if_pos rfl, h.removeProbed (.inl hi)]
    exact State.goOnWithoutData_of_requester (by rw [State.dropEntry_eq]; exact hx) hr
  | false => exact State.goOnWithoutData_of_requester hx hr

/-- R60, R61: an answer that is not DIRTY, with no write-back attached, removes the entry as the answer and the mode ask. -/
theorem State.actOnAnswer_of_notAttached {s : State} {i : EntryIx} {x : Txn} (hx : s.txn i = some x) (hd : x.wbData = false)
    (hnot : s.NotAttached i) {c : Instr} {a : Answer}
    (hc : (c, a) ∈ [(Instr.probeAnswerMiss, Answer.miss), (.probeAnswerClean, .clean)]) :
    s.actOnAnswer i a = s.afterMiss i (a == .miss || x.probeMode == some .invalidate) := by
  have hatt : ¬ (x.wbData || s.attachedEntry == some i) = true := by
    rw [hd, Bool.false_or, beq_iff_eq, State.attachedEntry_eq_some]
    exact fun ⟨c, hc, hst⟩ => hnot c hc hst
  rw [State.actOnAnswer, hx]
  dsimp only
  rw [if_neg hatt]
  simp only [List.mem_cons, Prod.mk.injEq, List.not_mem_nil, or_false] at hc
  rcases hc with ⟨-, rfl⟩ | ⟨-, rfl⟩ <;> rfl

/-- R68: with a write-back attached an answer is taken as DIRTY with its data. -/
theorem State.actOnAnswer_of_feeds {s : State} {i : EntryIx} {x : Txn} {c : Cycle} (h : s.Feeds c i x) (a : Answer) :
    s.actOnAnswer i a = (if a = .dirty then s.bump .probesDirty else s).afterBeats i := by
  rw [State.actOnAnswer, h.txn]
  exact if_pos (by rw [Bool.or_eq_true, beq_iff_eq, State.attachedEntry_eq_some]; exact .inr ⟨c, h.cycle, h.standing⟩)

/-- R64, R67, R68: complete data is taken at once in WB_WAIT, and in PROBING once the answer is there. -/
theorem State.afterBeats_eq {s : State} {i : EntryIx} {x : Txn} (hx : s.txn i = some x) :
    s.afterBeats i = if x.wbData = true ∧ (x.phase = .wbWait ∨ (x.phase = .probing ∧ x.answer.isSome = true))
      then s.dataTaken i else s := by
  rw [State.afterBeats, hx]

/-- Settles O22, without a write-back attached and with one. -/
theorem missAndCleanSettleTheEntry : Obligations.MissAndCleanSettleTheEntry := by
  refine ⟨fun s i x hs hq hp hi hr hnot c a hc => ?alone, fun s i x c hs hq hf hch hqueue hphase hkind k a hk => ?attached⟩
  case alone =>
    let u : State := (s.clearOut.setChannel .idle).modTxn i fun t => { t with answer := some a }
    have hux : s.TxnBecomes u i (some { x with answer := some a }) :=
      State.txnBecomes_modTxn (s := s.clearOut.setChannel .idle) hp.txn _
    have hdeaf : u.Deaf := hq.deaf
    have hmiss := hdeaf.afterMiss hux.1 hi hr (a == .miss || x.probeMode == some .invalidate)
    have hremove : (a == .miss || x.probeMode == some .invalidate) = true ↔ a = .miss ∨ x.probeMode = some .invalidate := by
      simp
    rw [exec_answer_of hs hp.channel (List.mem_append_left [(.probeAnswerDirty, .dirty)] hc),
      State.actOnAnswer_of_notAttached hux.1 hp.data hnot hc, hmiss]
    obtain ⟨v, hv, hvframe, hset, hsame⟩ : ∃ v,
        v = (if (a == .miss || x.probeMode == some .invalidate) = true then u.dropEntry x.line else u) ∧
        v = { u with pd := v.pd } ∧
        ((a = .miss ∨ x.probeMode = some .invalidate) →
          s.SetBecomes v (setOf x.line) ((s.dirSet x.line).filter fun e => e.line != x.line)) ∧
        (a = .clean → x.probeMode ≠ some .invalidate → v.pd = s.pd) := by
      refine ⟨_, rfl, ?_⟩
      by_cases h : (a == .miss || x.probeMode == some .invalidate) = true
      · rw [if_pos h, State.dropEntry_eq]
        refine ⟨rfl, fun _ => s.setBecomes_putSet x.line _, fun h1 h2 => ?_⟩
        rcases hremove.mp h with h | h
        · rw [h1] at h; cases h
        · exact absurd h h2
      · rw [if_neg h]
        exact ⟨rfl, fun h' => absurd (hremove.mpr h') h, fun _ _ => rfl⟩
    rw [← hv]
    have hvx : s.TxnBecomes v i (some { x with answer := some a }) := by rw [hvframe]; exact hux
    have hquiet : (v.toMemWait i).Quiet := by
      refine hq.of_eq (congrArg Option.isSome (hvx.toMemWait.2 recallEntry (Ne.symm hi))) ?_ ?_ ?_ fun p => ?_ <;> rw [hvframe]
      · rfl
      · rfl
      · exact .inr (.inr hp.queue)
      · rfl
    rw [hquiet.settle]
    refine ⟨_, _, rfl, ?_, hvx.toMemWait, Txn.enteredMemWait (x := { x with answer := some a }) hp.data, hset, hsame⟩
    rw [hvframe]
    rfl
  case attached =>
    obtain ⟨v, hv, hvframe, hev⟩ : ∃ v,
        v = (if a = .dirty then State.bump .probesDirty ((s.clearOut.setChannel .idle).modTxn i fun t => { t with answer := some a })
          else (s.clearOut.setChannel .idle).modTxn i fun t => { t with answer := some a }) ∧
        v = { ((s.clearOut.setChannel .idle).modTxn i fun t => { t with answer := some a }) with ev := v.ev } ∧
        v.ev = { s.ev with counters := { s.ev.counters with
          probesDirty := s.ev.counters.probesDirty + (if a = .dirty then 1#32 else 0#32) } } := by
      refine ⟨_, rfl, ?_⟩
      by_cases h : a = .dirty
      · rw [if_pos h, if_pos h]
        exact ⟨rfl, rfl⟩
      · rw [if_neg h, if_neg h, BitVec.add_zero]
        exact ⟨rfl, rfl⟩
    have hux := State.txnBecomes_modTxn (s := s.clearOut.setChannel .idle) hf.txn fun t => { t with answer := some a }
    have hvx : s.TxnBecomes v i (some { x with answer := some a }) := by rw [hvframe]; exact hux
    have hvq : v.Quiet := by
      refine hq.of_eq ?_ ?_ ?_ ?_ fun p => ?_ <;> rw [hvframe]
      · exact State.isSome_modTxn (s.clearOut.setChannel .idle) i recallEntry _
      · rfl
      · rfl
      · exact .inr (.inr hqueue)
      · rfl
    have hfeeds : State.Feeds ((s.clearOut.setChannel .idle).modTxn i fun t => { t with answer := some a }) c i
        { x with answer := some a } := ⟨hf.cycle, hf.standing, hux.1⟩
    have hi : i ≠ recallEntry ∨ x.link = none := hkind.imp And.left fun h => h.2.2
    rw [exec_answer_of hs hch hk, State.actOnAnswer_of_feeds hfeeds, ← hv, State.afterBeats_eq hvx.1]
    by_cases hd : x.wbData = true
    · obtain ⟨t, y, ht, hframe, htable, htook, hset, hsame⟩ := hvq.deaf.exists_dataTaken hvx.1 hi
      have htx := hvx.trans htable
      have htq : t.Quiet := by
        refine hvq.of_eq (htable.isSome_eq hvx.1 _) ?_ ?_ ?_ fun p => ?_ <;> rw [hframe]
        · exact hvq.channel
        · rfl
      rw [if_pos ⟨hd, .inr ⟨hphase, rfl⟩⟩, ht, htq.settle]
      have htev : t.ev = v.ev := by rw [hframe]
      have hmp : t.mp = { s.mp with waiting := joinTail s.mp.waiting i } := by rw [hframe, hvframe]; rfl
      refine ⟨t, y, rfl, ?_, htev.trans hev, htx, fun h => absurd hd (by rw [h]; nofun), fun _ hm => ⟨?_, htook hm hd, ?_, ?_⟩⟩
      · exact hframe.trans (by rw [htev, hmp, hvframe]; rfl)
      · exact hmp
      · rw [hvframe] at hset
        exact hset
      · rw [hvframe] at hsame
        exact hsame
    · rw [if_neg (fun h => hd h.1), hvq.settle]
      refine ⟨v, _, rfl, ?_, hev, hvx, fun _ => ⟨rfl, ?_, ?_⟩, fun h => absurd h hd⟩ <;> rw [hvframe] <;> rfl

/-! ### DIRTY -/

theorem State.startPendingTimers_of_busEmpty {s : State} (h : s.hp.cycle = none) : s.startPendingTimers = s.endCycle := by
  have : s.setCycle none = s := by rw [State.setCycle, ← h]
  rw [State.endCycle, this]

theorem Txn.timerStarted_idem (n : Nat) (t : Txn) : (t.timerStarted n).timerStarted n = t.timerStarted n := by
  unfold Txn.timerStarted
  by_cases h : t.wbTimer = some .pending <;> simp [h]

/-- R62, R75: DIRTY with no write-back attached. -/
theorem State.actOnAnswer_of_dirty {s : State} {i : EntryIx} {x : Txn} (hx : s.txn i = some x) (hd : x.wbData = false)
    (hnot : s.NotAttached i) : s.actOnAnswer i .dirty = (s.bump .probesDirty).awaitWriteback i x.line := by
  have hatt : ¬ (x.wbData || s.attachedEntry == some i) = true := by
    rw [hd, Bool.false_or, beq_iff_eq, State.attachedEntry_eq_some]
    exact fun ⟨c, hc, hst⟩ => hnot c hc hst
  rw [State.actOnAnswer, hx]
  exact if_neg hatt

/-- R62: with no cycle on the bus once the retract is done, the write-back timer counts from WB_LIMIT. -/
theorem State.awaitWriteback_of_busEmpty {s v : State} {i : EntryIx} {l : Line}
    (hv : (s.modTxn i fun t => { t with phase := .wbWait, wbTimer := some .pending }).retract = v) (hb : v.hp.cycle = none) :
    s.awaitWriteback i l = v.endCycle := by
  rw [State.awaitWriteback, hv]
  exact (if_pos (by rw [hb]; rfl)).trans (State.startPendingTimers_of_busEmpty hb)

/-- The transaction of a DIRTY answer as it enters WB_WAIT, before its timer starts. -/
def Txn.awaiting (t : Txn) : Txn := { t with answer := some .dirty, phase := .wbWait, wbTimer := some .pending }

/-- R62: the state in which a DIRTY answer meets the cycle on the bus. -/
def State.answeredDirty (i : EntryIx) (s : State) : State :=
  ((((s.clearOut.setChannel .idle).modTxn i fun t => { t with answer := some .dirty }).bump .probesDirty).modTxn i fun t =>
    { t with phase := .wbWait, wbTimer := some .pending })

theorem State.txnBecomes_answeredDirty {s : State} {i : EntryIx} {x : Txn} (hx : s.txn i = some x) :
    s.TxnBecomes (s.answeredDirty i) i (some x.awaiting) :=
  (State.txnBecomes_modTxn (s := s.clearOut.setChannel .idle) hx fun t => { t with answer := some .dirty }).modTxn _

/-- R62: a DIRTY answer, with no write-back attached, awaits one. -/
theorem exec_dirty_of {s : State} {i : EntryIx} {x : Txn} (hs : s.Running) (hp : s.Probes i x) (hnot : s.NotAttached i) :
    ∃ u : State, exec .probeAnswerDirty s = .next (u.awaitWriteback i x.line).settle ∧
      u.pu.wbLimit = s.pu.wbLimit ∧
      (u.modTxn i fun t => { t with phase := .wbWait, wbTimer := some .pending }) = s.answeredDirty i := by
  have hux := State.txnBecomes_modTxn (s := s.clearOut.setChannel .idle) hp.txn fun t => { t with answer := some .dirty }
  refine ⟨((s.clearOut.setChannel .idle).modTxn i fun t => { t with answer := some .dirty }).bump .probesDirty, ?_, rfl, rfl⟩
  rw [exec_answer_of (a := .dirty) hs hp.channel (by decide), State.actOnAnswer_of_dirty hux.1 hp.data hnot]

/-- Settles O24, on an empty bus and with a cycle that claims an entry. -/
theorem dirtyAwaitsTheWritebackAndRetracts : Obligations.DirtyAwaitsTheWritebackAndRetracts := by
  intro s i x hs hq hp
  have hux := State.txnBecomes_answeredDirty hp.txn
  have hquiet : ∀ {t : State} {y}, s.TxnBecomesBusEmpty t i (some y) → t.msc = s.msc → t.tt.recallWait = s.tt.recallWait →
      t.pu.queue = s.pu.queue → t.rp = s.rp → t.Quiet := by
    intro t y h1 h2 h3 h4 h5
    refine hq.of_eq ?_ h2 h3 (.inr (.inr (h4.trans hp.queue))) fun p => by rw [State.port, h5]; rfl
    by_cases hi : recallEntry = i
    · rw [hi, h1.1, hp.txn]
      rfl
    · exact h1.isSome_eq hi
  refine ⟨fun hc => ?_, fun c hc hg => ?_⟩
  · have hnot : s.NotAttached i := fun c h => absurd h (by rw [hc]; nofun)
    obtain ⟨u, hexec, -, hu⟩ := exec_dirty_of hs hp hnot
    have hr : (s.answeredDirty i).retract = s.answeredDirty i := by
      rw [State.retract, show (s.answeredDirty i).hp.cycle = none from hc]
    have hbecomes : s.TxnBecomesBusEmpty (s.answeredDirty i).endCycle i (some (x.awaiting.timerStarted s.pu.wbLimit.toNat)) :=
      ⟨by rw [State.txn_endCycle_eq, hux.1]; rfl, fun j hj => by rw [State.txn_endCycle_eq, hux.2 j hj]; rfl⟩
    rw [hexec, State.awaitWriteback_of_busEmpty ((congrArg State.retract hu).trans hr) hc,
      (hquiet hbecomes rfl rfl rfl rfl).settle]
    refine ⟨_, rfl, ?_, rfl, hbecomes⟩
    rw [← State.startPendingTimers_of_busEmpty (s := s.answeredDirty i) hc]
    rfl
  · have hnot : s.NotAttached i := fun c' hc' => by
      obtain rfl := Option.some.inj (hc.cycle.symm.trans hc')
      rw [hc.standing]
      nofun
    obtain ⟨u, hexec, -, hu⟩ := exec_dirty_of hs hp hnot
    have hr : (s.answeredDirty i).retract = (((s.answeredDirty i).bump .retracts).emit .retract).endCycle := by
      rw [State.retract, show (s.answeredDirty i).hp.cycle = some c from hc.cycle]
      dsimp only
      rw [if_pos (by simp [State.retractable, hg, hc.standing]), State.retractCycle]
      simp only [hc.standing]
    have hbecomes : s.TxnBecomesBusEmpty (((s.answeredDirty i).bump .retracts).emit .retract).endCycle.endCycle i
        (some (x.awaiting.timerStarted s.pu.wbLimit.toNat)) := by
      have hend : ∀ j, (((s.answeredDirty i).bump .retracts).emit .retract).endCycle.endCycle.txn j =
          ((s.answeredDirty i).txn j).map (Txn.timerStarted s.pu.wbLimit.toNat) := by
        intro j
        rw [State.txn_endCycle_eq, State.txn_endCycle_eq, Option.map_map]
        exact congrArg (Option.map · _) (funext (Txn.timerStarted_idem s.pu.wbLimit.toNat))
      exact ⟨by rw [hend, hux.1]; rfl, fun j hj => by rw [hend, hux.2 j hj]⟩
    rw [hexec, State.awaitWriteback_of_busEmpty ((congrArg State.retract hu).trans hr) rfl,
      (hquiet hbecomes rfl rfl rfl rfl).settle]
    exact ⟨_, rfl, rfl, rfl, hbecomes⟩

end Sys2Proof.Machine
end

section
/-! SUPPORT. The retract of a served cycle (R49, R50, R70, R71, R111, R115). -/

set_option Elab.async false

namespace Sys2Proof.Machine

/-! ### Host work withdrawn -/

/-- R18: what the withdrawal of entry `j`'s fill leaves of the others' records. -/
def Txn.unlinkedIf (fill : Bool) (j k : EntryIx) (t : Txn) : Txn := if fill = true ∧ k = recallEntry then t.unlinked j else t

/-- R18: the directory side of a withdrawal, where no sweep hears of it. -/
structure State.FillWithdrawn (s t : State) (j : EntryIx) (l : Line) (fill : Bool) : Prop where
  frame : t = { s with
    pd := t.pd
    tt := { s.tt with
      entries := t.tt.entries
      recallWait := if fill then s.tt.recallWait.filter fun k => k != j else s.tt.recallWait } }
  entries : ∀ k, t.txn k = (s.txn k).map (Txn.unlinkedIf fill j k)
  taken : fill = true → s.isReserved l = true → s.SetBecomes t (setOf l) ((s.dirSet l).filter fun e => e.line != l)
  kept : fill = false ∨ s.isReserved l = false → t.pd = s.pd

theorem Txn.unlinkedIf_of_ne {fill : Bool} {j k : EntryIx} (h : fill = false ∨ k ≠ recallEntry) :
    Txn.unlinkedIf fill j k = id := by
  funext t
  refine if_neg fun h' => ?_
  rcases h with h | h
  · rw [h] at h'
    cases h'.1
  · exact h h'.2

theorem State.fillWithdrawn_refl (s : State) (j : EntryIx) (l : Line) : s.FillWithdrawn s j l false :=
  ⟨rfl, fun k => by rw [Txn.unlinkedIf_of_ne (.inl rfl), Option.map_id]; rfl, nofun, fun _ => rfl⟩

theorem State.Deaf.removeReserved {s : State} (h : s.Deaf) (l : Line) :
    s.removeReserved l = if s.isReserved l then s.dropEntry l else s := by
  rw [State.removeReserved, h.removeEntry]

/-- R18, R19: the for-fill link of the running recall is cleared where it names the entry. -/
theorem State.txn_clearLink_if (s : State) (j k : EntryIx) :
    (if s.recallLink = some j then s.clearLink else s).txn k = (s.txn k).map (Txn.unlinkedIf true j k) := by
  by_cases hk : k = recallEntry
  · subst hk
    have hmap : Txn.unlinkedIf true j recallEntry = Txn.unlinked j := funext fun t => if_pos ⟨rfl, rfl⟩
    rw [hmap]
    split
    · rename_i hl
      rw [State.clearLink, State.txn_modTxn, if_pos rfl]
      obtain ⟨t, ht, hlink⟩ := Option.bind_eq_some_iff.mp hl
      rw [ht, Option.map_some, Option.map_some, Txn.unlinked, if_pos hlink]
    · rename_i hl
      rcases ht : s.txn recallEntry with _ | t
      · rfl
      · rw [State.recallLink, ht] at hl
        have hlink : t.link ≠ some j := hl
        rw [Option.map_some, Txn.unlinked, if_neg hlink]
  · rw [Txn.unlinkedIf_of_ne (.inr hk), Option.map_id]
    split
    · rw [State.clearLink, State.txn_modTxn, if_neg hk]
      rfl
    · rfl

theorem State.Deaf.fillWithdrawn {s : State} (h : s.Deaf) (j : EntryIx) (z : Txn) :
    s.FillWithdrawn (s.withdrawFill j z) j z.line (decide (z.work.kind = .hFill)) := by
  by_cases hk : z.work.kind = .hFill
  · rw [decide_eq_true hk]
    obtain ⟨d, hd, htaken, hkept⟩ : ∃ d, (if s.isReserved z.line = true then s.dropEntry z.line else s) = { s with pd := d } ∧
        (s.isReserved z.line = true →
          s.SetBecomes { s with pd := d } (setOf z.line) ((s.dirSet z.line).filter fun e => e.line != z.line)) ∧
        (s.isReserved z.line = false → d = s.pd) := by
      by_cases hr : s.isReserved z.line = true
      · rw [if_pos hr, State.dropEntry_eq]
        exact ⟨_, rfl, fun _ => s.setBecomes_putSet z.line _, fun h => absurd hr (by rw [h]; nofun)⟩
      · rw [if_neg hr]
        exact ⟨s.pd, rfl, fun h => absurd h hr, fun _ => rfl⟩
    let v : State := { s with pd := d, tt := { s.tt with recallWait := s.tt.recallWait.filter fun k => k != j } }
    have hw : s.withdrawFill j z = if v.recallLink = some j then v.clearLink else v := by
      rw [State.withdrawFill, if_pos hk, h.removeReserved, hd]
    have hpd : (s.withdrawFill j z).pd = d := by rw [hw]; split <;> rfl
    refine ⟨?_, fun k => ?_, fun _ hr => ?_, fun hr => ?_⟩
    · rw [hw]
      split <;> rfl
    · rw [hw, State.txn_clearLink_if]
      rfl
    · obtain ⟨h1, h2, h3⟩ := htaken hr
      exact ⟨by rw [hpd]; exact h1, by rw [hpd]; exact h2, fun k' hk' => by rw [hpd]; exact h3 k' hk'⟩
    · rw [hpd]
      exact hkept (hr.resolve_left nofun)
  · rw [decide_eq_false hk, State.withdrawFill, if_neg hk]
    exact s.fillWithdrawn_refl j z.line

/-- R49, R50: what a withdrawal of host work leaves, where no sweep hears of it and nothing waits for the line. -/
structure State.Withdrawn (s t : State) (j : EntryIx) (z : Txn) (fill : Bool) : Prop where
  frame : t = { s with
    pd := t.pd
    tt := { s.tt with
      entries := t.tt.entries
      locks := t.tt.locks
      recallWait := if fill then s.tt.recallWait.filter fun k => k != j else s.tt.recallWait }
    mp := t.mp }
  own : t.txn j = if z.phase = .memBusy then some { z with abandoned := true } else none
  others : ∀ k, k ≠ j → t.txn k = (s.txn k).map (Txn.unlinkedIf fill j k)
  taken : fill = true → s.isReserved z.line = true →
    s.SetBecomes t (setOf z.line) ((s.dirSet z.line).filter fun e => e.line != z.line)
  kept : fill = false ∨ s.isReserved z.line = false → t.pd = s.pd
  waiting : z.phase ∈ [.dataIn, .lockWait, .memBusy] → t.mp = s.mp
  locks : z.phase ∈ [.dataIn, .memBusy] → t.tt.locks = s.tt.locks
  waiters : ∀ r, z.phase = .lockWait → s.lockOf z.line = some r →
    s.LockBecomes t z.line (some { r with waiters := r.waiters.filter fun k => k != j })
  released : z.phase ∈ [.wayWait, .memWait, .dataOut] →
    t.mp = { s.mp with waiting := s.mp.waiting.filter fun k => k != j } ∧ s.LockBecomes t z.line none

theorem State.Deaf.withdraw {s : State} (h : s.Deaf) {j : EntryIx} {z : Txn} (hz : s.txn j = some z) (hj : j ≠ recallEntry)
    (hhost : z.work.isHost = true) (hphase : z.phase ∈ [.dataIn, .lockWait, .wayWait, .memWait, .memBusy, .dataOut])
    (hl : z.phase ∈ [.wayWait, .memWait, .dataOut] → s.HoldsAlone j z.line) :
    s.Withdrawn (s.withdraw j) j z (decide (z.work.kind = .hFill ∧ z.phase ≠ .dataIn ∧ z.phase ≠ .lockWait)) := by
  obtain ⟨w, hwdef⟩ : ∃ w, w = s.withdrawFill j z := ⟨_, rfl⟩
  have hw : s.FillWithdrawn w j z.line (decide (z.work.kind = .hFill)) := hwdef ▸ h.fillWithdrawn j z
  have hwz : w.txn j = some z := by rw [hw.entries, hz, Txn.unlinkedIf_of_ne (.inr hj)]; rfl
  have hdeaf : w.Deaf := by rw [hw.frame]; exact h
  have hlocks : w.tt.locks = s.tt.locks := by rw [hw.frame]
  have hmp : w.mp = s.mp := by rw [hw.frame]
  have hfree : ∀ k, k ≠ j → (s.freeEntry j).txn k = (s.txn k).map (Txn.unlinkedIf false j k) := fun k hk => by
    rw [State.txn_freeEntry, if_neg hk, Txn.unlinkedIf_of_ne (.inl rfl), Option.map_id]
    rfl
  by_cases hrel : z.phase ∈ [.wayWait, .memWait, .dataOut]
  · have hfill : decide (z.work.kind = .hFill ∧ z.phase ≠ .dataIn ∧ z.phase ≠ .lockWait) = decide (z.work.kind = .hFill) := by
      simp only [List.mem_cons, List.not_mem_nil, or_false] at hrel
      rcases hrel with hp | hp | hp <;> simp [hp]
    have hrelease : ((w.leaveMemWait j).freeEntry j).releaseLock j z.line = ((w.leaveMemWait j).freeEntry j).dropLock z.line := by
      refine State.Deaf.releaseLock (s := (w.leaveMemWait j).freeEntry j) hdeaf ?_
      show w.lockOf z.line = _
      rw [State.lockOf, hlocks]
      exact hl hrel
    have ht : s.withdraw j = ((w.leaveMemWait j).freeEntry j).dropLock z.line := by
      rw [← hrelease, hwdef, State.withdraw, hz]
      dsimp only
      rw [if_pos hhost]
      simp only [List.mem_cons, List.not_mem_nil, or_false] at hrel
      rcases hrel with hp | hp | hp <;> rw [hp]
    have hnot : ∀ p : Phase, p ∉ [Phase.wayWait, .memWait, .dataOut] → z.phase ≠ p := fun p hp he => hp (he ▸ hrel)
    rw [hfill, ht]
    refine ⟨?_, ?_, fun k hk => ?_, hw.taken, hw.kept, fun hm => absurd hm ?_, fun hm => absurd hm ?_,
      fun r hp => absurd hp (hnot _ (by decide)), fun _ => ⟨?_, ?_⟩⟩
    · rw [hw.frame]
      rfl
    · rw [if_neg (hnot .memBusy (by decide))]
      exact (w.leaveMemWait j).txn_putTxn_self j none
    · show ((w.leaveMemWait j).freeEntry j).txn k = _
      rw [State.txn_freeEntry, if_neg hk]
      exact hw.entries k
    · simp only [List.mem_cons, List.not_mem_nil, or_false] at hrel ⊢
      rcases hrel with hp | hp | hp <;> rw [hp] <;> decide
    · simp only [List.mem_cons, List.not_mem_nil, or_false] at hrel ⊢
      rcases hrel with hp | hp | hp <;> rw [hp] <;> decide
    · show ({ w.mp with waiting := w.mp.waiting.filter fun k => k != j } : MemPort) = _
      rw [hmp]
    · have := ((w.leaveMemWait j).freeEntry j).lockBecomes_dropLock z.line
      refine ⟨this.1, fun m hm => (this.2 m hm).trans ?_⟩
      show w.lockOf m = s.lockOf m
      rw [State.lockOf, hlocks]
      rfl
  · simp only [List.mem_cons, List.not_mem_nil, or_false] at hphase hrel
    have hcase : z.phase = .dataIn ∨ z.phase = .lockWait ∨ z.phase = .memBusy := by tauto
    rcases hcase with hp | hp | hp
    · have ht : s.withdraw j = s.freeEntry j := by
        rw [State.withdraw, hz]
        dsimp only
        rw [if_pos hhost, hp]
      rw [decide_eq_false (by simp [hp]), ht]
      refine ⟨rfl, ?_, hfree, nofun, fun _ => rfl, fun _ => rfl, fun _ => rfl, fun r hp' => ?_, fun hm => ?_⟩
      · rw [if_neg (by rw [hp]; nofun)]
        exact s.txn_putTxn_self j none
      · rw [hp] at hp'; cases hp'
      · rw [hp] at hm; simp at hm
    · have ht : s.withdraw j = (s.leaveWaiters j z.line).freeEntry j := by
        rw [State.withdraw, hz]
        dsimp only
        rw [if_pos hhost, hp]
      rw [decide_eq_false (by simp [hp]), ht]
      obtain ⟨ls, hleave, hwaiters⟩ : ∃ ls, s.leaveWaiters j z.line = { s with tt := { s.tt with locks := ls } } ∧
          ∀ r, s.lockOf z.line = some r → s.LockBecomes { s with tt := { s.tt with locks := ls } } z.line
            (some { r with waiters := r.waiters.filter fun k => k != j }) := by
        rcases hr : s.lockOf z.line with _ | r
        · exact ⟨s.tt.locks, by rw [State.leaveWaiters, hr], nofun⟩
        · refine ⟨(s.putLock { r with waiters := r.waiters.filter fun k => k != j }).tt.locks, by rw [State.leaveWaiters, hr]; rfl,
            fun r' hr' => ?_⟩
          obtain rfl := Option.some.inj hr'
          have hline : r.line = z.line := State.line_of_lockOf hr
          rw [← hline]
          exact s.lockBecomes_putLock { r with waiters := r.waiters.filter fun k => k != j }
      rw [hleave]
      refine ⟨rfl, ?_, hfree, nofun, fun _ => rfl, fun _ => rfl, fun hm => ?_, fun r _ => hwaiters r, fun hm => ?_⟩
      · rw [if_neg (by rw [hp]; nofun)]
        exact s.txn_putTxn_self j none
      · rw [hp] at hm; simp at hm
      · rw [hp] at hm; simp at hm
    · have ht : s.withdraw j = w.modTxn j fun t => { t with abandoned := true } := by
        rw [hwdef, State.withdraw, hz]
        dsimp only
        rw [if_pos hhost, hp]
      have hfill : decide (z.work.kind = .hFill ∧ z.phase ≠ .dataIn ∧ z.phase ≠ .lockWait) = decide (z.work.kind = .hFill) := by
        simp [hp]
      rw [hfill, ht]
      refine ⟨?_, ?_, fun k hk => ?_, hw.taken, hw.kept, fun _ => hmp, fun _ => hlocks, fun r hp' => ?_, fun hm => ?_⟩
      · rw [hw.frame]
        rfl
      · rw [State.txn_modTxn, if_pos rfl, hwz, if_pos hp]
        rfl
      · rw [State.txn_modTxn, if_neg hk]
        exact hw.entries k
      · rw [hp] at hp'; cases hp'
      · rw [hp] at hm; simp at hm

/-! ### The retract -/

/-- R70, R108: a served cycle is retracted while no beat of it is given, unless it works under the host lock set. -/
theorem State.retract_of_served {s : State} {c : Cycle} {j : EntryIx} {z : Txn} (h : s.Carries c j z) (hg : c.given = 0)
    (hset : z.work.isLocked = true → z.line ∈ s.hp.lockSet → z.phase = .dataIn ∨ z.phase = .lockWait) :
    s.retract = if z.work.isLocked then ((((s.bump .retracts).emit .retract).endCycle).withdraw j).startLockTimer
      else (((s.bump .retracts).emit .retract).endCycle).withdraw j := by
  have hunder : s.underLockSet j = false := by
    rw [State.underLockSet, h.txn, Option.any_some, Bool.eq_false_iff]
    simp only [ne_eq, Bool.and_eq_true, State.inLockSet_iff, Bool.or_eq_true, beq_iff_eq]
    rintro ⟨⟨h1, h2⟩, h3⟩
    rcases hset h1 h2 with h | h <;> rw [h] at h3 <;> simp at h3
  rw [State.retract, h.cycle]
  dsimp only
  rw [if_pos (by simp [State.retractable, hg, h.standing, hunder]), State.retractCycle]
  simp only [h.standing, h.txn, Option.any_some]

/-- R71: the cycles that a DIRTY answer leaves on the bus. -/
theorem State.retract_of_kept {s : State} {c : Cycle} {j : EntryIx} {z : Txn}
    (h : (s.Carries c j z ∧ (c.given ≠ 0 ∨ (z.work.isLocked = true ∧ z.line ∈ s.hp.lockSet ∧
      z.phase ∈ [.memWait, .memBusy, .dataOut]))) ∨ s.Feeds c j z) : s.retract = s := by
  have hc : s.hp.cycle = some c := h.elim (fun h => h.1.cycle) State.Feeds.cycle
  have hkept : s.retractable c = false := by
    rcases h with ⟨h, hg | ⟨h1, h2, h3⟩⟩ | h
    · simp [State.retractable, hg]
    · have : s.underLockSet j = true := by
        rw [State.underLockSet, h.txn, Option.any_some, h1, State.inLockSet_iff.mpr h2]
        simpa [or_assoc] using h3
      simp [State.retractable, h.standing, this]
    · simp [State.retractable, h.standing]
  rw [State.retract, hc]
  exact if_neg (by rw [hkept]; nofun)

/-- R71: the write-back timer of an answered transaction whose cycle on the bus stays. -/
theorem State.awaitWriteback_of_kept {s v : State} {i : EntryIx} {l : Line} {c : Cycle}
    (hv : (s.modTxn i fun t => { t with phase := .wbWait, wbTimer := some .pending }).retract = v) (hc : v.hp.cycle = some c) :
    s.awaitWriteback i l = if v.hostWriteWaits l then
      v.modTxn i fun t => { t with wbTimer := some (.pendingCounting s.pu.wbLimit.toNat) } else v := by
  have hcond : ¬ v.hp.cycle.isNone = true := by rw [hc]; nofun
  rw [State.awaitWriteback, hv]
  exact if_neg hcond

/-- R71: whether a host write kind waits for the line behind its holder. -/
theorem State.hostWriteWaits_iff {s : State} {c : Cycle} {j : EntryIx} {z : Txn} (hc : s.hp.cycle = some c)
    (hz : s.txn j = some z) (hj : c.standing = .served j ∨ c.standing = .attached j) (l : Line) :
    s.hostWriteWaits l = true ↔
      c.standing = .served j ∧ z.phase = .lockWait ∧ z.line = l ∧ z.work.kind ∈ [.hWrite, .hLwrite, .hEvict] := by
  rw [State.hostWriteWaits, hc, Option.any_some]
  rcases hj with h | h <;> simp [h, hz, and_assoc, or_assoc]

/-- R111: a locked cycle that leaves the bus under a set that is not empty starts the lock timer. -/
theorem State.startLockTimer_if (b : Bool) (s : State) : (if b = true then s.startLockTimer else s) =
    { s with hp := { s.hp with
      lockTimer := if b = true ∧ s.hp.lockSet ≠ [] then some s.hp.lockLimit.toNat else s.hp.lockTimer } } := by
  by_cases h1 : b = true
  · rw [if_pos h1, State.startLockTimer]
    by_cases h2 : s.hp.lockSet = []
    · rw [if_pos (List.isEmpty_iff.mpr h2), if_neg (fun h => h.2 h2)]
    · rw [if_neg (fun h => h2 (List.isEmpty_iff.mp h)), if_pos ⟨h1, h2⟩]
  · rw [if_neg h1, if_neg (fun h => h1 h.1)]

/-- Settles O25, for the cycles that are withdrawn and those that stay. -/
theorem retractWithdrawsAServedCycle : Obligations.RetractWithdrawsAServedCycle := by
  intro s i j x z c hs hq hp hj
  have hux := State.txnBecomes_answeredDirty hp.txn
  refine ⟨fun hc hj11 hhost hg hset hphase hl fill hfill => ?withdrawn, fun h => ?kept⟩
  case withdrawn =>
    let n := s.pu.wbLimit.toNat
    have hnot : s.NotAttached i := fun c' hc' => by
      obtain rfl := Option.some.inj (hc.cycle.symm.trans hc')
      rw [hc.standing]
      nofun
    obtain ⟨u, hexec, -, hu⟩ := exec_dirty_of hs hp hnot
    have hzu : (s.answeredDirty i).txn j = some z := (hux.2 j hj).trans hc.txn
    let e : State := (((s.answeredDirty i).bump .retracts).emit .retract).endCycle
    have hentries : ∀ k, e.txn k = ((s.answeredDirty i).txn k).map (Txn.timerStarted n) := fun k => State.txn_endCycle_eq _ k
    have hez : e.txn j = some (z.timerStarted n) := by rw [hentries, hzu]; rfl
    obtain ⟨w, hw⟩ : ∃ w, w = e.withdraw j := ⟨_, rfl⟩
    have hwd : e.Withdrawn w j (z.timerStarted n) fill := by
      rw [hw, hfill]
      exact State.Deaf.withdraw (s := e) hq.deaf hez hj11 hhost hphase hl
    let v : State := { w with hp := { w.hp with
      lockTimer := if z.work.isLocked = true ∧ w.hp.lockSet ≠ [] then some w.hp.lockLimit.toNat else w.hp.lockTimer } }
    have hwhp : w.hp = e.hp := by rw [hwd.frame]
    have hwpu : w.pu = e.pu := by rw [hwd.frame]
    have hr : (s.answeredDirty i).retract = v := by
      rw [State.retract_of_served (s := s.answeredDirty i) ⟨hc.1, hc.2, hzu⟩ hg hset]
      show (if z.work.isLocked = true then (e.withdraw j).startLockTimer else e.withdraw j) = v
      rw [← hw, State.startLockTimer_if]
    have hfinal : ∀ k, v.endCycle.txn k = (w.txn k).map (Txn.timerStarted n) := fun k => by
      rw [State.txn_endCycle_eq, show v.pu = e.pu from hwpu]
      rfl
    rw [hexec, State.awaitWriteback_of_busEmpty ((congrArg State.retract hu).trans hr) (by show w.hp.cycle = none; rw [hwhp]; rfl)]
    obtain ⟨t, ht⟩ : ∃ t, t = v.endCycle := ⟨_, rfl⟩
    have htframe : t = { s with
        pd := w.pd
        tt := { s.tt with
          entries := t.tt.entries
          locks := w.tt.locks
          recallWait := if fill then s.tt.recallWait.filter fun k => k != j else s.tt.recallWait }
        pu := { s.pu with channel := .idle }
        hp := { s.hp with
          cycle := none
          lockTimer := if z.work.isLocked = true ∧ s.hp.lockSet ≠ [] then some s.hp.lockLimit.toNat else s.hp.lockTimer }
        mp := w.mp
        ev := { s.ev with counters := { s.ev.counters with
          probesDirty := s.ev.counters.probesDirty + 1#32, retracts := s.ev.counters.retracts + 1#32 } }
        out := [.retract] } := by
      obtain ⟨pd, es, ls, mp, hwe⟩ : ∃ pd es ls mp, w = { e with
          pd := pd
          tt := { e.tt with
            entries := es
            locks := ls
            recallWait := if fill then e.tt.recallWait.filter fun k => k != j else e.tt.recallWait }
          mp := mp } := ⟨_, _, _, _, hwd.frame⟩
      rw [ht]
      simp only [v]
      rw [hwe]
      rfl
    have htxn : ∀ k, t.txn k = (w.txn k).map (Txn.timerStarted n) := fun k => by rw [ht, hfinal]
    have hsome : (t.txn recallEntry).isSome = (s.txn recallEntry).isSome := by
      rw [htxn, hwd.others _ (Ne.symm hj11), hentries, Option.isSome_map, Option.isSome_map, Option.isSome_map]
      exact hux.isSome_eq hp.txn _
    have htq : t.Quiet := by
      refine ⟨?_, ?_, fun p => ?_, ?_⟩
      · rw [hsome]
        refine hq.entry11.imp id fun ⟨h1, h2⟩ => ?_
        rw [htframe]
        exact ⟨h1, by rw [h2]; cases fill <;> rfl⟩
      · exact .inr (.inr (by rw [htframe]; exact hp.queue))
      · rw [htframe]
        exact hq.ports p
      · rw [htframe]
        exact hq.sweep
    rw [← ht, htq.settle]
    have htpd : t.pd = w.pd := by rw [htframe]
    have htmp : t.mp = w.mp := by rw [htframe]
    have htlocks : t.tt.locks = w.tt.locks := by rw [htframe]
    have hthp : t.hp = { s.hp with
        cycle := none
        lockTimer := if z.work.isLocked = true ∧ s.hp.lockSet ≠ [] then some s.hp.lockLimit.toNat else s.hp.lockTimer } := by
      rw [htframe]
    have htev : t.ev = { s.ev with counters := { s.ev.counters with
        probesDirty := s.ev.counters.probesDirty + 1#32, retracts := s.ev.counters.retracts + 1#32 } } := by
      rw [htframe]
    have httt : t.tt = { s.tt with
        entries := t.tt.entries
        locks := t.tt.locks
        recallWait := if fill then s.tt.recallWait.filter fun k => k != j else s.tt.recallWait } := by
      rw [htlocks]
      exact congrArg State.tt htframe
    have hlockOf : ∀ l, t.lockOf l = w.lockOf l := fun l => by rw [State.lockOf, State.lockOf, htlocks]
    refine ⟨t, rfl, htframe.trans ?_, hthp, htev, httt, ?_, ?_, fun k hki hkj => ?_, ?_, ?_, ?_, ?_, ?_, ?_⟩
    · rw [htpd, htmp, hthp, htev, httt, htlocks]
    · rw [htxn, hwd.others i (Ne.symm hj), hentries, hux.1]
      simp only [Option.map_some, Option.some.injEq, Txn.unlinkedIf]
      split <;> rfl
    · rw [htxn, hwd.own]
      by_cases hb : z.phase = .memBusy
      · rw [if_pos (show (z.timerStarted n).phase = .memBusy from hb), if_pos hb, Option.map_some]
        exact congrArg (fun y : Txn => some { y with abandoned := true }) (Txn.timerStarted_idem n z)
      · rw [if_neg (show (z.timerStarted n).phase ≠ .memBusy from hb), if_neg hb]
        rfl
    · rw [htxn, hwd.others k hkj, hentries, hux.2 k hki, Option.map_map, Option.map_map]
      refine congrArg (Option.map · (s.txn k)) (funext fun y => ?_)
      simp only [Function.comp, Txn.unlinkedIf]
      split
      · exact congrArg (Txn.unlinked j) (Txn.timerStarted_idem n y)
      · exact Txn.timerStarted_idem n y
    · intro hf hr
      obtain ⟨h1, h2, h3⟩ := hwd.taken hf hr
      exact ⟨by rw [htpd]; exact h1, by rw [htpd]; exact h2, fun k hk => by rw [htpd]; exact h3 k hk⟩
    · exact fun h => htpd.trans (hwd.kept h)
    · exact fun h => htmp.trans (hwd.waiting h)
    · exact fun h => htlocks.trans (hwd.locks h)
    · intro r hph hr
      obtain ⟨h1, h2⟩ := hwd.waiters r hph hr
      exact ⟨(hlockOf _).trans h1, fun m hm => (hlockOf m).trans (h2 m hm)⟩
    · intro hph
      obtain ⟨h1, h2, h3⟩ := hwd.released hph
      exact ⟨htmp.trans h1, (hlockOf _).trans h2, fun m hm => (hlockOf m).trans (h3 m hm)⟩
  case kept =>
    have hc : s.hp.cycle = some c := h.elim (fun h => h.1.cycle) State.Feeds.cycle
    have hst : c.standing = .served j ∨ c.standing = .attached j := h.imp (fun h => h.1.standing) State.Feeds.standing
    have hz : s.txn j = some z := h.elim (fun h => h.1.txn) State.Feeds.txn
    have hnot : s.NotAttached i := fun c' hc' => by
      obtain rfl := Option.some.inj (hc.symm.trans hc')
      rcases hst with h | h <;> rw [h] <;> simp [hj]
    obtain ⟨u, hexec, hlimit, hu⟩ := exec_dirty_of hs hp hnot
    have hzu : (s.answeredDirty i).txn j = some z := (hux.2 j hj).trans hz
    have hr : (s.answeredDirty i).retract = s.answeredDirty i := by
      exact State.retract_of_kept (c := c) (j := j) (z := z)
        (h.imp (fun ⟨h, h'⟩ => ⟨⟨h.1, h.2, hzu⟩, h'⟩) fun h => ⟨h.1, h.2, hzu⟩)
    have hwaits := State.hostWriteWaits_iff (s := s.answeredDirty i) hc hzu hst x.line
    have hquiet : ∀ {t : State} {y}, s.TxnBecomes t i (some y) → t.msc = s.msc → t.tt.recallWait = s.tt.recallWait →
        t.pu.queue = s.pu.queue → t.rp = s.rp → t.Quiet := fun h1 h2 h3 h4 h5 =>
      hq.of_eq (h1.isSome_eq hp.txn _) h2 h3 (.inr (.inr (h4.trans hp.queue))) fun p => by rw [State.port, h5]; rfl
    rw [hexec, State.awaitWriteback_of_kept ((congrArg State.retract hu).trans hr) hc, hlimit]
    by_cases hw : c.standing = .served j ∧ z.phase = .lockWait ∧ z.line = x.line ∧ z.work.kind ∈ [.hWrite, .hLwrite, .hEvict]
    · have hcounts := hux.modTxn fun t => { t with wbTimer := some (.pendingCounting s.pu.wbLimit.toNat) }
      rw [if_pos (hwaits.mpr hw), if_pos hw, (hquiet hcounts rfl rfl rfl rfl).settle]
      exact ⟨_, rfl, rfl, rfl, hcounts⟩
    · rw [if_neg (fun h => hw (hwaits.mp h)), if_neg hw, (hquiet hux rfl rfl rfl rfl).settle]
      exact ⟨_, rfl, rfl, rfl, hux⟩

end Sys2Proof.Machine
end

section
/-! SUPPORT. Timeouts and the quarantine of a line (R38, R68, R72, R73, R76, R92, R132, R179). -/

set_option Elab.async false

namespace Sys2Proof.Machine

/-! ### Responses placed in the ports' queues -/

/-- R133: each port has been given some responses, behind those it held. -/
def State.Answers (s t : State) (rs : PortIx → List Response) : Prop :=
  ∀ q, t.port q = { s.port q with responses := (s.port q).responses ++ rs q }

theorem State.answers_refl {s t : State} (h : t.rp = s.rp) : s.Answers t fun _ => [] := fun q => by
  rw [List.append_nil, State.port, h]
  rfl

theorem State.Answers.trans {s t u : State} {rs rs' : PortIx → List Response} (h : s.Answers t rs) (h' : t.Answers u rs') :
    s.Answers u fun q => rs q ++ rs' q := fun q => by
  rw [h' q, h q]
  simp only [List.append_assoc]

theorem State.answers_placeResponse (s : State) (p : PortIx) (r : Response) :
    s.Answers (s.placeResponse p r) fun q => if q = p then [r] else [] := fun q => by
  have h := s.portBecomes_modPort p fun q => { q with responses := q.responses ++ [r] }
  by_cases hq : q = p
  · subst hq
    exact h.1.trans (by simp)
  · exact (h.2 q hq).trans (by simp [hq])

theorem State.Answers.state_eq {s t : State} {rs : PortIx → List Response} (h : s.Answers t rs) (p : PortIx) :
    (t.port p).state = (s.port p).state := by rw [h p]

theorem State.answersOf_cons {s : State} {i : EntryIx} {x : Txn} {p : PortIx} {g : Tag} (hx : s.txn i = some x)
    (hp : x.work.port? = some p) (hg : x.work.tag? = some g) (q : PortIx) (code : ResultCode) (is : List EntryIx) :
    s.answersOf q code (i :: is) =
      (if q = p then [{ tag := g, result := code, data := .none }] else []) ++ s.answersOf q code is := by
  unfold State.answersOf
  rw [List.filterMap_cons, hx]
  by_cases hq : q = p
  · simp [hp, hg, hq]
  · simp [hp, hq, Ne.symm hq]

theorem State.answersOf_congr {s t : State} {is : List EntryIx} (h : ∀ i ∈ is, t.txn i = s.txn i) (q : PortIx)
    (code : ResultCode) : t.answersOf q code is = s.answersOf q code is := by
  unfold State.answersOf
  exact List.filterMap_congr fun i hi => by rw [h i hi]

/-! ### The requests that wait for a quarantined line -/

/-- R92: the first check of a lookup. -/
theorem State.checksResult_of_quarantined {s : State} {l : Line} (h : s.isQuarantined l = true) (k : TxnKind) (p : PortIx) :
    s.checksResult k p l = .quarantined := if_pos h

/-- R38, R92: the requests that wait for a quarantined line are answered one after another, and the line is unlocked. -/
theorem State.Deaf.exists_handOff_quarantined {u : State} (hd : u.Deaf) {l : Line} (hl : u.isQuarantined l = true)
    {ws : List EntryIx} (hnodup : ws.Nodup)
    (hws : ∀ j ∈ ws, ∃ y, u.txn j = some y ∧ y.line = l ∧ y.work.port?.isSome = true) :
    ∃ t, u.handOff l ws = t ∧
      t = { u with rp := t.rp, tt := { u.tt with entries := t.tt.entries, locks := t.tt.locks } } ∧
      (∀ j ∈ ws, t.txn j = none) ∧ (∀ j, j ∉ ws → t.txn j = u.txn j) ∧ u.LockBecomes t l none ∧
      u.Answers t fun q => u.answersOf q .quarantined ws := by
  induction ws generalizing u with
  | nil =>
    exact ⟨_, rfl, rfl, nofun, fun _ _ => rfl, u.lockBecomes_dropLock l, State.answers_refl rfl⟩
  | cons i ws ih =>
    obtain ⟨hi, hnodup'⟩ := List.nodup_cons.mp hnodup
    obtain ⟨y, hy, hline, hport⟩ := hws i List.mem_cons_self
    obtain ⟨p, hp⟩ := Option.isSome_iff_exists.mp hport
    obtain ⟨hlocked, -, -, -, htag, -⟩ := Work.requester_spec hp
    obtain ⟨g, hg⟩ := Option.isSome_iff_exists.mp htag
    let v : State := u.putLock { line := l, holder := .txn i, waiters := ws }
    let r : Response := { tag := g, result := .quarantined, data := .none }
    let w : State := (v.placeResponse p r).freeEntry i
    have hlook : v.lookup i = { state := w, completed := true } := by
      have hcode : v.checksResult y.work.kind p y.line = .quarantined :=
        State.checksResult_of_quarantined (s := v) (hline ▸ hl) y.work.kind p
      rw [State.lookup_of_refused (s := v) hy hp (by rw [hcode]; nofun), hcode]
      exact congrArg (Looked.mk · true) (State.respond_of_requester (s := v) hy hp hg .quarantined)
    have htake : u.takeLock i y.work l ws = v := State.takeLock_of_unlocked hlocked i l ws u
    have hhand : u.handOff l (i :: ws) = w.handOff l ws :=
      hd.handOff_of_refused hy ((congrArg (State.lookup i) htake).trans hlook) rfl
    have hentry : ∀ j, w.txn j = if j = i then none else u.txn j := fun j => State.txn_freeEntry _ i j
    have hother : ∀ j ∈ ws, w.txn j = u.txn j := fun j hj => by
      rw [hentry, if_neg (fun he : j = i => hi (he ▸ hj))]
    obtain ⟨t, ht, hframe, hgone, hstay, hlock, hans⟩ := ih (u := w) hd hl hnodup'
      fun j hj => by rw [hother j hj]; exact hws j (List.mem_cons_of_mem i hj)
    refine ⟨t, hhand.trans ht, hframe, fun j hj => ?_, fun j hj => ?_, ⟨hlock.1, fun m hm => ?_⟩, fun q => ?_⟩
    · rcases List.mem_cons.mp hj with rfl | hj
      · rw [hstay j hi, hentry, if_pos rfl]
      · exact hgone j hj
    · rw [hstay j (fun h => hj (List.mem_cons_of_mem i h)), hentry, if_neg (fun he : j = i => hj (he ▸ List.mem_cons_self))]
    · exact (hlock.2 m hm).trans ((u.lockBecomes_putLock { line := l, holder := .txn i, waiters := ws }).2 m hm)
    · have hplaced : u.Answers w fun q => if q = p then [r] else [] := u.answers_placeResponse p r
      refine (hplaced.trans hans q).trans ?_
      show _ = ({ u.port q with responses := (u.port q).responses ++ u.answersOf q .quarantined (i :: ws) } : Port)
      rw [State.answersOf_cons hy hp hg, ← State.answersOf_congr hother]

/-! ### The timeout of a transaction -/

/-- R68: a write-back attached to a transaction that times out, as it is handed back. -/
def State.handedBack (s : State) (i : EntryIx) (x : Txn) : Option Cycle :=
  s.hp.cycle.map fun c => if c.standing = .attached i then
    { c with standing := .claiming, held := beatsOf x.buf c.taken } else c

theorem State.handBack_eq (s : State) (i : EntryIx) (x : Txn) :
    s.handBack i x = { s with hp := { s.hp with cycle := s.handedBack i x } } := by
  unfold State.handBack State.handedBack
  rcases hc : s.hp.cycle with _ | c
  · exact show s = { s with hp := { s.hp with cycle := none } } by rw [← hc]
  · dsimp only
    split
    · rename_i h
      rw [Option.map_some, if_pos h]
      rfl
    · rename_i h
      rw [Option.map_some, if_neg h]
      exact show s = { s with hp := { s.hp with cycle := some c } } by rw [← hc]

theorem State.NotAttached.handedBack {s : State} {i : EntryIx} (h : s.NotAttached i) (x : Txn) :
    s.handedBack i x = s.hp.cycle := by
  unfold State.handedBack
  rcases hc : s.hp.cycle with _ | c
  · rfl
  · rw [Option.map_some, if_neg (h c hc)]

/-- R72, R73: a timeout up to the quarantine of its line. -/
theorem State.exists_timeout {s : State} {i : EntryIx} {x : Txn} (hx : s.txn i = some x) (cause : QuarCause) :
    ∃ e v, s.timeout i cause = (v.enterQuarantine x cause).endProbing i x .probeTimeout ∧
      s.ev.Reported (x.record .probeTimeout) e ∧
      v = { s with
        tt := { s.tt with entries := v.tt.entries }
        hp := { s.hp with cycle := s.handedBack i x }
        ev := e } ∧
      s.TxnBecomes v i (some { x with answer := some .timeout, wbTimer := none }) := by
  let u : State := { (s.modTxn i fun t => { t with answer := some .timeout, wbTimer := none }) with
    hp := { s.hp with cycle := s.handedBack i x } }
  obtain ⟨e, he, hr⟩ := u.exists_reportError (x.record .probeTimeout)
  refine ⟨e, { u with ev := e }, ?_, hr, rfl, State.txnBecomes_modTxn hx _⟩
  rw [State.timeout, hx]
  dsimp only
  rw [State.handBack_eq, ← he]
  rfl

/-- R76, R179: a line joins a table that has room. -/
theorem State.enterQuarantine_of_room {s : State} {x : Txn} (h : s.isQuarantined x.line = false)
    (hroom : s.msc.quarantine.length < 8) (cause : QuarCause) :
    s.enterQuarantine x cause =
      s.setQuarantine (s.msc.quarantine ++ [{ line := x.line, cause := cause, late := false }]) := by
  rw [State.enterQuarantine, if_neg (by rw [h]; nofun), if_pos hroom]

theorem State.endProbing_of_requester {s : State} {i : EntryIx} {x : Txn} {p : PortIx} (hp : x.work.port? = some p)
    (code : ResultCode) : s.endProbing i x code = s.endRequester i x.line code := by
  obtain ⟨-, -, hr, -⟩ := Work.requester_spec hp
  exact if_neg (by rw [hr]; nofun)

/-- R72, R73: a timer that runs out is that of its transaction, and names the cause. -/
theorem exec_timeout_of {s : State} {i : EntryIx} {x : Txn} {c : Instr} {cause : QuarCause} {channel : Channel} (hs : s.Running)
    (hx : s.txn i = some x)
    (h : (∃ l m n, s.pu.channel = .outstanding i l m n ∧ c = .answerTimerExpiry ∧ cause = .answerTimeout ∧
        channel = .quiet s.pu.probeLimit.toNat) ∨
      (∃ n, (x.wbTimer = some (.running n) ∨ x.wbTimer = some (.pendingCounting n)) ∧ c = .wbTimerExpiry i ∧
        cause = .writebackTimeout ∧ channel = s.pu.channel)) :
    exec c s = .next (({ s.clearOut with pu := { s.pu with channel := channel } } : State).timeout i cause).settle := by
  rcases h with ⟨l, m, n, hch, rfl, rfl, rfl⟩ | ⟨n, ht, rfl, rfl, rfl⟩
  · rw [exec, execAnswerTimerExpiry, live_of_running hs]
    simp only [State.clearOut_pu, hch]
    rfl
  · rw [exec, execWbTimerExpiry, live_of_running hs]
    have hcond : ((s.clearOut.txn i).any fun t => t.wbTimer.any WbTimer.counts) = true := by
      rw [show s.clearOut.txn i = some x from hx]
      rcases ht with ht | ht <;> simp [ht, WbTimer.counts]
    exact if_pos hcond

/-- Settles O27, with the requests that wait for the line refused one after another. -/
theorem timeoutsQuarantineTheLine : Obligations.TimeoutsQuarantineTheLine := by
  intro s i x p g ws c cause channel hs hq hx hi hp hg hlock hnodup hiws hws hquar hroom hc
  let u : State := { s.clearOut with pu := { s.pu with channel := channel } }
  obtain ⟨e, v, htime, hrep, hv, hvx⟩ := State.exists_timeout (s := u) hx cause
  have hmsc : v.msc = s.msc := by rw [hv]; rfl
  have hlocks : v.tt.locks = s.tt.locks := by rw [hv]; rfl
  have hports : v.rp = s.rp := by rw [hv]; rfl
  let r : Response := { tag := g, result := .probeTimeout, data := .none }
  let w : State := v.setQuarantine (v.msc.quarantine ++ [{ line := x.line, cause := cause, late := false }])
  have henter : v.enterQuarantine x cause = w :=
    State.enterQuarantine_of_room (by rw [State.isQuarantined, hmsc]; exact hquar) (by rw [hmsc]; exact hroom) cause
  let w' : State := (w.placeResponse p r).freeEntry i
  have hdeaf : w'.Deaf := by
    unfold State.Deaf
    rw [show w'.msc.sweep = s.msc.sweep from show v.msc.sweep = _ by rw [hmsc]]
    exact hq.deaf
  have hline : w'.isQuarantined x.line = true := by
    show (v.msc.quarantine ++ [_]).any _ = true
    simp
  have hentry : ∀ j, j ≠ i → w'.txn j = s.txn j := fun j hj =>
    (State.txn_freeEntry _ i j).trans ((if_neg hj).trans (hvx.2 j hj))
  have hne : ∀ j ∈ ws, j ≠ i := fun j hj he => hiws (he ▸ hj)
  obtain ⟨t, ht, hframe, hgone, hstay, hfree, hans⟩ := hdeaf.exists_handOff_quarantined hline hnodup
    fun j hj => by rw [hentry j (hne j hj)]; exact (hws j hj).2
  have hend : w.endRequester i x.line .probeTimeout = t := by
    have hlock' : w'.lockOf x.line = some { line := x.line, holder := .txn i, waiters := ws } := by
      show v.lockOf x.line = _
      rw [State.lockOf, hlocks]
      exact hlock
    have hrespond : w.respond i .probeTimeout = w' :=
      State.respond_of_requester (s := w) (show w.txn i = _ from hvx.1) hp hg .probeTimeout
    rw [State.endRequester, hrespond, State.releaseLock, hlock']
    dsimp only
    rw [if_pos rfl, hdeaf.hearRelease, ht]
  have hans' : s.Answers t fun q => (if q = p then [r] else []) ++ s.answersOf q .quarantined ws := by
    have hplaced : s.Answers w' fun q => if q = p then [r] else [] := fun q => by
      refine (w.answers_placeResponse p r q).trans ?_
      rw [show w.port q = s.port q from by rw [State.port, show w.rp = s.rp from hports]; rfl]
    intro q
    refine (hplaced.trans hans q).trans ?_
    show ({ s.port q with responses := (s.port q).responses ++
      ((if q = p then [r] else []) ++ w'.answersOf q .quarantined ws) } : Port) = _
    rw [State.answersOf_congr fun j hj => hentry j (hne j hj)]
  have hrecall : recallEntry ∉ i :: ws := fun h => by
    rcases List.mem_cons.mp h with h | h
    · exact hi h.symm
    · exact (hws _ h).1 rfl
  have hkeep : ∀ j, j ∉ i :: ws → t.txn j = s.txn j := fun j hj => by
    rw [hstay j (fun h => hj (List.mem_cons_of_mem i h)), hentry j (fun he => hj (he ▸ List.mem_cons_self))]
  have hall : t = { s with
      tt := { s.tt with entries := t.tt.entries, locks := t.tt.locks }
      pu := { s.pu with channel := channel }
      rp := t.rp
      hp := { s.hp with cycle := s.handedBack i x }
      msc := { s.msc with
        quarantine := s.msc.quarantine ++ [{ line := x.line, cause := cause, late := false }] }
      ev := e
      out := [] } := by
    refine hframe.trans ?_
    simp only [w', w]
    rw [hv]
    rfl
  have hev : t.ev = e := by rw [hall]
  have hhp : t.hp = { s.hp with cycle := s.handedBack i x } := by rw [hall]
  have htt : t.tt = { s.tt with entries := t.tt.entries, locks := t.tt.locks } := congrArg State.tt hall
  have hquiet : t.Quiet := by
    refine ⟨?_, ?_, fun q => ?_, ?_⟩
    · rw [hkeep recallEntry hrecall, hall]
      exact hq.entry11
    · rw [hall]
      rcases hc with ⟨l, m, n, -, -, -, rfl⟩ | ⟨n, -, -, -, rfl⟩
      · exact .inl nofun
      · exact hq.channel
    · rw [hans'.state_eq]
      exact hq.ports q
    · rw [hall]
      exact hq.sweep
  rw [exec_timeout_of hs hx hc]
  refine ⟨t, ?_, hall.trans (by rw [htt, hhp, hev]), htt, fun j hj => ?_, hkeep, ⟨hfree.1, fun m hm => ?_⟩, fun q => ?_, ?_, fun h => ?_, fun k hk hst => ?_⟩
  · exact congrArg _ ((congrArg State.settle ((htime.trans (by rw [henter, State.endProbing_of_requester hp])).trans hend)).trans
      hquiet.settle)
  · rcases List.mem_cons.mp hj with rfl | hj
    · exact (hstay j hiws).trans ((State.txn_freeEntry _ j j).trans (if_pos rfl))
    · exact hgone j hj
  · refine (hfree.2 m hm).trans ?_
    show v.lockOf m = s.lockOf m
    rw [State.lockOf, hlocks]
    rfl
  · rw [List.append_assoc]
    exact hans' q
  · rw [hev, ← Txn.record_of_requester hp hg]
    exact hrep
  · rw [hhp, h.handedBack]
  · rw [hhp, State.handedBack, hk, Option.map_some, if_pos hst]
    rfl

end Sys2Proof.Machine
end

section
/-! SUPPORT. The end of a RECALL without its victim's entry, and the entry into FAULTED (R17, R36, R76, R169, R177, R179). -/

set_option Elab.async false

namespace Sys2Proof.Machine

/-! ### A RECALL that ends without having removed its victim's entry -/

/-- R16, R17: the fill that a RECALL's link names. -/
def State.LinksFill (s : State) (y : Txn) : Prop :=
  ∀ f, y.link = some f → f ≠ recallEntry ∧ ∃ z, s.txn f = some z ∧ z.work.kind = .hFill

/-- R17: the counts of declined fills, and the waiting order, when the fill that a link names is declined. -/
def State.declinedBy (d : Option EntryIx) (es : Vector (Option Txn) 12) (s : State) : State :=
  { s with
    tt := { s.tt with entries := es }
    mp := { s.mp with waiting := d.elim s.mp.waiting (joinTail s.mp.waiting) }
    ev := { s.ev with counters := { s.ev.counters with
      declinedFills := s.ev.counters.declinedFills + (if d.isSome then 1#32 else 0#32) } } }

/-- R17: the fill that the running RECALL's link names is declined. -/
theorem State.exists_declineLinked {s : State} {y : Txn} (hy : s.txn recallEntry = some y) (hr : y.work.isRecall = true) :
    ∃ t y', s.declineLinked = t ∧ t = s.declinedBy y.link t.tt.entries ∧ t.txn recallEntry = some y' ∧ y'.work = y.work ∧
      y'.line = y.line ∧ (s.LinksFill y → ∀ j, j ≠ recallEntry →
        t.txn j = if y.link = some j then (s.txn j).map fun z => { z with phase := .memWait } else s.txn j) := by
  have hlink : s.recallLink = y.link := by rw [State.recallLink, hy]; rfl
  cases hl : y.link with
  | none =>
    refine ⟨s, y, by rw [State.declineLinked, hlink, hl], ?_, hy, rfl, rfl, fun _ j _ => (if_neg nofun).symm⟩
    show s = { s with ev := { s.ev with counters := { s.ev.counters with
      declinedFills := s.ev.counters.declinedFills + 0#32 } } }
    rw [BitVec.add_zero]
  | some f =>
    have hclear := State.txnBecomes_modTxn hy fun t => { t with link := none }
    have hdecline : s.declineLinked = s.clearLink.declineFill f := by rw [State.declineLinked, hlink, hl]
    have hentry : ∀ j, (s.clearLink.declineFill f).txn j =
        if j = f then (s.clearLink.txn f).map fun t => { t.loadWrite with phase := .memWait } else s.clearLink.txn j :=
      fun j => State.txn_modTxn (s.clearLink.bump .declinedFills) f j _
    obtain ⟨y', hy', hw, hline⟩ : ∃ y', (s.clearLink.declineFill f).txn recallEntry = some y' ∧ y'.work = y.work ∧
        y'.line = y.line := by
      have hload : ({ y with link := none } : Txn).loadWrite = { y with link := none } := Txn.loadWrite_of_ne (by
        obtain ⟨b, hb⟩ := Work.exists_of_isRecall hr
        show y.work.kind ≠ _
        rw [hb]
        nofun)
      rw [hentry]
      split
      · rename_i he
        rw [← he, show s.clearLink.txn recallEntry = _ from hclear.1]
        exact ⟨_, rfl, (congrArg Txn.work hload).trans rfl, (congrArg Txn.line hload).trans rfl⟩
      · exact ⟨_, hclear.1, rfl, rfl⟩
    refine ⟨_, y', hdecline, rfl, hy', hw, hline, fun hf j hj => ?_⟩
    obtain ⟨hne, z, hz, hk⟩ := hf f hl
    have hload : z.loadWrite = z := Txn.loadWrite_of_ne (by rw [hk]; nofun)
    have hsame : s.clearLink.txn j = s.txn j := hclear.2 j hj
    rw [hentry]
    by_cases he : j = f
    · subst he
      rw [if_pos rfl, if_pos rfl, hsame, hz, Option.map_some, Option.map_some, hload]
    · rw [if_neg he, hsame, if_neg (fun h => he (Option.some.inj h).symm)]

/-- R17, R36: such a RECALL has ended, with entry 11 left free. -/
theorem State.exists_abandonRecall {s : State} {y : Txn} (hy : s.txn recallEntry = some y) (hr : y.work.isRecall = true)
    (hl : s.HoldsAlone recallEntry y.line) (hsweep : s.msc.sweep.phase = .stopped) (hwait : s.tt.recallWait = []) :
    ∃ t, s.abandonRecall = t ∧
      t = { s.declinedBy y.link t.tt.entries with tt := { s.tt with entries := t.tt.entries, locks := t.tt.locks } } ∧
      t.txn recallEntry = none ∧ s.LockBecomes t y.line none ∧ (s.LinksFill y → ∀ j, j ≠ recallEntry →
        t.txn j = if y.link = some j then (s.txn j).map fun z => { z with phase := .memWait } else s.txn j) := by
  obtain ⟨u, y', hu, hframe, huy, hw, hline, hother⟩ := State.exists_declineLinked hy hr
  have hul : u.HoldsAlone recallEntry y'.line := by rw [hframe, hline]; exact hl
  have hend : s.abandonRecall = (u.freeEntry recallEntry).dropLock y.line := by
    rw [State.abandonRecall, hu, State.endRecall_eq huy (by rw [hw]; exact hr) hul, hline]
    exact State.giveEntry11_of_stopped (by rw [hframe]; exact hsweep) (by rw [hframe]; exact hwait)
  have hlock := (u.freeEntry recallEntry).lockBecomes_dropLock y.line
  rw [hend]
  refine ⟨_, rfl, ?_, u.txn_putTxn_self recallEntry none, ⟨hlock.1, fun m hm => (hlock.2 m hm).trans ?_⟩,
    fun hf j hj => (State.txn_freeEntry u recallEntry j).trans ((if_neg hj).trans (hother hf j hj))⟩
  · rw [hframe]
    rfl
  · rw [hframe]
    rfl

/-! ### The members of the probe queue at the entry into FAULTED -/

/-- R76: a member of the probe queue that holds its line alone: a requester transaction, or the RECALL of entry 11. -/
def State.QueuedAlone (s : State) (k : EntryIx) : Prop :=
  ∃ y, s.txn k = some y ∧ s.HoldsAlone k y.line ∧
    ((k ≠ recallEntry ∧ y.work.port?.isSome = true) ∨ (k = recallEntry ∧ y.work.isRecall = true))

/-- R17: the fill named by the link of a RECALL that is among the members. -/
def State.linkedFill (s : State) (ks : List EntryIx) : Option EntryIx :=
  if recallEntry ∈ ks then (s.txn recallEntry).bind Txn.link else none

/-- R76, R169: the members of the probe queue have left it one after another. -/
structure State.LeftAtFaulted (s t : State) (ks : List EntryIx) : Prop where
  frame : t = { s.declinedBy (s.linkedFill ks) t.tt.entries with
    tt := { s.tt with entries := t.tt.entries, locks := t.tt.locks }, rp := t.rp }
  gone : ∀ k ∈ ks, t.txn k = none ∧ ∀ y, s.txn k = some y → t.lockOf y.line = none
  others : ∀ j, j ∉ ks →
    t.txn j = if s.linkedFill ks = some j then (s.txn j).map fun z => { z with phase := .memWait } else s.txn j
  locks : ∀ l, (∀ k ∈ ks, ∀ y, s.txn k = some y → y.line ≠ l) → t.lockOf l = s.lockOf l
  answers : s.Answers t fun q => s.answersOf q .bridgeFaulted ks

/-- R76: one member has left the queue; what it leaves to the others. -/
structure State.OneLeft (s t : State) (k : EntryIx) (y : Txn) (d : Option EntryIx) : Prop where
  frame : t = { s.declinedBy d t.tt.entries with
    tt := { s.tt with entries := t.tt.entries, locks := t.tt.locks }, rp := t.rp }
  gone : t.txn k = none
  lock : s.LockBecomes t y.line none
  others : ∀ j, j ≠ k → t.txn j = if d = some j then (s.txn j).map fun z => { z with phase := .memWait } else s.txn j
  answers : s.Answers t fun q => s.answersOf q .bridgeFaulted [k]

theorem State.declinedBy_none (s : State) (es : Vector (Option Txn) 12) :
    s.declinedBy none es = { s with tt := { s.tt with entries := es } } := by
  show { s with
    tt := { s.tt with entries := es }
    ev := { s.ev with counters := { s.ev.counters with
      declinedFills := s.ev.counters.declinedFills + 0#32 } } } = _
  rw [BitVec.add_zero]

theorem State.oneLeft {s : State} {k : EntryIx} {y : Txn} (hsweep : s.msc.sweep.phase = .stopped) (hwait : s.tt.recallWait = [])
    (hy : s.txn k = some y) (hl : s.HoldsAlone k y.line)
    (hk : (k ≠ recallEntry ∧ y.work.port?.isSome = true) ∨ (k = recallEntry ∧ y.work.isRecall = true))
    (hf : k = recallEntry → s.LinksFill y) :
    s.OneLeft (s.leaveAtFaulted k) k y (if k = recallEntry then y.link else none) := by
  rw [State.leaveAtFaulted, hy]
  rcases hk with ⟨hk, hport⟩ | ⟨rfl, hr⟩
  · obtain ⟨p, hp⟩ := Option.isSome_iff_exists.mp hport
    obtain ⟨-, -, -, -, htag, -⟩ := Work.requester_spec hp
    obtain ⟨g, hg⟩ := Option.isSome_iff_exists.mp htag
    let r : Response := { tag := g, result := .bridgeFaulted, data := .none }
    have hend : s.endProbing k y .bridgeFaulted = ((s.placeResponse p r).freeEntry k).dropLock y.line :=
      (State.endProbing_of_requester hp _).trans (State.Deaf.endRequester (.inl hsweep) hy hp hg hl .bridgeFaulted)
    rw [if_neg hk]
    dsimp only
    rw [hend]
    refine ⟨?_, (s.placeResponse p r).txn_putTxn_self k none, ?_, fun j hj => ?_, fun q => ?_⟩
    · rw [State.declinedBy_none]
      rfl
    · exact ((s.placeResponse p r).freeEntry k).lockBecomes_dropLock y.line
    · rw [if_neg nofun]
      exact (State.txn_freeEntry _ k j).trans (if_neg hj)
    · have hone : s.answersOf q .bridgeFaulted [k] = if q = p then [r] else [] := by
        rw [State.answersOf_cons hy hp hg]
        exact List.append_nil _
      show _ = ({ s.port q with responses := (s.port q).responses ++ s.answersOf q .bridgeFaulted [k] } : Port)
      rw [hone]
      exact s.answers_placeResponse p r q
  · obtain ⟨t, ht, hframe, hgone, hlock, hother⟩ := State.exists_abandonRecall hy hr hl hsweep hwait
    have hend : s.endProbing recallEntry y .bridgeFaulted = t := (if_pos hr).trans ht
    rw [if_pos rfl]
    dsimp only
    rw [hend]
    have hrp : t.rp = s.rp := by rw [hframe]; rfl
    refine ⟨?_, hgone, hlock, hother (hf rfl), fun q => ?_⟩
    · rw [hrp]
      exact hframe
    · have hone : s.answersOf q .bridgeFaulted [recallEntry] = [] := by
        obtain ⟨b, hw⟩ := Work.exists_of_isRecall hr
        unfold State.answersOf
        simp [hy, hw, Work.port?, Work.issuer]
      show _ = ({ s.port q with responses := (s.port q).responses ++ s.answersOf q .bridgeFaulted [recallEntry] } : Port)
      rw [hone]
      exact State.answers_refl hrp q

theorem State.leftAtFaulted {ks : List EntryIx} : ∀ {s : State}, s.msc.sweep.phase = .stopped → s.tt.recallWait = [] →
    ks.Nodup → (∀ k ∈ ks, s.QueuedAlone k) →
    (∀ f, s.linkedFill ks = some f → f ∉ ks ∧ f ≠ recallEntry ∧ ∃ z, s.txn f = some z ∧ z.work.kind = .hFill) →
    s.LeftAtFaulted (ks.foldl State.leaveAtFaulted s) ks := by
  induction ks with
  | nil =>
    intro s _ _ _ _ _
    refine ⟨?_, nofun, fun j _ => (if_neg nofun).symm, fun _ _ => rfl, State.answers_refl rfl⟩
    rw [show s.linkedFill [] = none from rfl, State.declinedBy_none]
    rfl
  | cons k ks ih =>
    intro s hsweep hwait hnodup hks hfill
    obtain ⟨hk, hnodup'⟩ := List.nodup_cons.mp hnodup
    obtain ⟨y, hy, hl, hkind⟩ := hks k List.mem_cons_self
    obtain ⟨d, hd⟩ : ∃ d, d = s.linkedFill (k :: ks) := ⟨_, rfl⟩
    obtain ⟨d₁, hd₁⟩ : ∃ d₁, d₁ = if k = recallEntry then y.link else none := ⟨_, rfl⟩
    have hrecallLink : k = recallEntry → d = y.link := fun he => by
      rw [hd, State.linkedFill, if_pos (he ▸ List.mem_cons_self), ← he, hy]
      rfl
    have hdne : ∀ {f}, d = some f → f ∉ k :: ks := fun h => (hfill _ (hd ▸ h)).1
    have hone : s.OneLeft (s.leaveAtFaulted k) k y d₁ := hd₁ ▸ State.oneLeft hsweep hwait hy hl hkind
      fun he f hf => (hfill f (hd ▸ (hrecallLink he).trans hf)).2
    obtain ⟨u, hu⟩ : ∃ u, u = s.leaveAtFaulted k := ⟨_, rfl⟩
    rw [← hu] at hone
    have hsplit : (d₁ = d ∧ u.linkedFill ks = none) ∨ (d₁ = none ∧ u.linkedFill ks = d) := by
      by_cases he : k = recallEntry
      · exact .inl ⟨by rw [hd₁, if_pos he, hrecallLink he], if_neg (he ▸ hk)⟩
      · refine .inr ⟨by rw [hd₁, if_neg he], ?_⟩
        have hsame : u.txn recallEntry = s.txn recallEntry := by
          rw [hone.others recallEntry (Ne.symm he), hd₁, if_neg he, if_neg nofun]
        rw [hd, State.linkedFill, State.linkedFill, hsame]
        by_cases hm : recallEntry ∈ ks
        · rw [if_pos hm, if_pos (List.mem_cons_of_mem k hm)]
        · rw [if_neg hm, if_neg (fun h => (List.mem_cons.mp h).elim (fun h => he h.symm) hm)]
    have hd₁d : ∀ {f}, d₁ = some f → d = some f := fun h => by
      rcases hsplit with ⟨h', -⟩ | ⟨h', -⟩
      · rw [← h', h]
      · rw [h'] at h
        cases h
    have hsame : ∀ j ∈ ks, u.txn j = s.txn j := fun j hj => by
      rw [hone.others j (fun he => hk (he ▸ hj)), if_neg (fun h => hdne (hd₁d h) (List.mem_cons_of_mem k hj))]
    have hlines : ∀ j ∈ ks, ∀ z, s.txn j = some z → z.line ≠ y.line := fun j hj z hz he => by
      obtain ⟨z', hz', hl', -⟩ := hks j (List.mem_cons_of_mem k hj)
      obtain rfl := Option.some.inj (hz.symm.trans hz')
      rw [State.HoldsAlone, he] at hl'
      have := congrArg LockRec.holder (Option.some.inj (hl.symm.trans hl'))
      exact hk (Holder.txn.inj this ▸ hj)
    have ht := ih (s := u) (by rw [hone.frame]; exact hsweep) (by rw [hone.frame]; exact hwait) hnodup'
      (fun j hj => by
        obtain ⟨z, hz, hlz, hkz⟩ := hks j (List.mem_cons_of_mem k hj)
        exact ⟨z, (hsame j hj).trans hz, (hone.lock.2 z.line (hlines j hj z hz)).trans hlz, hkz⟩)
      (fun f hf => by
        rcases hsplit with ⟨-, h⟩ | ⟨h₁, h⟩
        · rw [h] at hf
          cases hf
        · obtain ⟨hnot, hne, z, hz, hkz⟩ := hfill f (hd ▸ h ▸ hf)
          refine ⟨fun h => hnot (List.mem_cons_of_mem k h), hne, z, ?_, hkz⟩
          rw [hone.others f (fun he => hnot (he ▸ List.mem_cons_self)), h₁, if_neg nofun, hz])
    rw [List.foldl_cons, ← hu]
    obtain ⟨t, htdef⟩ : ∃ t, t = ks.foldl State.leaveAtFaulted u := ⟨_, rfl⟩
    rw [← htdef] at ht ⊢
    refine ⟨?_, fun j hj => ?_, fun j hj => ?_, fun l hl' => ?_, fun q => ?_⟩
    · refine ht.frame.trans ?_
      rw [← hd]
      rcases hsplit with ⟨h₁, h₂⟩ | ⟨h₁, h₂⟩
      · rw [h₂, State.declinedBy_none, ← h₁, hone.frame]
        rfl
      · rw [h₂, hone.frame, h₁, State.declinedBy_none]
        rfl
    · rcases List.mem_cons.mp hj with rfl | hj
      · refine ⟨?_, fun z hz => ?_⟩
        · rw [ht.others j hk, hone.gone]
          exact ite_self _
        · obtain rfl := Option.some.inj (hy.symm.trans hz)
          rw [ht.locks y.line fun k' hk' z hz => hlines k' hk' z ((hsame k' hk').symm.trans hz)]
          exact hone.lock.1
      · exact ⟨(ht.gone j hj).1, fun z hz => (ht.gone j hj).2 z ((hsame j hj).trans hz)⟩
    · obtain ⟨hjk, hjs⟩ := not_or.mp (fun h => hj (List.mem_cons.mpr h))
      rw [ht.others j hjs, hone.others j hjk, ← hd]
      rcases hsplit with ⟨h₁, h₂⟩ | ⟨h₁, h₂⟩
      · rw [h₁, h₂, if_neg nofun]
      · rw [h₁, h₂, if_neg (show (none : Option EntryIx) ≠ some j from nofun)]
    · have hlk : l ≠ y.line := fun he => hl' k List.mem_cons_self y hy he.symm
      rw [ht.locks l fun k' hk' z hz => hl' k' (List.mem_cons_of_mem k hk') z ((hsame k' hk').symm.trans hz)]
      exact hone.lock.2 l hlk
    · refine (hone.answers.trans ht.answers q).trans ?_
      show ({ s.port q with responses := (s.port q).responses ++
        (s.answersOf q .bridgeFaulted [k] ++ u.answersOf q .bridgeFaulted ks) } : Port) = _
      rw [State.answersOf_congr hsame]
      unfold State.answersOf
      rw [← List.filterMap_append]
      rfl

/-! ### The entry into FAULTED -/

/-- R177, R195: the flags that the end of a running sweep raises at the entry into FAULTED. -/
def Sweep.faultedFlags (w : Sweep) : BitVec 17 :=
  if w.phase = .stopped then 0#17 else if w.origin = .setMode then 0x1800#17 else 0x800#17

theorem State.endLongOperation_eq (s : State) : s.endLongOperation = { s with mg := s.mg.operationEnded } := by
  unfold State.endLongOperation Management.operationEnded
  split
  · rfl
  · rfl

/-- R176, R195: a running sweep ends. -/
theorem State.stopSweep_eq {s : State} (h : s.msc.sweep.phase ≠ .stopped) :
    s.stopSweep = { s with
      msc := { s.msc with sweep := s.msc.sweep.ended s.entryCount }
      mg := s.mg.operationEnded
      ev := { s.ev with flags := s.ev.flags ||| 0x800#17 } } := by
  rw [State.stopSweep, State.endLongOperation_eq, Sweep.ended, if_neg h]
  rfl

/-- R177: the end of a sweep at the entry into FAULTED. -/
theorem State.endSweepFaulted_eq (s : State) :
    s.endSweepFaulted = { s with
      msc := { s.msc with sweep := s.msc.sweep.ended s.entryCount }
      mg := if s.msc.sweep.phase = .stopped then s.mg else s.mg.operationEnded
      ev := { s.ev with flags := s.ev.flags ||| s.msc.sweep.faultedFlags } } := by
  unfold Sweep.faultedFlags
  by_cases h : s.msc.sweep.phase = .stopped
  · have hcond : ¬ s.sweeping = true := by simp [State.sweeping, h]
    rw [State.endSweepFaulted, if_neg hcond, if_pos h, if_pos h, Sweep.ended, if_pos h, BitVec.or_zero]
  · have hcond : s.sweeping = true := by simp [State.sweeping, h]
    rw [State.endSweepFaulted, if_pos hcond, if_neg h, if_neg h, State.stopSweep_eq h]
    cases ho : s.msc.sweep.origin with
    | setMode =>
      rw [if_pos rfl, show (0x1800#17) = 0x800#17 ||| 0x1000#17 by decide, ← BitVec.or_assoc]
      rfl
    | sweep | none => rfl

/-- R76, R179: a line meets a full table. -/
theorem State.exists_enterQuarantine_of_full {s : State} {x : Txn} (h : s.isQuarantined x.line = false)
    (hfull : 8 ≤ s.msc.quarantine.length) (cause : QuarCause) :
    ∃ e, s.ev.Reported (x.record .quarantineFull) e ∧ s.enterQuarantine x cause =
      if s.msc.mode = .coherent then ({ s with ev := e } : State).enterFaulted else { s with ev := e } := by
  obtain ⟨e, he, hr⟩ := s.exists_reportError (x.record .quarantineFull)
  refine ⟨e, hr, ?_⟩
  rw [State.enterQuarantine, if_neg (by rw [h]; nofun), if_neg (by omega)]
  dsimp only
  rw [he]

/-- Settles O28, for a RECALL, in FAULTED, and at the entry into FAULTED. -/
theorem timeoutOfARecallAndEntryIntoFaulted : Obligations.TimeoutOfARecallAndEntryIntoFaulted := by
  refine ⟨fun s x l m n hs hch hx hr hnot hl hquar hroom hsweep hwait hports => ?recalled,
    fun s i x p g l m n hs hch hx hi hp hg hnot hl hquar hfull r hrec => ⟨fun hmode hq hsweep => ?faulted,
      fun ks d flags hmode hwait hports hqueue hnodup hik hks hd hfill hflags => ?entered⟩⟩
  case recalled =>
    let u : State := { s.clearOut with pu := { s.pu with channel := .quiet s.pu.probeLimit.toNat } }
    obtain ⟨e, v, htime, hrep, hv, hvx⟩ := State.exists_timeout (s := u) hx .answerTimeout
    rw [State.NotAttached.handedBack (s := u) hnot] at hv
    let w : State := v.setQuarantine (v.msc.quarantine ++ [{ line := x.line, cause := .answerTimeout, late := false }])
    have henter : v.enterQuarantine x .answerTimeout = w :=
      State.enterQuarantine_of_room (by rw [hv]; exact hquar) (by rw [hv]; exact hroom) .answerTimeout
    obtain ⟨t, ht, hframe, hgone, hlock, hother⟩ := State.exists_abandonRecall (s := w) hvx.1 hr
      (by show v.HoldsAlone _ _; rw [hv]; exact hl) (by show v.msc.sweep.phase = _; rw [hv]; exact hsweep)
      (by show v.tt.recallWait = _; rw [hv]; exact hwait)
    have hall : t = { s with
        tt := { s.tt with entries := t.tt.entries, locks := t.tt.locks }
        mp := { s.mp with waiting := x.link.elim s.mp.waiting (joinTail s.mp.waiting) }
        pu := { s.pu with channel := .quiet s.pu.probeLimit.toNat }
        msc := { s.msc with
          quarantine := s.msc.quarantine ++ [{ line := x.line, cause := .answerTimeout, late := false }] }
        ev := { e with counters := { e.counters with
          declinedFills := e.counters.declinedFills + (if x.link.isSome then 1#32 else 0#32) } }
        out := [] } := by
      refine hframe.trans ?_
      simp only [w, State.declinedBy]
      rw [hv]
      rfl
    have hrecord : x.record .probeTimeout =
        { kind := .probeTimeout, issuer := .internal, line := x.line, txnKind := .recall, tag := none } := by
      obtain ⟨b, hw⟩ := Work.exists_of_isRecall hr
      rw [Txn.record, hw]
      rfl
    have hquiet : t.Quiet := by
      rw [hall]
      exact ⟨.inr ⟨hsweep, hwait⟩, .inl nofun, hports, .inl hsweep⟩
    have hev : t.ev = { e with counters := { e.counters with
        declinedFills := e.counters.declinedFills + (if x.link.isSome then 1#32 else 0#32) } } := by rw [hall]
    have hmp : t.mp = { s.mp with waiting := x.link.elim s.mp.waiting (joinTail s.mp.waiting) } := by rw [hall]
    have htt : t.tt = { s.tt with entries := t.tt.entries, locks := t.tt.locks } := congrArg State.tt hall
    have hend : u.timeout recallEntry .answerTimeout = t := by
      rw [htime, henter]
      exact (if_pos hr).trans ht
    have hsame : ∀ j, j ≠ recallEntry → w.txn j = s.txn j := hvx.2
    have hlinks : ∀ {f z}, x.link = some f → f ≠ recallEntry → s.txn f = some z → z.work.kind = .hFill →
        w.LinksFill { x with answer := some .timeout, wbTimer := none } := fun hlink hf hz hk f' hf' => by
      obtain rfl := Option.some.inj (hlink.symm.trans hf')
      exact ⟨hf, _, (hsame _ hf).trans hz, hk⟩
    rw [exec_timeout_of hs hx (.inl ⟨l, m, n, hch, rfl, rfl, rfl⟩)]
    refine ⟨t, e, congrArg _ ((congrArg State.settle hend).trans hquiet.settle), hall.trans (by rw [hev, hmp, htt]), htt, hgone,
      ⟨hlock.1, fun l hl => ?_⟩, hrecord ▸ hrep, fun hlink => ⟨?_, ?_, fun j hj => ?_⟩,
      fun f z hlink hf hz hk => ⟨?_, ?_, ?_, fun j hj hjf => ?_⟩⟩
    · refine (hlock.2 l hl).trans ?_
      show v.lockOf l = s.lockOf l
      rw [hv]
      rfl
    · rw [hev, hlink]
      show { e with counters := { e.counters with declinedFills := e.counters.declinedFills + 0#32 } } = e
      rw [BitVec.add_zero]
    · rw [hmp, hlink]
      rfl
    · have hnone : ∀ f, x.link ≠ some f := fun f h => nomatch hlink.symm.trans h
      exact ((hother (fun f hf => absurd hf (hnone f)) j hj).trans (if_neg (hnone j))).trans (hsame j hj)
    · rw [hev, hlink]
      rfl
    · rw [hmp, hlink]
      rfl
    · have := (hother (hlinks hlink hf hz hk) f hf).trans (if_pos hlink)
      rw [this, hsame f hf, hz]
      rfl
    · refine ((hother (hlinks hlink hf hz hk) j hj).trans (if_neg fun h => hjf ?_)).trans (hsame j hj)
      exact Option.some.inj (h.symm.trans hlink)
  case faulted =>
    let u : State := { s.clearOut with pu := { s.pu with channel := .quiet s.pu.probeLimit.toNat } }
    obtain ⟨e, v, htime, hrep, hv, hvx⟩ := State.exists_timeout (s := u) hx .answerTimeout
    rw [State.NotAttached.handedBack (s := u) hnot] at hv
    obtain ⟨e', hrep', henter⟩ := State.exists_enterQuarantine_of_full (s := v) (x := x) (by rw [hv]; exact hquar)
      (by rw [hv]; exact hfull) .answerTimeout
    have hmode' : v.msc.mode ≠ .coherent := by
      rw [show v.msc.mode = .faulted from by rw [hv]; exact hmode]
      nofun
    rw [if_neg hmode'] at henter
    let w : State := { v with ev := e' }
    have hwq : w.Quiet := by
      refine hq.of_eq ((congrArg Option.isSome (hvx.2 recallEntry (Ne.symm hi)))) ?_ ?_ ?_ fun p => ?_ <;> simp only [w] <;> rw [hv]
      · rfl
      · rfl
      · exact .inl nofun
      · rfl
    have hwl : w.HoldsAlone i x.line := by
      show v.lockOf x.line = _
      rw [hv]
      exact hl
    obtain ⟨t, ht, hframe, htable, hlock, hport⟩ := hwq.settle_endRequester hi (show w.txn i = _ from hvx.1) hp hg hwl .probeTimeout
    have hend : u.timeout i .answerTimeout = w.endRequester i x.line .probeTimeout := by
      rw [htime, henter, State.endProbing_of_requester hp]
    have hev : t.ev = e' := by rw [hframe]
    have htt : t.tt = { s.tt with entries := t.tt.entries, locks := t.tt.locks } := by
      refine (congrArg State.tt hframe).trans ?_
      simp only [w]
      rw [hv]
      rfl
    have hall : t = { s with
        tt := t.tt, rp := t.rp, pu := { s.pu with channel := .quiet s.pu.probeLimit.toNat }, ev := t.ev, out := [] } := by
      rw [htt, hev]
      refine hframe.trans ?_
      simp only [w]
      rw [hv]
      rfl
    rw [exec_timeout_of hs hx (.inl ⟨l, m, n, hch, rfl, rfl, rfl⟩)]
    refine ⟨t, e, congrArg _ ((congrArg State.settle hend).trans ht), hall, htt, ?_, ?_, ?_, ?_, ?_⟩
    · exact hvx.trans htable
    · refine ⟨hlock.1, fun l hl => (hlock.2 l hl).trans ?_⟩
      show v.lockOf l = s.lockOf l
      rw [hv]
      rfl
    · have hsame : ∀ q, w.port q = s.port q := fun q => by
        show v.port q = s.port q
        rw [hv]
        rfl
      exact ⟨by rw [hport.1, hsame]; rfl, fun q hq => (hport.2 q hq).trans (hsame q)⟩
    · rw [hrec, ← Txn.record_of_requester hp hg]
      exact hrep
    · have hve : v.ev = e := by rw [hv]
      rw [hve, Txn.record_of_requester hp hg] at hrep'
      rw [hev, hrec]
      exact hrep'
  case entered =>
    let u : State := { s.clearOut with pu := { s.pu with channel := .quiet s.pu.probeLimit.toNat } }
    obtain ⟨e, v, htime, hrep, hv, hvx⟩ := State.exists_timeout (s := u) hx .answerTimeout
    rw [State.NotAttached.handedBack (s := u) hnot] at hv
    obtain ⟨e', hrep', henter⟩ := State.exists_enterQuarantine_of_full (s := v) (x := x) (by rw [hv]; exact hquar)
      (by rw [hv]; exact hfull) .answerTimeout
    rw [if_pos (by rw [hv]; exact hmode)] at henter
    have hkne : ∀ k ∈ ks, k ≠ i := fun k hk he => hik (he ▸ hk)
    obtain ⟨w, hw, hwx⟩ : ∃ w, ({ v with ev := e' } : State).enterFaulted = ks.foldl State.leaveAtFaulted w ∧
        w = { s with
          tt := { s.tt with entries := v.tt.entries }
          pu := { s.pu with queue := [], channel := .quiet s.pu.probeLimit.toNat }
          msc := { s.msc with mode := .faulted, sweep := s.msc.sweep.ended s.entryCount }
          mg := if s.msc.sweep.phase = .stopped then s.mg else s.mg.operationEnded
          ev := { e' with flags := e'.flags ||| flags }
          out := [] } := by
      refine ⟨_, ?_, rfl⟩
      rw [State.enterFaulted, State.endSweepFaulted_eq]
      have hvqueue : v.pu.queue = ks := by rw [hv]; exact hqueue
      refine congr (congrArg (List.foldl State.leaveAtFaulted) ?_) hvqueue
      rw [hflags]
      simp only [State.setMode]
      rw [hv]
      rfl
    have hwtxn : ∀ j, j ≠ i → w.txn j = s.txn j := fun j hj => by
      rw [hwx]
      exact hvx.2 j hj
    have hwlock : ∀ l, w.lockOf l = s.lockOf l := fun l => by rw [hwx]; rfl
    have hwd : w.linkedFill ks = d := by
      rw [hd, State.linkedFill, hwtxn recallEntry (Ne.symm hi)]
    have hstopped : w.msc.sweep.phase = .stopped := by
      rw [hwx]
      show (s.msc.sweep.ended s.entryCount).phase = .stopped
      unfold Sweep.ended
      split
      · assumption
      · rfl
    have hwwait : w.tt.recallWait = [] := by rw [hwx]; exact hwait
    have hleft : w.LeftAtFaulted (ks.foldl State.leaveAtFaulted w) ks := by
      refine State.leftAtFaulted hstopped hwwait hnodup (fun k hk => ?_) fun f hf => ?_
      · obtain ⟨y, hy, hly, hky⟩ := hks k hk
        exact ⟨y, (hwtxn k (hkne k hk)).trans hy, (hwlock _).trans hly, hky⟩
      · obtain ⟨hnot, hne, z, hz, hkz⟩ := hfill f (hwd ▸ hf)
        exact ⟨fun h => hnot (List.mem_cons_of_mem i h), hne, z, (hwtxn f fun he => hnot (he ▸ List.mem_cons_self)).trans hz, hkz⟩
    obtain ⟨z, hz⟩ : ∃ z, z = ks.foldl State.leaveAtFaulted w := ⟨_, rfl⟩
    rw [← hz] at hleft hw
    have hzd : ∀ {j}, w.linkedFill ks = some j → j ∉ i :: ks := fun h => (hfill _ (hwd ▸ h)).1
    have hzx : z.txn i = some { x with answer := some .timeout, wbTimer := none } := by
      rw [hleft.others i hik, if_neg (fun h => hzd h List.mem_cons_self), hwx]
      exact hvx.1
    have hlines : ∀ k ∈ ks, ∀ y, s.txn k = some y → y.line ≠ x.line := fun k hk y hy he => by
      obtain ⟨y', hy', hly, -⟩ := hks k hk
      obtain rfl := Option.some.inj (hy.symm.trans hy')
      rw [State.HoldsAlone, he] at hly
      exact hkne k hk (Holder.txn.inj (congrArg LockRec.holder (Option.some.inj (hly.symm.trans hl))))
    have hzl : z.HoldsAlone i x.line := by
      refine (hleft.locks x.line fun k hk y hy => hlines k hk y ((hwtxn k (hkne k hk)).symm.trans hy)).trans ?_
      exact (hwlock _).trans hl
    have hzdeaf : z.Deaf := .inl (by rw [hleft.frame]; exact hstopped)
    let resp : Response := { tag := g, result := .probeTimeout, data := .none }
    obtain ⟨t, ht⟩ : ∃ t, t = ((z.placeResponse p resp).freeEntry i).dropLock x.line := ⟨_, rfl⟩
    have hend : u.timeout i .answerTimeout = t := by
      rw [htime, henter, hw, State.endProbing_of_requester hp, ht]
      exact hzdeaf.endRequester hzx hp hg hzl .probeTimeout
    have hall : t = { s with
        tt := { s.tt with entries := t.tt.entries, locks := t.tt.locks }
        rp := t.rp
        mp := { s.mp with waiting := d.elim s.mp.waiting (joinTail s.mp.waiting) }
        pu := { s.pu with queue := [], channel := .quiet s.pu.probeLimit.toNat }
        msc := { s.msc with mode := .faulted, sweep := s.msc.sweep.ended s.entryCount }
        mg := if s.msc.sweep.phase = .stopped then s.mg else s.mg.operationEnded
        ev := { e' with
          flags := e'.flags ||| flags
          counters := { e'.counters with
            declinedFills := e'.counters.declinedFills + (if d.isSome then 1#32 else 0#32) } }
        out := [] } := by
      have hdef := hleft.frame
      rw [hwd] at hdef
      rw [ht]
      simp only [resp]
      rw [hdef, hwx]
      rfl
    have hentry : ∀ j, t.txn j = if j = i then none else z.txn j := fun j => by
      rw [ht]
      exact State.txn_freeEntry _ i j
    have hlock : z.LockBecomes t x.line none := by
      rw [ht]
      exact ((z.placeResponse p resp).freeEntry i).lockBecomes_dropLock x.line
    have hans : s.Answers t fun q => s.answersOf q .bridgeFaulted ks ++
        if q = p then [{ tag := g, result := .probeTimeout, data := .none }] else [] := by
      have h1 : s.Answers z fun q => s.answersOf q .bridgeFaulted ks := fun q => by
        refine (hleft.answers q).trans ?_
        dsimp only
        rw [State.answersOf_congr fun k hk => hwtxn k (hkne k hk), show w.port q = s.port q from by rw [hwx]; rfl]
      have h2 : z.Answers t fun q => if q = p then [resp] else [] := by
        rw [ht]
        exact z.answers_placeResponse p resp
      exact h1.trans h2
    have hquiet : t.Quiet := by
      refine ⟨.inr ?_, .inl ?_, fun q => ?_, .inl ?_⟩
      · rw [hall]
        exact ⟨by rw [hwx] at hstopped; exact hstopped, hwait⟩
      · rw [hall]
        nofun
      · rw [hans.state_eq]
        exact hports q
      · rw [hall]
        rw [hwx] at hstopped
        exact hstopped
    have htt : t.tt = { s.tt with entries := t.tt.entries, locks := t.tt.locks } := congrArg State.tt hall
    have hev : t.ev = { e' with
        flags := e'.flags ||| flags
        counters := { e'.counters with
          declinedFills := e'.counters.declinedFills + (if d.isSome then 1#32 else 0#32) } } := by rw [hall]
    rw [exec_timeout_of hs hx (.inl ⟨l, m, n, hch, rfl, rfl, rfl⟩)]
    refine ⟨t, e, e', congrArg _ ((congrArg State.settle hend).trans hquiet.settle), hall.trans (by rw [htt, hev]), htt,
      fun k hk => ?_, fun j hj => ?_, fun l' hl' => ?_, fun q => ?_, ?_, ?_, hev⟩
    · rcases List.mem_cons.mp hk with rfl | hk
      · refine ⟨(hentry k).trans (if_pos rfl), fun y hy => ?_⟩
        obtain rfl := Option.some.inj (hx.symm.trans hy)
        exact hlock.1
      · refine ⟨(hentry k).trans ((if_neg (hkne k hk)).trans (hleft.gone k hk).1), fun y hy => ?_⟩
        rw [hlock.2 y.line (hlines k hk y hy)]
        exact (hleft.gone k hk).2 y ((hwtxn k (hkne k hk)).trans hy)
    · obtain ⟨hji, hjk⟩ := not_or.mp (fun h => hj (List.mem_cons.mpr h))
      rw [hentry, if_neg hji, hleft.others j hjk, hwd, hwtxn j hji]
    · rw [hlock.2 l' (fun he => hl' i List.mem_cons_self x hx he.symm),
        hleft.locks l' (fun k hk y hy => hl' k (List.mem_cons_of_mem i hk) y ((hwtxn k (hkne k hk)).symm.trans hy)), hwlock]
    · refine (hans q).trans ?_
      simp only [List.append_assoc]
    · rw [hrec, ← Txn.record_of_requester hp hg]
      exact hrep
    · have hve : v.ev = e := by rw [hv]
      rw [hve, Txn.record_of_requester hp hg] at hrep'
      rw [hrec]
      exact hrep'

end Sys2Proof.Machine
end

section
/-! SUPPORT. The end of the quiet period, and the expiry of the lock timer (R15, R48, R58 to R60, R74, R111). -/

set_option Elab.async false

namespace Sys2Proof.Machine

/-! ### Entry 11 handed on -/

theorem State.giveEntry11_of_entry11 {s : State}
    (h : (s.txn recallEntry).isSome ∨ (s.msc.sweep.phase = .stopped ∧ s.tt.recallWait = [])) : s.giveEntry11 = s :=
  h.elim State.giveEntry11_of_isSome fun h => State.giveEntry11_of_stopped h.1 h.2

/-- R10, R15: a fill that waited for entry 11 takes a way that has come free. -/
def State.tookWay (f : EntryIx) (l : Line) (w : Way) (p : EntryPolicy) (s : State) : State :=
  (s.putSet l ({ way := w, line := l, state := .reserved, policy := p } :: s.dirSet l)).toMemWait f

/-- R15, R48: entry 11 is free, and the fill that waits for it takes a free way. -/
theorem State.giveEntry11_of_freeWay {s : State} {f : EntryIx} {z : Txn} {a : Attr} {p : EntryPolicy} {w : Way}
    (h11 : s.txn recallEntry = none) (hsweep : s.msc.sweep.phase = .stopped) (hwait : s.tt.recallWait = [f])
    (hf : f ≠ recallEntry) (hz : s.txn f = some z) (ha : z.snapshot = some a) (hp : a.policy.entryPolicy = some p)
    (hmode : s.msc.mode = .coherent) (hquar : s.isQuarantined z.line = false) (hfind : s.findEntry z.line = none)
    (hfree : ∀ e ∈ s.dirSet z.line, e.way ≠ w) (hbelow : ∀ v : Way, v < w → ∃ e ∈ s.dirSet z.line, e.way = v) :
    s.giveEntry11 = ({ s with tt := { s.tt with recallWait := [] } } : State).tookWay f z.line w p := by
  let u : State := { s with tt := { s.tt with recallWait := [] } }
  have hdecide : u.decideFill f z.line a = u.tookWay f z.line w p := by
    have hno : u.declines z.line a = false := State.declines_eq_false hmode hsweep hquar hp
    have hhas : ¬ u.hasEntry z.line = true := by
      rw [State.hasEntry, show u.findEntry z.line = none from hfind]
      nofun
    rw [State.decideFill, hno, hp]
    refine (if_neg nofun).trans ?_
    dsimp only
    rw [if_neg hhas, freeWay_eq_some (es := u.dirSet z.line) hfree hbelow]
    dsimp only
    rw [State.insertEntry_of_free (s := u) hfree hfind]
    rfl
  have hnone : (u.tookWay f z.line w p).txn recallEntry = none := by
    refine (State.txn_modTxn (u.putSet z.line _) f recallEntry _).trans ?_
    exact (if_neg (Ne.symm hf)).trans h11
  rw [State.giveEntry11, if_neg (by rw [h11]; nofun), hsweep]
  dsimp only
  rw [hwait, State.serveRecallWait]
  simp only [show ({ s with tt := { s.tt with recallWait := [] } } : State).txn f = some z from hz, ha]
  rw [hdecide, if_neg (by rw [hnone]; nofun)]
  rfl

theorem State.declineLinked_of_none {s : State} (h : s.recallLink = none) : s.declineLinked = s := by
  rw [State.declineLinked, h]

/-- R60: a RECALL that is answered MISS or CLEAN, or skipped, ends. -/
theorem State.goOnWithoutData_of_recall {s : State} {x : Txn} (hx : s.txn recallEntry = some x)
    (hr : x.work.isRecall = true) : s.goOnWithoutData recallEntry = s.endRecall := by
  rw [State.goOnWithoutData, hx]
  exact if_pos hr

/-! ### The quiet period's end -/

theorem State.pumpProbes_of_nil {s : State} (h : s.pu.queue = []) (n : Nat) : s.pumpProbes n = s := by
  cases n with
  | zero => rfl
  | succ n =>
    rw [State.pumpProbes, h]
    exact ite_self s

/-- R58, R59: the one member of the queue is skipped, and nothing follows it there. -/
theorem State.settle_skip {s u : State} {i : EntryIx} {x : Txn} (h11 : s.giveEntry11 = s) (hch : s.pu.channel = .idle)
    (hmode : s.msc.mode ≠ .faulted) (hq : s.pu.queue = [i]) (hx : s.txn i = some x) (hheld : s.isHeld x.line = false)
    (hu : (if x.work.isRecall then (s.setQueue []).declineLinked else s.setQueue []).goOnWithoutData i = u)
    (huq : u.pu.queue = []) (hports : ∀ p, (u.port p).state ≠ .draining) : s.settle = u := by
  have hcond : ¬ (s.pu.channel ≠ .idle ∨ s.msc.mode = .faulted) := by simp [hch, hmode]
  have hx' : (s.setQueue []).txn i = some x := hx
  have hheld' : ¬ (s.setQueue []).isHeld x.line = true := by rw [show (s.setQueue []).isHeld x.line = false from hheld]; nofun
  rw [State.settle, h11, pumpBound, State.pumpProbes, if_neg hcond, hq]
  simp only [hx']
  rw [if_neg hheld', hu, State.pumpProbes_of_nil huq]
  exact State.drainPorts_of_none hports

theorem exec_quietTimerExpiry_of {s : State} {n : Nat} (hs : s.Running) (h : s.pu.channel = .quiet n) :
    exec .quietTimerExpiry s = .next ((s.clearOut.setChannel .idle).settle) := by
  rw [exec, execQuietTimerExpiry, live_of_running hs]
  simp only [State.clearOut_pu, h]

theorem Txn.loadWrite_frame (x : Txn) : x.loadWrite = { x with buf := x.loadWrite.buf, mask := x.loadWrite.mask } := by
  unfold Txn.loadWrite
  split
  · split <;> rfl
  · rfl

theorem exec_lockTimerExpiry_of {s : State} {n : Nat} {l : Line} {ls : List Line} {k : LockedKind} (hs : s.Running)
    (ht : s.hp.lockTimer = some n) (hset : s.hp.lockSet = l :: ls) (hk : s.hp.lastLocked = some k) :
    exec .lockTimerExpiry s = .next (s.clearOut.lockTimeout l k).settle := by
  rw [exec, execLockTimerExpiry, live_of_running hs]
  simp only [State.clearOut_hp, ht, hset, hk]

/-- Settles O29, for each head of the queue, and for the lock timer. -/
theorem quietAndLockTimersExpire : Obligations.QuietAndLockTimersExpire := by
  refine ⟨fun s n hs hq hch => ⟨fun hqueue => ?nothing, fun i x m rest hqueue hmode hx hm hheld => ?issued,
    fun i x hqueue hmode hx hport hheld => ?skipped, fun x hqueue hmode hx hr hlink hheld hl hsweep => ⟨fun hwait => ?recalled,
      fun f z a p w hwait hf hz hk ha hp hcoh hquar hfind hfree hbelow => ?waiting⟩⟩,
    fun s l ls k n hs hq ht' hset hk hnodup hls => ?lock⟩
  case nothing =>
    have hquiet : (s.clearOut.setChannel .idle).Quiet := hq.of_eq rfl rfl rfl (.inr hqueue.symm) fun _ => rfl
    rw [exec_quietTimerExpiry_of hs hch, hquiet.settle]
    rfl
  case issued =>
    have h11 : (s.clearOut.setChannel .idle).giveEntry11 = s.clearOut.setChannel .idle :=
      State.giveEntry11_of_entry11 hq.entry11
    rw [exec_quietTimerExpiry_of hs hch, State.settle_issue (s := s.clearOut.setChannel .idle) h11 rfl hmode hqueue hx hheld hq.ports,
      show x.probeMode.getD .invalidate = m from by rw [hm]; rfl]
    have hbecomes :=
      State.txnBecomes_modTxn (s := (s.clearOut.setChannel .idle).setQueue rest) hx fun t => { t with phase := .probing }
    exact ⟨_, rfl, rfl, rfl, rfl, hbecomes.1, hbecomes.2⟩
  case skipped =>
    let u : State := (s.clearOut.setChannel .idle).setQueue []
    obtain ⟨p, hp⟩ := Option.isSome_iff_exists.mp hport
    obtain ⟨-, -, hr, -⟩ := Work.requester_spec hp
    have h11 : (s.clearOut.setChannel .idle).giveEntry11 = s.clearOut.setChannel .idle :=
      State.giveEntry11_of_entry11 hq.entry11
    have hmem := (State.txnBecomes_refl (s := u) hx).toMemWait
    have hgo : (if x.work.isRecall then u.declineLinked else u).goOnWithoutData i = u.toMemWait i := by
      rw [hr, if_neg nofun]
      exact State.goOnWithoutData_of_requester hx hr
    rw [exec_quietTimerExpiry_of hs hch, State.settle_skip (s := s.clearOut.setChannel .idle) h11 rfl hmode hqueue hx hheld hgo rfl
      hq.ports]
    refine ⟨_, _, rfl, rfl, ⟨hmem.1, hmem.2⟩, rfl, ?_, Txn.enteredMemWait⟩
    show x.loadWrite.work = x.work
    rw [x.loadWrite_frame]
  case recalled =>
    let u : State := (s.clearOut.setChannel .idle).setQueue []
    have h11 : (s.clearOut.setChannel .idle).giveEntry11 = s.clearOut.setChannel .idle :=
      State.giveEntry11_of_isSome (by rw [show (s.clearOut.setChannel .idle).txn recallEntry = some x from hx]; rfl)
    have hgo : (if x.work.isRecall then u.declineLinked else u).goOnWithoutData recallEntry =
        (u.freeEntry recallEntry).dropLock x.line := by
      rw [hr, if_pos rfl, State.declineLinked_of_none (s := u) (by rw [State.recallLink, show u.txn recallEntry = _ from hx]; exact hlink),
        State.goOnWithoutData_of_recall (s := u) hx hr, State.endRecall_eq (s := u) hx hr hl]
      exact State.giveEntry11_of_stopped hsweep hwait
    rw [exec_quietTimerExpiry_of hs hch, State.settle_skip (s := s.clearOut.setChannel .idle) h11 rfl hmode hqueue hx hheld hgo rfl
      hq.ports]
    have hfree := u.txnBecomes_freeEntry recallEntry
    have hlock := (u.freeEntry recallEntry).lockBecomes_dropLock x.line
    exact ⟨_, rfl, rfl, rfl, ⟨hfree.1, hfree.2⟩, ⟨hlock.1, hlock.2⟩⟩
  case waiting =>
    let u : State := (s.clearOut.setChannel .idle).setQueue []
    have h11 : (s.clearOut.setChannel .idle).giveEntry11 = s.clearOut.setChannel .idle :=
      State.giveEntry11_of_isSome (by rw [show (s.clearOut.setChannel .idle).txn recallEntry = some x from hx]; rfl)
    let v : State := (u.freeEntry recallEntry).dropLock x.line
    have hvx : s.TxnBecomes v recallEntry none := ⟨(u.txnBecomes_freeEntry recallEntry).1, (u.txnBecomes_freeEntry recallEntry).2⟩
    let t : State := ({ v with tt := { v.tt with recallWait := [] } } : State).tookWay f z.line w p
    have hgo : (if x.work.isRecall then u.declineLinked else u).goOnWithoutData recallEntry = t := by
      rw [hr, if_pos rfl, State.declineLinked_of_none (s := u) (by rw [State.recallLink, show u.txn recallEntry = _ from hx]; exact hlink),
        State.goOnWithoutData_of_recall (s := u) hx hr, State.endRecall_eq (s := u) hx hr hl]
      exact State.giveEntry11_of_freeWay (s := v) hvx.1 hsweep hwait hf ((hvx.2 f hf).trans hz) ha hp hcoh hquar hfind hfree hbelow
    have hload : z.loadWrite = z := Txn.loadWrite_of_ne (by rw [hk]; nofun)
    have hmem := (State.txnBecomes_refl (s := v) ((hvx.2 f hf).trans hz)).toMemWait
    rw [hload] at hmem
    have hlock := (u.freeEntry recallEntry).lockBecomes_dropLock x.line
    have hset := u.setBecomes_putSet z.line ({ way := w, line := z.line, state := .reserved, policy := p } :: s.dirSet z.line)
    rw [exec_quietTimerExpiry_of hs hch, State.settle_skip (s := s.clearOut.setChannel .idle) h11 rfl hmode hqueue hx hheld hgo rfl
      hq.ports]
    exact ⟨t, rfl, rfl, rfl, (hmem.2 recallEntry (Ne.symm hf)).trans hvx.1, hmem.1,
      fun j hjf hj => (hmem.2 j hjf).trans (hvx.2 j hj), ⟨hlock.1, hlock.2⟩, ⟨hset.1, hset.2.1, hset.2.2⟩⟩
  case lock =>
    let r : FaultRec := { kind := .lockTimeout, issuer := .hp, line := l, txnKind := k.kind, tag := none }
    obtain ⟨e, he, hr⟩ := s.clearOut.exists_reportError r
    let u : State := { s.clearOut with ev := e }
    obtain ⟨t, ht, hframe, hlock⟩ := State.Deaf.exists_giveUpLockSet (s := u) hq.deaf (hset ▸ hnodup) (hset ▸ hls)
    let v : State := { t with hp := { t.hp with broken := true } }
    have htime : s.clearOut.lockTimeout l k = v := by
      have hgive : (s.clearOut.reportError r).giveUpLockSet = t := by rw [he]; exact ht
      exact congrArg (fun t : State => { t with hp := { t.hp with broken := true } }) hgive
    have hall : v = { s with
        hp := { s.hp with lockSet := [], lockTimer := none, lastLocked := none, broken := true }
        tt := { s.tt with locks := t.tt.locks }
        ev := e
        out := [] } := by
      simp only [v]
      rw [hframe]
      rfl
    have hquiet : v.Quiet := by
      rw [hall]
      exact hq.of_eq rfl rfl rfl hq.channel fun _ => rfl
    rw [exec_lockTimerExpiry_of hs ht' hset hk, htime, hquiet.settle]
    have hhp : v.hp = { s.hp with lockSet := [], lockTimer := none, lastLocked := none, broken := true } := by rw [hall]
    have hev : v.ev = e := by rw [hall]
    refine ⟨v, rfl, hall.trans (by rw [hhp, hev]), hhp, fun m => ?_, ?_⟩
    · rw [← hset]
      exact hlock m
    · rw [hev]
      cases k <;> exact hr

end Sys2Proof.Machine
end

section
/-! SUPPORT. The end of a RECALL that is answered MISS or CLEAN, and what its way or entry 11 goes to (R15, R16, R36, R48, R60,
R61). -/

set_option Elab.async false

namespace Sys2Proof.Machine

/-! ### A RECALL answered MISS or CLEAN -/

/-- R60, R61: the entry of a RECALL's line goes; with no link its way is handed to none. -/
theorem State.removeProbed_of_unlinked {s : State} (h : s.recallLink = none) (l : Line) :
    s.removeProbed recallEntry l = s.dropEntry l := by
  unfold State.removeProbed
  split
  · have hd : (s.dropEntry l).recallLink = none := by
      rw [State.dropEntry_eq]
      exact h
    rw [if_pos rfl, State.handOverWay, hd]
  · rename_i hf
    rw [if_pos rfl, State.declineLinked_of_none h]
    exact (if_neg (by rw [State.hasEntry, hf]; nofun)).symm

theorem State.removeProbed_of_found {s : State} {l : Line} {e : DirEntry} (h : s.findEntry l = some e) :
    s.removeProbed recallEntry l = (s.dropEntry l).handOverWay e.way := by
  rw [State.removeProbed, h]
  exact if_pos rfl

/-- R60, R61: MISS or CLEAN, as it reaches a RECALL with INVALIDATE and no write-back attached. -/
theorem exec_recallAnswer_of {s : State} {x : Txn} {c : Instr} (hs : s.Running) (hp : s.Probes recallEntry x)
    (hmode : c = .probeAnswerMiss ∨ x.probeMode = some .invalidate) (hnot : s.NotAttached recallEntry)
    (hc : c ∈ [Instr.probeAnswerMiss, .probeAnswerClean]) :
    ∃ u y, exec c s = .next ((u.removeProbed recallEntry x.line).goOnWithoutData recallEntry).settle ∧
      u = { s with pu := { s.pu with channel := .idle }, tt := { s.tt with entries := u.tt.entries }, out := [] } ∧
      s.TxnBecomes u recallEntry (some y) ∧ y.work = x.work ∧ y.line = x.line ∧ y.link = x.link := by
  obtain ⟨a, ha, hremove⟩ : ∃ a, (c, a) ∈ [(Instr.probeAnswerMiss, Answer.miss), (.probeAnswerClean, .clean)] ∧
      (a == .miss || x.probeMode == some .invalidate) = true := by
    simp only [List.mem_cons, List.not_mem_nil, or_false] at hc
    rcases hc with rfl | rfl
    · exact ⟨.miss, by decide, rfl⟩
    · refine ⟨.clean, by decide, ?_⟩
      rw [hmode.resolve_left nofun]
      rfl
  have hux := State.txnBecomes_modTxn (s := s.clearOut.setChannel .idle) hp.txn fun t => { t with answer := some a }
  refine ⟨(s.clearOut.setChannel .idle).modTxn recallEntry fun t => { t with answer := some a }, _, ?_, rfl,
    ⟨hux.1, hux.2⟩, rfl, rfl, rfl⟩
  rw [exec_answer_of hs hp.channel (List.mem_append_left [(.probeAnswerDirty, .dirty)] ha),
    State.actOnAnswer_of_notAttached hux.1 hp.data hnot ha, State.afterMiss, hux.1]
  simp only [hremove]
  rfl

/-- R36, R60, R61: a RECALL that names no fill has ended, its victim's entry removed, and entry 11 goes to its claimants. -/
theorem exec_unlinkedRecallAnswer_of {s : State} {x : Txn} {c : Instr} (hs : s.Running) (hp : s.Probes recallEntry x)
    (hr : x.work.isRecall = true) (hmode : c = .probeAnswerMiss ∨ x.probeMode = some .invalidate)
    (hnot : s.NotAttached recallEntry) (hl : s.HoldsAlone recallEntry x.line) (hlink : x.link = none) (hc : c ∈ [Instr.probeAnswerMiss, .probeAnswerClean]) :
    ∃ b, exec c s = .next b.giveEntry11.settle ∧
      b = { s with
        pd := b.pd
        pu := { s.pu with channel := .idle }
        tt := { s.tt with entries := b.tt.entries, locks := b.tt.locks }
        out := [] } ∧
      s.SetBecomes b (setOf x.line) ((s.dirSet x.line).filter fun e => e.line != x.line) ∧
      s.TxnBecomes b recallEntry none ∧ s.LockBecomes b x.line none := by
  obtain ⟨u, y, hexec, hu, hy, hw, hline, hylink⟩ := exec_recallAnswer_of hs hp hmode hnot hc
  have hnone : u.recallLink = none := by
    rw [State.recallLink, hy.1]
    exact hylink.trans hlink
  let v : State := u.putSet x.line ((s.dirSet x.line).filter fun e => e.line != x.line)
  have hremove : u.removeProbed recallEntry x.line = v := by
    rw [State.removeProbed_of_unlinked hnone, State.dropEntry_eq, show u.dirSet x.line = s.dirSet x.line from by rw [hu]; rfl]
  let b : State := (v.freeEntry recallEntry).dropLock x.line
  have hend : v.goOnWithoutData recallEntry = b.giveEntry11 := by
    have hvl : v.HoldsAlone recallEntry y.line := by
      rw [hline]
      show u.lockOf x.line = _
      rw [hu]
      exact hl
    rw [State.goOnWithoutData_of_recall (s := v) hy.1 (by rw [hw]; exact hr), State.endRecall_eq (s := v) hy.1 (by rw [hw]; exact hr) hvl,
      hline]
  have hset := u.setBecomes_putSet x.line ((s.dirSet x.line).filter fun e => e.line != x.line)
  have hfree := v.txnBecomes_freeEntry recallEntry
  have hlock := (v.freeEntry recallEntry).lockBecomes_dropLock x.line
  refine ⟨b, hexec.trans (by rw [hremove, hend]), ?_, ?_, ⟨hfree.1, fun j hj => (hfree.2 j hj).trans (hy.2 j hj)⟩,
    ⟨hlock.1, fun m hm => (hlock.2 m hm).trans ?_⟩⟩
  · simp only [b, v]
    rw [hu]
    rfl
  · rw [hu] at hset
    simp only [b, v]
    rw [hu]
    exact hset
  · show u.lockOf m = _
    rw [hu]
    rfl

/-! ### The way handed over -/

/-- R16: the fill that a RECALL's link names takes the freed way, or is declined when the mode is no longer COHERENT. -/
theorem State.exists_handOverWay {s : State} {y z : Txn} {f : EntryIx} {a : Attr} {p : EntryPolicy} {w : Way}
    (hy : s.txn recallEntry = some y) (hlink : y.link = some f) (hf : f ≠ recallEntry) (hz : s.txn f = some z)
    (hk : z.work.kind = .hFill) (ha : z.snapshot = some a) (hp : a.policy.entryPolicy = some p)
    (hsweep : s.msc.sweep.phase = .stopped) (hfree : ∀ e ∈ s.dirSet z.line, e.way ≠ w) (hfind : s.findEntry z.line = none) :
    ∃ t, s.handOverWay w = t ∧
      t = { s with
        pd := t.pd
        tt := { s.tt with entries := t.tt.entries }
        mp := { s.mp with waiting := joinTail s.mp.waiting f }
        ev := t.ev } ∧
      t.txn recallEntry = some { y with link := none } ∧ t.txn f = some { z with phase := .memWait } ∧
      (∀ j, j ≠ f → j ≠ recallEntry → t.txn j = s.txn j) ∧
      (s.msc.mode = .coherent → t.ev = s.ev ∧
        s.SetBecomes t (setOf z.line) ({ way := w, line := z.line, state := .reserved, policy := p } :: s.dirSet z.line)) ∧
      (s.msc.mode ≠ .coherent → t.pd = s.pd ∧ t.ev = { s.ev with
        counters := { s.ev.counters with declinedFills := s.ev.counters.declinedFills + 1#32 } }) := by
  have hload : z.loadWrite = z := Txn.loadWrite_of_ne (by rw [hk]; nofun)
  have hrl : s.recallLink = some f := by rw [State.recallLink, hy]; exact hlink
  let u := s.clearLink
  have hu : s.TxnBecomes u recallEntry (some { y with link := none }) := State.txnBecomes_modTxn hy _
  have huf : u.txn f = some z := (hu.2 f hf).trans hz
  have hmem : ∀ {v : State}, v.tt.entries = u.tt.entries →
      (v.toMemWait f).txn recallEntry = some { y with link := none } ∧
      (v.toMemWait f).txn f = some { z with phase := .memWait } ∧
      ∀ j, j ≠ f → j ≠ recallEntry → (v.toMemWait f).txn j = s.txn j := by
    intro v hv
    have hvt : ∀ j, v.txn j = u.txn j := fun j => by rw [State.txn, hv]; rfl
    have h := (State.txnBecomes_refl (s := v) ((hvt f).trans huf)).toMemWait
    rw [hload] at h
    exact ⟨(h.2 _ (Ne.symm hf)).trans ((hvt _).trans hu.1), h.1, fun j hj hj11 => (h.2 j hj).trans ((hvt j).trans (hu.2 j hj11))⟩
  by_cases hmode : s.msc.mode = .coherent
  · have hhand : s.handOverWay w = (u.putSet z.line ({ way := w, line := z.line, state := .reserved, policy := p } ::
        s.dirSet z.line)).toMemWait f := by
      rw [State.handOverWay, hrl]
      simp only [show s.clearLink.txn f = some z from huf]
      have hcond : s.clearLink.msc.mode = .coherent ∧ s.clearLink.sweeping = false :=
        ⟨hmode, by show (s.msc.sweep.phase != .stopped) = false; rw [hsweep]; rfl⟩
      rw [if_pos hcond, ha]
      simp only [Option.bind_some, hp]
      rw [State.insertEntry_of_free (s := s.clearLink) hfree hfind]
      rfl
    obtain ⟨h1, h2, h3⟩ := hmem (v := u.putSet z.line _) rfl
    have hset := s.setBecomes_putSet z.line ({ way := w, line := z.line, state := .reserved, policy := p } :: s.dirSet z.line)
    exact ⟨_, hhand, rfl, h1, h2, h3, fun _ => ⟨rfl, hset.1, hset.2.1, hset.2.2⟩, fun h => absurd hmode h⟩
  · have hhand : s.handOverWay w = u.declineFill f := by
      rw [State.handOverWay, hrl]
      simp only [show s.clearLink.txn f = some z from huf]
      exact if_neg fun h => hmode h.1
    obtain ⟨h1, h2, h3⟩ := hmem (v := u.bump .declinedFills) rfl
    exact ⟨_, hhand, rfl, h1, h2, h3, fun h => absurd h hmode, fun _ => ⟨rfl, rfl⟩⟩

/-! ### Sets of the directory -/

theorem State.dirSet_congr (s : State) {l m : Line} (h : setOf l = setOf m) : s.dirSet l = s.dirSet m := by
  unfold State.dirSet
  simp only [h]

theorem State.SetBecomes.dirSet_self {s t : State} {l m : Line} {es : List DirEntry} (h : s.SetBecomes t (setOf m) es)
    (hl : setOf l = setOf m) : t.dirSet l = es := (t.dirSet_congr hl).trans h.2.1

theorem State.SetBecomes.dirSet_ne {s t : State} {l m : Line} {es : List DirEntry} (h : s.SetBecomes t (setOf m) es)
    (hl : setOf l ≠ setOf m) : t.dirSet l = s.dirSet l := h.2.2 _ hl

/-- A line with no entry has none in a smaller set. -/
theorem State.findEntry_eq_none_of_subset {s t : State} {l : Line} (h : s.findEntry l = none)
    (hsub : ∀ e ∈ t.dirSet l, e ∈ s.dirSet l) : t.findEntry l = none :=
  List.find?_eq_none.mpr fun e he => List.find?_eq_none.mp h e (hsub e he)

theorem State.SetBecomes.of_pd {s t u : State} {k : SetIx} {es : List DirEntry} (h : s.SetBecomes t k es) (hu : u.pd = t.pd) :
    s.SetBecomes u k es := by
  unfold State.SetBecomes at *
  rw [hu]
  exact h

/-- Two changes of one set are one. -/
theorem State.SetBecomes.trans_self {s t u : State} {k : SetIx} {es es' : List DirEntry} (h : s.SetBecomes t k es)
    (h' : t.SetBecomes u k es') : s.SetBecomes u k es' :=
  ⟨h'.1.trans h.1, h'.2.1, fun k' hk' => (h'.2.2 k' hk').trans (h.2.2 k' hk')⟩

/-! ### Entry 11 handed to a fill that starts a recall -/

theorem State.NoneAttaches.isSome_startRecall {s : State} {l : Line} (h : s.NoneAttaches l) (cause : RecallCause)
    (link : Option EntryIx) : ((s.startRecall cause l link).txn recallEntry).isSome = true := by
  rw [h.startRecall]
  show ((s.putTxn recallEntry _).txn recallEntry).isSome = true
  rw [State.txn_putTxn_self]
  rfl

/-- R12, R15, R48: entry 11 is free, and the fill that waits for it longest chooses a victim, whose recall starts there. -/
theorem State.giveEntry11_of_victim {s : State} {f : EntryIx} {rest : List EntryIx} {z : Txn} {a : Attr} {p : EntryPolicy}
    {v : DirEntry} (h11 : s.txn recallEntry = none) (hsweep : s.msc.sweep.phase = .stopped)
    (hwait : s.tt.recallWait = f :: rest) (hf : f ≠ recallEntry) (hz : s.txn f = some z) (hk : z.work.kind = .hFill)
    (ha : z.snapshot = some a) (hp : a.policy.entryPolicy = some p) (hmode : s.msc.mode = .coherent)
    (hquar : s.isQuarantined z.line = false) (hfind : s.findEntry z.line = none)
    (hfull : ∀ w : Way, ∃ e ∈ s.dirSet z.line, e.way = w) (hpol : s.pd.admitPolicy = .displace)
    (hv : s.victim z.line = some v) (hnone : s.NoneAttaches v.line) :
    ∃ u, s.giveEntry11 = u.startRecall .displace v.line (some f) ∧
      u = { s with tt := { s.tt with entries := u.tt.entries, recallWait := rest } } ∧
      s.TxnBecomes u f (some { z with phase := .wayWait }) ∧ u.NoneAttaches v.line := by
  let s' : State := { s with tt := { s.tt with recallWait := rest } }
  let u : State := s'.setPhase f .wayWait
  have huf : s.TxnBecomes u f (some { z with phase := .wayWait }) := State.txnBecomes_modTxn (s := s') hz _
  have hu11 : u.txn recallEntry = none := (huf.2 recallEntry (Ne.symm hf)).trans h11
  have hunone : u.NoneAttaches v.line := hnone.of_txnBecomes rfl huf (by show z.work.kind ≠ _; rw [hk]; nofun)
  have hask : s'.decideFill f z.line a = u.startRecall .displace v.line (some f) :=
    (State.decideFill_of_victim (u := s') (State.declines_eq_false (s := s') hmode hsweep hquar hp) hp hfind hfull hpol hv).trans
      (if_pos (by rw [show (s'.setPhase f .wayWait).txn recallEntry = none from hu11]; rfl))
  refine ⟨u, ?_, rfl, huf, hunone⟩
  rw [State.giveEntry11, if_neg (by rw [h11]; nofun), hsweep]
  dsimp only
  rw [hwait, State.serveRecallWait]
  simp only [show ({ s with tt := { s.tt with recallWait := rest } } : State).txn f = some z from hz, ha]
  rw [hask, if_pos (hunone.isSome_startRecall .displace (some f))]

/-- Settles O23, for a fill that the link names, and for those that wait for entry 11. -/
theorem recallEndsAndHandsOver : Obligations.RecallEndsAndHandsOver := by
  intro s x e left hs hp hr hmode hnot hl hsweep hports hfind hleft c hc
  have hquiet : ∀ {t : State}, t.txn recallEntry = none → t.tt.recallWait = [] → t.pu.queue = [] → t.msc = s.msc → t.rp = s.rp →
      t.Quiet := fun h1 h2 h3 h4 h5 =>
    ⟨.inr ⟨by rw [h4]; exact hsweep, h2⟩, .inr (.inr h3), fun p => by rw [State.port, h5]; exact hports p,
      .inl (by rw [h4]; exact hsweep)⟩
  refine ⟨fun hlink hwait => ?alone, fun f z a p hlink hf hwait hz hk ha hpol hset hzfind hway => ?linked,
    fun f z a p hlink hf hz hk ha hpol hcoh hquar hzfind => ⟨fun w hwait hset hfree hbelow => ?waiting,
      fun rest newer v older hdir hwait hset hfull hadmit hsplit hvset hvrec holder hvheld hvnone => ?victim⟩⟩
  case alone =>
    obtain ⟨b, hexec, hb, hset, htable, hlock⟩ := exec_unlinkedRecallAnswer_of hs hp hr (.inr hmode) hnot hl hlink hc
    have hbq : b.Quiet := hquiet htable.1 (by rw [hb]; exact hwait) (by rw [hb]; exact hp.queue) (by rw [hb]) (by rw [hb])
    rw [hexec, State.giveEntry11_of_stopped (by rw [hb]; exact hsweep) (by rw [hb]; exact hwait), hbq.settle]
    rw [← hleft] at hset
    have htt : b.tt = { s.tt with entries := b.tt.entries, locks := b.tt.locks } := congrArg State.tt hb
    exact ⟨b, rfl, hb.trans (by rw [htt]), htt, hset, htable, hlock⟩
  case linked =>
    obtain ⟨u, y, hexec, hu, hy, hyw, hyline, hylink⟩ := exec_recallAnswer_of hs hp (.inr hmode) hnot hc
    have hudir : u.dirSet x.line = s.dirSet x.line := by rw [hu]; rfl
    let v : State := u.putSet x.line left
    have hvset : s.SetBecomes v (setOf x.line) left := by
      have := u.setBecomes_putSet x.line left
      rw [hu] at this
      simp only [v]
      rw [hu]
      exact this
    have hvdir : v.dirSet z.line = left := hvset.dirSet_self hset
    have hsub : ∀ e' ∈ left, e' ∈ s.dirSet x.line ∧ e'.line ≠ x.line := fun e' he' => by
      rw [hleft, List.mem_filter] at he'
      exact ⟨he'.1, by simpa using he'.2⟩
    have hremove : u.removeProbed recallEntry x.line = v.handOverWay e.way := by
      rw [State.removeProbed_of_found (by rw [State.findEntry, hudir]; exact hfind), State.dropEntry_eq, hudir, ← hleft]
    have hfree : ∀ e' ∈ v.dirSet z.line, e'.way ≠ e.way := fun e' he' hw => by
      obtain ⟨hmem, hne⟩ := hsub e' (hvdir ▸ he')
      exact hne (hway e' hmem hw)
    have hnone : v.findEntry z.line = none := State.findEntry_eq_none_of_subset hzfind fun e' he' => by
      rw [s.dirSet_congr hset]
      exact (hsub e' (hvdir ▸ he')).1
    obtain ⟨w, hw, hwframe, hw11, hwf, hwother, hwcoh, hwnot⟩ := State.exists_handOverWay (s := v) (y := y) hy.1
      (hylink.trans hlink) hf ((hy.2 f hf).trans hz) hk ha hpol (by show u.msc.sweep.phase = _; rw [hu]; exact hsweep) hfree hnone
    have hwl : w.HoldsAlone recallEntry y.line := by
      rw [hyline, hwframe]
      show u.lockOf x.line = _
      rw [hu]
      exact hl
    obtain ⟨b, hb⟩ : ∃ b, b = (w.freeEntry recallEntry).dropLock x.line := ⟨_, rfl⟩
    have hend : w.goOnWithoutData recallEntry = b := by
      rw [State.goOnWithoutData_of_recall hw11 (by rw [hyw]; exact hr), State.endRecall_eq hw11 (by rw [hyw]; exact hr) hwl, hyline, hb]
      refine State.giveEntry11_of_stopped ?_ ?_
      · show w.msc.sweep.phase = _
        rw [hwframe]
        show u.msc.sweep.phase = _
        rw [hu]
        exact hsweep
      · show w.tt.recallWait = _
        rw [hwframe]
        show u.tt.recallWait = _
        rw [hu]
        exact hwait
    have hentry : ∀ j, b.txn j = if j = recallEntry then none else w.txn j := fun j => by
      rw [hb]
      exact State.txn_freeEntry w recallEntry j
    have hall : b = { s with
        pd := w.pd
        pu := { s.pu with channel := .idle }
        tt := { s.tt with entries := b.tt.entries, locks := b.tt.locks }
        ev := w.ev
        mp := { s.mp with waiting := joinTail s.mp.waiting f }
        out := [] } := by
      rw [hb, hwframe]
      simp only [v]
      rw [hu]
      rfl
    have hbq : b.Quiet := hquiet ((hentry _).trans (if_pos rfl)) (by rw [hall]; exact hwait) (by rw [hall]; exact hp.queue)
      (by rw [hall]) (by rw [hall])
    have hlock : w.LockBecomes b x.line none := by
      rw [hb]
      exact (w.freeEntry recallEntry).lockBecomes_dropLock x.line
    have hev : b.ev = w.ev := by rw [hall]
    have hpd : b.pd = w.pd := by rw [hall]
    have hmp : b.mp = { s.mp with waiting := joinTail s.mp.waiting f } := by rw [hall]
    have htt : b.tt = { s.tt with entries := b.tt.entries, locks := b.tt.locks } := congrArg State.tt hall
    rw [hexec, hremove, hw, hend, hbq.settle]
    refine ⟨b, rfl, hall.trans (by rw [htt, hev, hpd]), htt, (hentry _).trans (if_pos rfl), (hentry f).trans ((if_neg hf).trans hwf),
      fun j hjf hj => (hentry j).trans ((if_neg hj).trans ((hwother j hjf hj).trans (hy.2 j hj))),
      ⟨hlock.1, fun m hm => (hlock.2 m hm).trans ?_⟩, fun hcoh => ?_, fun hncoh => ?_⟩
    · rw [hwframe]
      show u.lockOf m = s.lockOf m
      rw [hu]
      rfl
    · obtain ⟨h1, h2⟩ := hwcoh (by show u.msc.mode = _; rw [hu]; exact hcoh)
      rw [hvdir, hset] at h2
      refine ⟨hev.trans (h1.trans ?_), (hvset.trans_self h2).of_pd hpd⟩
      show u.ev = s.ev
      rw [hu]
    · obtain ⟨h1, h2⟩ := hwnot (by show u.msc.mode ≠ _; rw [hu]; exact hncoh)
      have huev : v.ev = s.ev := by
        show u.ev = s.ev
        rw [hu]
      exact ⟨hvset.of_pd (hpd.trans h1), hev.trans (h2.trans (by rw [huev]))⟩
  case waiting =>
    obtain ⟨b, hexec, hb, hbset, htable, hlock⟩ := exec_unlinkedRecallAnswer_of hs hp hr (.inr hmode) hnot hl hlink hc
    rw [← hleft] at hbset
    have hdirb : b.dirSet z.line = left := hbset.dirSet_self hset
    have hnone : b.findEntry z.line = none := State.findEntry_eq_none_of_subset hzfind fun e' he' => by
      rw [hdirb, hleft, List.mem_filter] at he'
      rw [s.dirSet_congr hset]
      exact he'.1
    have hgive := State.giveEntry11_of_freeWay (s := b) htable.1 (by rw [hb]; exact hsweep) (by rw [hb]; exact hwait) hf
      ((htable.2 f hf).trans hz) ha hpol (by rw [hb]; exact hcoh) (by rw [hb]; exact hquar) hnone
      (by rw [hdirb]; exact hfree) (by rw [hdirb]; exact hbelow)
    obtain ⟨t, ht⟩ : ∃ t, t = ({ b with tt := { b.tt with recallWait := [] } } : State).tookWay f z.line w p := ⟨_, rfl⟩
    have hload : z.loadWrite = z := Txn.loadWrite_of_ne (by rw [hk]; nofun)
    have hmem := (State.txnBecomes_refl (s := b) ((htable.2 f hf).trans hz)).toMemWait
    rw [hload] at hmem
    have htxn : ∀ j, t.txn j = (b.toMemWait f).txn j := fun j => by rw [ht]; rfl
    have hall : t = { s with
        pd := t.pd
        pu := { s.pu with channel := .idle }
        tt := { s.tt with entries := t.tt.entries, locks := t.tt.locks, recallWait := [] }
        mp := { s.mp with waiting := joinTail s.mp.waiting f }
        out := [] } := by
      rw [ht, hb]
      rfl
    have hset' : b.SetBecomes t (setOf x.line) ({ way := w, line := z.line, state := .reserved, policy := p } :: left) := by
      have hpd : t.pd = (b.putSet z.line ({ way := w, line := z.line, state := .reserved, policy := p } :: b.dirSet z.line)).pd := by
        rw [ht]
        rfl
      have := (b.setBecomes_putSet z.line _).of_pd hpd
      rw [hdirb, hset] at this
      exact this
    have hlock' : ∀ m, t.lockOf m = b.lockOf m := fun m => by rw [ht]; rfl
    have htq : t.Quiet := hquiet ((htxn _).trans ((hmem.2 recallEntry (Ne.symm hf)).trans htable.1)) (by rw [hall])
      (by rw [hall]; exact hp.queue) (by rw [hall]) (by rw [hall])
    have htt : t.tt = { s.tt with entries := t.tt.entries, locks := t.tt.locks, recallWait := [] } := congrArg State.tt hall
    rw [hexec, hgive, ← ht, htq.settle]
    exact ⟨t, rfl, hall.trans (by rw [htt]), htt, (htxn _).trans ((hmem.2 recallEntry (Ne.symm hf)).trans htable.1),
      (htxn f).trans hmem.1, fun j hjf hj => (htxn j).trans ((hmem.2 j hjf).trans (htable.2 j hj)),
      ⟨(hlock' _).trans hlock.1, fun m hm => (hlock' m).trans (hlock.2 m hm)⟩, hbset.trans_self hset'⟩
  case victim =>
    obtain ⟨b, hexec, hb, hbset, htable, hlock⟩ := exec_unlinkedRecallAnswer_of hs hp hr (.inr hmode) hnot hl hlink hc
    rw [← hleft] at hbset
    have hdirb : b.dirSet z.line = s.dirSet z.line := hbset.dirSet_ne hset
    have hvmem : v ∈ s.dirSet z.line := by rw [hsplit]; simp
    have hlines : ∀ e' ∈ s.dirSet z.line, e'.line ≠ x.line := fun e' he' he => by
      have := (hdir (setOf z.line)).2.2.2 e' he'
      rw [he] at this
      exact hset this.symm
    have hrecall : ∀ e' ∈ s.dirSet z.line, (b.Recallable e' ↔ s.Recallable e') := fun e' he' =>
      State.recallable_congr (by rw [hb]) (hlock.2 e'.line (hlines e' he'))
    have hvictim : b.victim z.line = some v :=
      State.victim_eq_some (by rw [hdirb]; exact hsplit) ((hrecall v hvmem).mpr hvrec)
        fun e' he' => mt (hrecall e' (by rw [hsplit]; simp [he'])).mp (holder e' he')
    have hbnone : b.NoneAttaches v.line := hvnone.of_txn (by rw [hb]) fun j y hy _ => by
      by_cases hj : j = recallEntry
      · rw [hj, htable.1] at hy
        cases hy
      · rw [← htable.2 j hj]
        exact hy
    obtain ⟨u, hgive, hu, huf, hunone⟩ := State.giveEntry11_of_victim (s := b) htable.1 (by rw [hb]; exact hsweep)
      (by rw [hb]; exact hwait) hf ((htable.2 f hf).trans hz) hk ha hpol (by rw [hb]; exact hcoh) (by rw [hb]; exact hquar)
      (by rw [State.findEntry, hdirb]; exact hzfind) (by rw [hdirb]; exact hfull) (hbset.1.trans hadmit)
      hvictim hbnone
    have hall : u = { s with
        pd := b.pd
        pu := { s.pu with channel := .idle }
        tt := { s.tt with entries := u.tt.entries, locks := b.tt.locks, recallWait := rest }
        out := [] } := by
      refine hu.trans ?_
      rw [hb]
    have hheld : u.isHeld v.line = true := by
      have : u.findEntry v.line = s.findEntry v.line := by
        rw [State.findEntry, State.findEntry, show u.dirSet v.line = b.dirSet v.line from by rw [hu]; rfl,
          hbset.dirSet_ne (by rw [hvset]; exact hset)]
      rw [State.isHeld, this]
      exact hvheld
    obtain ⟨t, y, ht, hframe, htt, hy, hyw, hyl, -, hyk, hylock, hidle, -⟩ := hunone.settle_startRecall .displace (some f)
      (by rw [hall, hcoh]; nofun) (.inr (by rw [hall]; exact hp.queue)) hheld (by rw [hall]; exact hports)
    obtain ⟨hphase, hout, hpu, hev⟩ := hidle (by rw [hall])
    have hulock : ∀ m, u.lockOf m = b.lockOf m := fun m => by rw [hu]; rfl
    have hvx : v.line ≠ x.line := fun he => hset (by rw [← hvset, he])
    have htpd : t.pd = u.pd := (congrArg State.pd hframe).trans rfl
    have hout' : t.out = [.probe v.line .invalidate] := hout.trans (by rw [hall]; rfl)
    rw [hexec, hgive, ht]
    refine ⟨t, y, rfl, ?_, ?_, ?_, ?_, ?_, hy.1, hyw, hyl, hphase, hyk, ?_, fun j hjf hj => ?_, ?_, hylock.1, fun m hmx hmv => ?_⟩
    · refine hframe.trans ?_
      rw [htpd, hout', hall]
    · exact hpu.trans (by rw [hall])
    · exact htt.trans (by rw [hall])
    · exact hev.trans (by rw [hall])
    · exact hbset.of_pd (by rw [htpd, hall])
    · exact (hy.2 f hf).trans huf.1
    · exact (hy.2 j hj).trans ((huf.2 j hjf).trans (htable.2 j hj))
    · exact (hylock.2 x.line (Ne.symm hvx)).trans ((hulock _).trans hlock.1)
    · exact (hylock.2 m hmv).trans ((hulock m).trans (hlock.2 m hmx))

end Sys2Proof.Machine
end

section
/-! SUPPORT. The sweep goes on after its recall has ended (R173 to R176). -/

set_option Elab.async false

namespace Sys2Proof.Machine

/-! ### States that differ in the order of their lock records alone -/

/-- The one state is the other but for the place of the lock records in their list. -/
structure State.SameBut (u b : State) : Prop where
  frame : b = { u with tt := { u.tt with locks := b.tt.locks } }
  locks : ∀ l, b.lockOf l = u.lockOf l

theorem State.SameBut.txn {u b : State} (h : u.SameBut b) (i : EntryIx) : b.txn i = u.txn i := by
  rw [h.frame]
  rfl

theorem EventUnit.Reported.unique {r : FaultRec} {e a b : EventUnit} (ha : e.Reported r a) (hb : e.Reported r b) : a = b := by
  obtain ⟨flags, enables, faults, overflow, counters⟩ := a
  obtain ⟨flags', enables', faults', overflow', counters'⟩ := b
  obtain ⟨h1, h2, h3, h4, h5⟩ := ha
  obtain ⟨h1', h2', h3', h4', h5'⟩ := hb
  simp only at h1 h2 h3 h4 h5 h1' h2' h3' h4' h5'
  have hrest : faults = faults' ∧ overflow = overflow' := by
    rcases Nat.lt_or_ge e.faults.length 4 with h | h
    · exact ⟨(h4 h).1.trans (h4' h).1.symm, (h4 h).2.trans (h4' h).2.symm⟩
    · exact ⟨(h5 h).1.trans (h5' h).1.symm, BitVec.eq_of_toNat_eq ((h5 h).2.trans (h5' h).2.symm)⟩
  rw [h1, h2, h3, h1', h2', h3', hrest.1, hrest.2]

theorem State.SetBecomes.unique {s a b : State} {k : SetIx} {es : List DirEntry} (ha : s.SetBecomes a k es)
    (hb : s.SetBecomes b k es) : a.pd = b.pd := by
  have hsets : a.pd.sets = b.pd.sets := by
    refine Vector.ext fun i hi => ?_
    by_cases h : (⟨i, hi⟩ : SetIx) = k
    · subst h
      exact ha.2.1.trans hb.2.1.symm
    · exact (ha.2.2 ⟨i, hi⟩ h).trans (hb.2.2 ⟨i, hi⟩ h).symm
  have hpol : a.pd.admitPolicy = b.pd.admitPolicy := ha.1.trans hb.1.symm
  calc a.pd = ⟨a.pd.sets, a.pd.admitPolicy⟩ := rfl
    _ = b.pd := by rw [hsets, hpol]

theorem State.entries_ext {s t : State} (h : ∀ i, s.txn i = t.txn i) : s.tt.entries = t.tt.entries :=
  Vector.ext fun i hi => h ⟨i, hi⟩

theorem State.TxnBecomes.unique {s a b : State} {i : EntryIx} {x : Option Txn} (ha : s.TxnBecomes a i x)
    (hb : s.TxnBecomes b i x) (j : EntryIx) : a.txn j = b.txn j := by
  by_cases h : j = i
  · rw [h, ha.1, hb.1]
  · rw [ha.2 j h, hb.2 j h]

theorem State.TxnBecomesBusEmpty.unique {s a b : State} {i : EntryIx} {x : Option Txn} (ha : s.TxnBecomesBusEmpty a i x)
    (hb : s.TxnBecomesBusEmpty b i x) (j : EntryIx) : a.txn j = b.txn j := by
  by_cases h : j = i
  · rw [h, ha.1, hb.1]
  · rw [ha.2 j h, hb.2 j h]

theorem State.LockBecomes.unique {s a b : State} {l : Line} {r : Option LockRec} (ha : s.LockBecomes a l r)
    (hb : s.LockBecomes b l r) (m : Line) : a.lockOf m = b.lockOf m := by
  by_cases h : m = l
  · rw [h, ha.1, hb.1]
  · rw [ha.2 m h, hb.2 m h]

/-! ### The end of an event whose probe queue is served in one step -/

/-- R58: nothing leaves the queue but, on an idle channel, its head, whose line is HELD. -/
def State.OneProbeAtMost (s : State) : Prop :=
  s.pu.channel ≠ .idle ∨ s.pu.queue = [] ∨
    ∃ i rest x, s.pu.queue = i :: rest ∧ s.txn i = some x ∧ s.isHeld x.line = true

theorem State.OneProbeAtMost.pumpProbes_succ {s : State} (h : s.OneProbeAtMost) (n m : Nat) :
    s.pumpProbes (n + 1) = s.pumpProbes (m + 1) := by
  rw [State.pumpProbes, State.pumpProbes]
  split
  · rfl
  · rename_i hcond
    rcases h with h | h | ⟨i, rest, x, hq, hx, hheld⟩
    · exact absurd (.inl h) hcond
    · rw [h]
    · have hx' : (s.setQueue rest).txn i = some x := hx
      have hheld' : (s.setQueue rest).isHeld x.line = true := hheld
      rw [hq]
      simp only [hx']
      rw [if_pos hheld', if_pos hheld']

/-- R48, R58: what a sweep's RECALL leaves as it ends, entry 11 handed on; the rest of the event is as named. -/
def EndsAt (s b : State) (c : Instr) : Prop :=
  ∀ g, b.giveEntry11 = g → g.giveEntry11 = g → g.OneProbeAtMost → exec c s = .next g.settle

theorem endsAt_of_settle {s b : State} {c : Instr} (h : exec c s = .next b.giveEntry11.settle) : EndsAt s b c := by
  rintro g rfl _ _
  exact h

theorem Work.isRecall_of_eq {w : Work} {b : RecallCause} (h : w = .recall b) : w.isRecall = true := by rw [h]; rfl

/-! ### The four ways in which a sweep's RECALL ends -/

/-- R60, R61, R174: by the answer MISS or CLEAN. -/
theorem exists_endsAt_of_answer {s u : State} {c : Instr} {x : Txn} (hs : s.Running)
    (hc : c ∈ [Instr.probeAnswerMiss, .probeAnswerClean]) (hp : s.Probes recallEntry x) (hr : x.work.isRecall = true)
    (hmode : x.probeMode = some .invalidate) (hnot : s.NotAttached recallEntry) (hlink : x.link = none)
    (hl : s.HoldsAlone recallEntry x.line) (htable : s.TxnBecomes u recallEntry none) (hlock : s.LockBecomes u x.line none)
    (htt : u.tt = { s.tt with entries := u.tt.entries, locks := u.tt.locks })
    (hu : u = { s with pd := u.pd, tt := u.tt, pu := { s.pu with channel := .idle }, out := [] })
    (hset : s.SetBecomes u (setOf x.line) ((s.dirSet x.line).filter fun e => e.line != x.line)) :
    ∃ b, EndsAt s b c ∧ u.SameBut b := by
  obtain ⟨b, hexec, hb, hbset, hbtable, hblock⟩ := exec_unlinkedRecallAnswer_of hs hp hr (.inr hmode) hnot hl hlink hc
  refine ⟨b, endsAt_of_settle hexec, ?_, hblock.unique hlock⟩
  rw [htt] at hu
  refine hb.trans ?_
  rw [hbset.unique hset, State.entries_ext (hbtable.unique htable), hu]

/-- R157: a completion is handed to a transaction that is not abandoned host work. -/
theorem exec_memCompletion_of_own {s : State} {q : MemReq} {rest : List MemReq} {x : Txn} (hs : s.Running)
    (hm : s.mp.outstanding = q :: rest) (hx : s.txn q.txn = some x) (hh : x.work.isHost = false) (k : Completion) :
    exec (.memCompletion k) s = .next
      ({ s.clearOut with mp := { s.mp with outstanding := rest } }.completeTxn q.txn x q.kind k).settle := by
  rw [exec, execMemCompletion, live_of_running hs]
  have hx' : State.txn { s.clearOut with mp := { s.mp with outstanding := rest } } q.txn = some x := hx
  simp only [State.clearOut_mp, hm, State.complete, hx', hh, Bool.and_false]
  rfl

/-- R186: the record of a RECALL. -/
theorem Txn.record_of_recall {x : Txn} (hr : x.work.isRecall = true) (k : FaultKind) :
    x.record k = { kind := k, issuer := .internal, line := x.line, txnKind := .recall, tag := none } := by
  obtain ⟨b, hw⟩ := Work.exists_of_isRecall hr
  rw [Txn.record, hw]
  rfl

/-- R65, R66, R174: by the completion of its LINE_WRITE. -/
theorem exists_endsAt_of_lineWrite {s u : State} {k : Completion} {q : MemReq} {rest : List MemReq} {x : Txn} {fed : Bool}
    (hs : s.Running) (hm : s.mp.outstanding = q :: rest) (hq : q.txn = recallEntry) (hx : s.txn recallEntry = some x)
    (hr : x.work.isRecall = true) (hfed : if fed = true then ∃ b, s.Feeds b recallEntry x else s.NotAttached recallEntry)
    (hl : s.HoldsAlone recallEntry x.line)
    (htable : if fed then s.TxnBecomesBusEmpty u recallEntry none else s.TxnBecomes u recallEntry none)
    (hlock : s.LockBecomes u x.line none) (htt : u.tt = { s.tt with entries := u.tt.entries, locks := u.tt.locks })
    (hkind : q.kind = .lineWrite)
    (hu : u = { s with
      tt := u.tt
      hp := { s.hp with cycle := if fed then none else s.hp.cycle }
      mp := { s.mp with outstanding := rest }
      ev := u.ev
      out := if fed then [.finalAck false] else [] })
    (hok : k ≠ .error → u.ev = s.ev)
    (herr : k = .error → s.ev.Reported
      { kind := .memWriteErr, issuer := .internal, line := x.line, txnKind := .recall, tag := none } u.ev) :
    ∃ b, EndsAt s b (.memCompletion k) ∧ u.SameBut b := by
  let s' : State := { s.clearOut with mp := { s.mp with outstanding := rest } }
  obtain ⟨w, hw⟩ := Work.exists_of_isRecall hr
  obtain ⟨e, he, heok, heerr⟩ := s'.exists_reportMemory x .lineWrite k
  obtain ⟨v, y, hack, hv, hy, hyw, -, hyl, -, hcome⟩ := State.exists_ackAttached { s' with ev := e } fed hx
    (fun h => by
      rw [if_pos h] at hfed
      exact hfed.imp fun _ h => ⟨h.1, h.2, h.3⟩)
    (fun h => by
      rw [if_neg (by rw [h]; nofun)] at hfed
      exact hfed)
  have hvl : v.HoldsAlone recallEntry y.line := by rw [hv, hyl]; exact hl
  obtain ⟨b, hb⟩ : ∃ b, b = (v.freeEntry recallEntry).dropLock x.line := ⟨_, rfl⟩
  have hend : s'.completeTxn q.txn x q.kind k = b.giveEntry11 := by
    have : s'.completeTxn q.txn x .lineWrite k = v.endRecall := by
      rw [← hack, ← he, hq]
      simp only [State.completeTxn, hw]
    rw [hkind, this, State.endRecall_eq hy (by rw [hyw]; exact hr) hvl, hyl, hb]
  have hexec : exec (.memCompletion k) s = .next b.giveEntry11.settle :=
    (exec_memCompletion_of_own hs hm (hq ▸ hx) (by rw [hw]; rfl) k).trans (congrArg (fun t : State => Host.Outcome.next t.settle) hend)
  have hblock : s.LockBecomes b x.line none := by
    have := (v.freeEntry recallEntry).lockBecomes_dropLock x.line
    rw [← hb] at this
    refine ⟨this.1, fun m hm => (this.2 m hm).trans ?_⟩
    show v.lockOf m = _
    rw [hv]
    rfl
  have hbt := hcome b (by rw [hb]; exact v.txnBecomes_freeEntry recallEntry)
  have hent : ∀ i, b.txn i = u.txn i := by
    cases fed with
    | true => exact State.TxnBecomesBusEmpty.unique (s := s) ⟨hbt.1, hbt.2⟩ htable
    | false => exact State.TxnBecomes.unique (s := s) ⟨hbt.1, hbt.2⟩ htable
  have hev : e = u.ev := by
    by_cases hk : k = .error
    · have := heerr hk
      rw [Txn.record_of_recall hr] at this
      exact this.unique (herr hk)
    · rw [heok hk, hok hk]
      rfl
  refine ⟨b, endsAt_of_settle hexec, ?_, hblock.unique hlock⟩
  rw [htt] at hu
  have hbf : b = { s with
      tt := { s.tt with entries := b.tt.entries, locks := b.tt.locks }
      hp := { s.hp with cycle := if fed then none else s.hp.cycle }
      mp := { s.mp with outstanding := rest }
      ev := e
      out := if fed then [.finalAck false] else [] } := by
    rw [hb, hv]
    rfl
  refine hbf.trans ?_
  rw [State.entries_ext hent, hev, hu]

/-- R72, R73, R174: by a timeout. -/
theorem exists_endsAt_of_timeout {s u : State} {c : Instr} {x : Txn} {cause : QuarCause} {channel : Channel} (hs : s.Running)
    (hx : s.txn recallEntry = some x) (hr : x.work.isRecall = true) (hlink : x.link = none)
    (hnot : s.NotAttached recallEntry) (hquar : s.isQuarantined x.line = false) (hroom : s.msc.quarantine.length < 8)
    (hc : (∃ l m n, s.pu.channel = .outstanding recallEntry l m n ∧ c = .answerTimerExpiry ∧ cause = .answerTimeout ∧
        channel = .quiet s.pu.probeLimit.toNat) ∨
      (∃ n, (x.wbTimer = some (.running n) ∨ x.wbTimer = some (.pendingCounting n)) ∧ c = .wbTimerExpiry recallEntry ∧
        cause = .writebackTimeout ∧ channel = s.pu.channel))
    (hl : s.HoldsAlone recallEntry x.line) (htable : s.TxnBecomes u recallEntry none) (hlock : s.LockBecomes u x.line none)
    (htt : u.tt = { s.tt with entries := u.tt.entries, locks := u.tt.locks })
    (hu : u = { s with
      tt := u.tt
      pu := { s.pu with channel := channel }
      msc := { s.msc with
        quarantine := s.msc.quarantine ++ [{ line := x.line, cause := cause, late := false }] }
      ev := u.ev
      out := [] })
    (hrep : s.ev.Reported
      { kind := .probeTimeout, issuer := .internal, line := x.line, txnKind := .recall, tag := none } u.ev) :
    ∃ b, EndsAt s b c ∧ u.SameBut b := by
  let s' : State := { s.clearOut with pu := { s.pu with channel := channel } }
  obtain ⟨e, v, htime, herep, hv, hvx⟩ := State.exists_timeout (s := s') hx cause
  rw [State.NotAttached.handedBack (s := s') hnot] at hv
  let w : State := v.setQuarantine (v.msc.quarantine ++ [{ line := x.line, cause := cause, late := false }])
  have henter : v.enterQuarantine x cause = w :=
    State.enterQuarantine_of_room (by rw [hv]; exact hquar) (by rw [hv]; exact hroom) cause
  obtain ⟨b, hb⟩ : ∃ b, b = (w.freeEntry recallEntry).dropLock x.line := ⟨_, rfl⟩
  have hwl : w.HoldsAlone recallEntry x.line := by
    show v.lockOf x.line = _
    rw [hv]
    exact hl
  have hend : s'.timeout recallEntry cause = b.giveEntry11 := by
    rw [htime, henter, State.endProbing, if_pos hr, State.abandonRecall,
      State.declineLinked_of_none (s := w) (by rw [State.recallLink, show w.txn recallEntry = _ from hvx.1]; exact hlink), hb]
    exact State.endRecall_eq (s := w) (x := { x with answer := some .timeout, wbTimer := none }) hvx.1 hr hwl
  have hexec : exec c s = .next b.giveEntry11.settle :=
    (exec_timeout_of hs hx hc).trans (congrArg (fun t : State => Host.Outcome.next t.settle) hend)
  have hblock : s.LockBecomes b x.line none := by
    have := (w.freeEntry recallEntry).lockBecomes_dropLock x.line
    rw [← hb] at this
    refine ⟨this.1, fun m hm => (this.2 m hm).trans ?_⟩
    show v.lockOf m = _
    rw [hv]
    rfl
  have hbt : s.TxnBecomes b recallEntry none := by
    have := w.txnBecomes_freeEntry recallEntry
    rw [hb]
    exact ⟨this.1, fun j hj => (this.2 j hj).trans (hvx.2 j hj)⟩
  have hev : e = u.ev := by
    rw [Txn.record_of_recall hr] at herep
    exact herep.unique hrep
  refine ⟨b, endsAt_of_settle hexec, ?_, hblock.unique hlock⟩
  rw [htt] at hu
  have hbf : b = { s with
      tt := { s.tt with entries := b.tt.entries, locks := b.tt.locks }
      pu := { s.pu with channel := channel }
      msc := { s.msc with
        quarantine := s.msc.quarantine ++ [{ line := x.line, cause := cause, late := false }] }
      ev := e
      out := [] } := by
    rw [hb]
    simp only [w]
    rw [hv]
    rfl
  refine hbf.trans ?_
  rw [State.entries_ext (hbt.unique htable), hev, hu]

/-- R58, R59, R174: by the skip of its probe at the end of the quiet period. -/
theorem exists_endsAt_of_skip {s u : State} {n : Nat} {x : Txn} (hs : s.Running) (hch : s.pu.channel = .quiet n)
    (hq : s.pu.queue = [recallEntry]) (hmode : s.msc.mode ≠ .faulted) (hx : s.txn recallEntry = some x)
    (hr : x.work.isRecall = true) (hlink : x.link = none) (hheld : s.isHeld x.line = false)
    (hl : s.HoldsAlone recallEntry x.line) (htable : s.TxnBecomes u recallEntry none) (hlock : s.LockBecomes u x.line none)
    (htt : u.tt = { s.tt with entries := u.tt.entries, locks := u.tt.locks })
    (hu : u = { s with tt := u.tt, pu := { s.pu with queue := [], channel := .idle }, out := [] }) :
    ∃ b, EndsAt s b .quietTimerExpiry ∧ u.SameBut b := by
  let s₁ : State := s.clearOut.setChannel .idle
  let s' : State := s₁.setQueue []
  obtain ⟨b, hb⟩ : ∃ b, b = (s'.freeEntry recallEntry).dropLock x.line := ⟨_, rfl⟩
  have hgo : (if x.work.isRecall then s'.declineLinked else s').goOnWithoutData recallEntry = b.giveEntry11 := by
    rw [hr, if_pos rfl, State.declineLinked_of_none (s := s') (by rw [State.recallLink, show s'.txn recallEntry = _ from hx]; exact hlink),
      State.goOnWithoutData_of_recall (s := s') hx hr, State.endRecall_eq (s := s') hx hr hl, hb]
  have hblock : s.LockBecomes b x.line none := by
    rw [hb]
    exact (s'.freeEntry recallEntry).lockBecomes_dropLock x.line
  have hbt : s.TxnBecomes b recallEntry none := by
    rw [hb]
    exact s'.txnBecomes_freeEntry recallEntry
  refine ⟨b, fun g hg hg11 hone => ?_, ?_, hblock.unique hlock⟩
  · have hcond : ¬ (s₁.pu.channel ≠ .idle ∨ s₁.msc.mode = .faulted) := by
      rintro (h | h)
      · exact h rfl
      · exact hmode h
    have h11 : s₁.giveEntry11 = s₁ := State.giveEntry11_of_isSome (by rw [show s₁.txn recallEntry = some x from hx]; rfl)
    have hpump : s₁.pumpProbes pumpBound = g.pumpProbes pumpBound := by
      rw [pumpBound, State.pumpProbes, if_neg hcond, show s₁.pu.queue = [recallEntry] from hq]
      simp only [show (s₁.setQueue []).txn recallEntry = some x from hx]
      rw [if_neg (by rw [show (s₁.setQueue []).isHeld x.line = false from hheld]; nofun)]
      exact (congrArg (State.pumpProbes 31) (hgo.trans hg)).trans (hone.pumpProbes_succ 30 31)
    rw [exec_quietTimerExpiry_of hs hch, State.settle, State.settle, h11, hg11, hpump]
  · rw [htt] at hu
    have hbf : b = { s with
        tt := { s.tt with entries := b.tt.entries, locks := b.tt.locks }
        pu := { s.pu with queue := [], channel := .idle }
        out := [] } := by
      rw [hb]
      rfl
    refine hbf.trans ?_
    rw [State.entries_ext (hbt.unique htable), hu]

/-! ### The sweep goes on -/

/-- R174: what the end of the sweep's RECALL leaves of the bridge that the sweep goes on with. -/
theorem State.SweepRecallEnds.exists_endsAt {s u : State} {c : Instr} {x : Txn} (h : s.SweepRecallEnds u c x) (hs : s.Running)
    (hw : x.work = .recall .sweep) (hlink : x.link = none) (hl : s.HoldsAlone recallEntry x.line)
    (hmode : s.msc.mode = .coherent) : ∃ b, EndsAt s b c ∧ u.SameBut b := by
  have hr : x.work.isRecall = true := Work.isRecall_of_eq hw
  obtain ⟨htt, hlock, hx, h | h | h | h⟩ := h
  · obtain ⟨hc, hp, hm, hnot, htable, hu, hset⟩ := h
    exact exists_endsAt_of_answer hs hc hp hr hm hnot hlink hl htable hlock htt hu hset
  · obtain ⟨k, q, rest, fed, rfl, hm, hq, hkind, hfed, htable, hu, hok, herr⟩ := h
    exact exists_endsAt_of_lineWrite hs hm hq hx hr hfed hl htable hlock htt hkind hu hok herr
  · obtain ⟨cause, channel, hnot, hquar, hroom, hc, htable, hu, hrep⟩ := h
    refine exists_endsAt_of_timeout hs hx hr hlink hnot hquar hroom ?_ hl htable hlock htt hu hrep
    exact hc.imp id fun ⟨⟨n, hn⟩, hrest⟩ => ⟨n, hn, hrest⟩
  · obtain ⟨n, rfl, hch, hq, hheld, htable, hu⟩ := h
    exact exists_endsAt_of_skip hs hch hq (by rw [hmode]; nofun) hx hr hlink hheld hl htable hlock htt hu

/-- R1, R6: the directory without the entry of one line. -/
theorem State.DirectoryKept.of_removed {s b : State} (h : s.DirectoryKept) {l : Line}
    (hb : s.SetBecomes b (setOf l) ((s.dirSet l).filter fun e => e.line != l)) : b.DirectoryKept := by
  obtain ⟨-, hset, hother⟩ := hb
  refine State.directoryKept_iff.mpr fun k => ?_
  by_cases hk : k = setOf l
  · rw [hk, hset]
    exact (h.dirSet l).filter _
  · rw [hother k hk]
    exact h k

/-- R174: what the end of the sweep's RECALL leaves as it was, and entry 11, which is free. -/
theorem State.SweepRecallEnds.kept {s u : State} {c : Instr} {x : Txn} (h : s.SweepRecallEnds u c x) (hdir : s.DirectoryKept) :
    u.msc.sweep = s.msc.sweep ∧ u.msc.mode = s.msc.mode ∧ (∀ p, u.port p = s.port p) ∧ u.mg = s.mg ∧
      u.txn recallEntry = none ∧ u.DirectoryKept := by
  obtain ⟨-, -, -, h | h | h | h⟩ := h
  · obtain ⟨-, -, -, -, htable, hu, hset⟩ := h
    refine ⟨by rw [hu], by rw [hu], fun p => by rw [hu]; rfl, by rw [hu], htable.1, hdir.of_removed hset⟩
  · obtain ⟨k, q, rest, fed, -, -, -, -, -, htable, hu, -⟩ := h
    refine ⟨by rw [hu], by rw [hu], fun p => by rw [hu]; rfl, by rw [hu], ?_, by rw [hu]; exact hdir⟩
    cases fed with
    | true => exact htable.1
    | false => exact htable.1
  · obtain ⟨cause, channel, -, -, -, -, htable, hu, -⟩ := h
    exact ⟨by rw [hu], by rw [hu], fun p => by rw [hu]; rfl, by rw [hu], htable.1, by rw [hu]; exact hdir⟩
  · obtain ⟨n, -, -, -, -, htable, hu⟩ := h
    exact ⟨by rw [hu], by rw [hu], fun p => by rw [hu]; rfl, by rw [hu], htable.1, by rw [hu]; exact hdir⟩

/-- R1, R3: the HELD entry in a way is the entry of its line. -/
theorem State.DirectoryKept.isHeld_of_atWay {s : State} (h : s.DirectoryKept) {n : Fin 1024} {e : DirEntry}
    (hn : s.atWay n = some e) (he : e.state = .held) : s.isHeld e.line = true := by
  have hmem := List.mem_of_find?_eq_some hn
  have hk : setOf e.line = ⟨n.val / 4, by omega⟩ := (h ⟨n.val / 4, by omega⟩).2.2.2 e hmem
  have hdir : s.dirSet e.line = s.pd.sets[n.val / 4] := by
    unfold State.dirSet
    simp only [hk]
  obtain ⟨-, -, hlines, -⟩ := h.dirSet e.line
  have hfind : s.findEntry e.line = some e := by
    rw [State.findEntry]
    cases hf : (s.dirSet e.line).find? fun e' => e'.line == e.line with
    | none => exact absurd (List.find?_eq_none.mp hf e (hdir ▸ hmem)) (by simp)
    | some e' =>
      have hline : e'.line = e.line := by simpa using List.find?_some hf
      exact congrArg some (List.inj_on_of_nodup_map hlines (List.mem_of_find?_eq_some hf) (hdir ▸ hmem) hline)
  rw [State.isHeld, hfind, Option.any_some, he]
  rfl

/-- R176: the end of a running sweep. -/
theorem State.endSweep_eq {s : State} (h : s.msc.sweep.phase ≠ .stopped) : s.endSweep = { s with
    mg := s.mg.operationEnded
    msc := { s.msc with
      mode := if s.msc.sweep.origin = .setMode ∧ s.entryCount = 0 then .pass else s.msc.mode
      sweep := s.msc.sweep.ended s.entryCount }
    ev := { s.ev with flags := s.ev.flags |||
      (if s.msc.sweep.origin ≠ .setMode then 0x800#17 else if s.entryCount = 0 then 0x2800#17 else 0x1800#17) } } := by
  have hcount : s.pd.count = s.entryCount := rfl
  by_cases ho : s.msc.sweep.origin = .setMode
  · by_cases hn : s.entryCount = 0
    · have hand : s.msc.sweep.origin = .setMode ∧ s.entryCount = 0 := ⟨ho, hn⟩
      rw [State.endSweep, State.stopSweep_eq h, hcount, if_pos hand, if_neg (not_not_intro ho), if_pos hn, ho, if_pos hn,
        show (0x2800#17) = 0x800#17 ||| 0x2000#17 by decide, ← BitVec.or_assoc]
      rfl
    · have hand : ¬ (s.msc.sweep.origin = .setMode ∧ s.entryCount = 0) := fun h => hn h.2
      rw [State.endSweep, State.stopSweep_eq h, hcount, if_neg hand, if_neg (not_not_intro ho), if_neg hn, ho, if_neg hn,
        show (0x1800#17) = 0x800#17 ||| 0x1000#17 by decide, ← BitVec.or_assoc]
      rfl
  · have hand : ¬ (s.msc.sweep.origin = .setMode ∧ s.entryCount = 0) := fun h => ho h.1
    rw [State.endSweep, State.stopSweep_eq h, if_neg hand, if_pos ho]
    cases horg : s.msc.sweep.origin with
    | setMode => exact absurd horg ho
    | sweep | none => rfl

/-- Settles O45: the next RECALL starts as the sweep's RECALL ends, or the sweep ends. -/
theorem sweepGoesOnToItsEnd : Obligations.SweepGoesOnToItsEnd := by
  intro s u c x hs hdir hends hw hlink hl hmode hphase hwait hports hchan
  obtain ⟨b, hb, hsame⟩ := hends.exists_endsAt hs hw hlink hl hmode
  have hframe := hsame.frame
  obtain ⟨hsweep, humode, hup, humg, hu11, hudir⟩ := hends.kept hdir
  have hutt := hends.1
  have hb11 : ¬ (b.txn recallEntry).isSome = true := by
    rw [hsame.txn, hu11]
    nofun
  have hbsweep : b.msc.sweep = s.msc.sweep := by rw [hframe]; exact hsweep
  have hgive : b.giveEntry11 = b.examineFrom (s.msc.sweep.cursor.val + 1) State.passOver := by
    rw [State.giveEntry11, if_neg hb11, hbsweep, hphase]
    rfl
  have hmoves : ∀ k, u.MovesOver k → b.MovesOver k := fun k h => by rw [hframe]; exact h
  refine ⟨fun n e hlt hmove hway hrec hnone => ?next, fun hmove hpassed => ?last⟩
  case next =>
    obtain ⟨hheld, hfree, hquar⟩ := hrec
    have hbrec : b.Recallable e := by
      refine ⟨hheld, ?_, by rw [hframe]; exact hquar⟩
      rw [State.isLocked, hsame.locks]
      exact hfree
    obtain ⟨w, hwdef⟩ : ∃ w : State, w = { b with msc := { b.msc with sweep := { s.msc.sweep with cursor := n } } } := ⟨_, rfl⟩
    have hwu : w = { u with
        tt := { u.tt with locks := b.tt.locks }
        msc := { u.msc with sweep := { s.msc.sweep with cursor := n } } } := by
      rw [hwdef, hframe]
    have hgo : b.giveEntry11 = w.startRecall .sweep e.line none := by
      have hcursor : cursorAt n.val = n := Fin.ext (Nat.mod_eq_of_lt n.isLt)
      rw [hgive, State.examineFrom_of_recallable (n := n) (e := e) _ hlt (fun k h1 h2 => hmoves k (hmove k h1 h2))
        (by rw [hframe]; exact hway) hbrec, State.recallWay, hcursor, hbsweep, hwdef, ← hphase]
      rfl
    have hwnone : w.NoneAttaches e.line := by
      rw [hwu]
      exact hnone
    have hwheld : w.isHeld e.line = true := by
      rw [hwu]
      exact hudir.isHeld_of_atWay hway hheld
    have hwmode : w.msc.mode ≠ .faulted := by
      rw [hwu, show u.msc.mode = .coherent from humode.trans hmode]
      nofun
    have hwports : ∀ p, (w.port p).state ≠ .draining := fun p => by
      rw [hwu]
      exact (congrArg Port.state (hup p)).trans_ne (hports p)
    have hwchan : w.pu.channel ≠ .idle ∨ w.pu.queue = [] := by
      rw [hwu]
      exact hchan
    obtain ⟨t, y, ht, htframe, httt, hty, hyw, hyl, hym, hyk, htl, hask⟩ :=
      hwnone.settle_startRecall .sweep none hwmode hwchan hwheld hwports
    have hone : (w.startRecall .sweep e.line none).OneProbeAtMost := by
      rw [hwnone.startRecall]
      rcases hwchan with h | h
      · exact .inl h
      · refine .inr (.inr ⟨recallEntry, [], _, ?_, State.txn_putTxn_self .., hwheld⟩)
        show joinTail w.pu.queue recallEntry = _
        rw [h]
        rfl
    have hexec := hb _ hgo (State.giveEntry11_of_isSome (hwnone.isSome_startRecall .sweep none)) hone
    refine ⟨t, y, hexec.trans (congrArg _ ht), ?_, ?_, ?_, hyw, hyl, hym, hyk, ?_, ?_⟩
    · refine htframe.trans ?_
      rw [hwu]
    · refine httt.trans ?_
      rw [hwu, hutt]
    · exact ⟨hty.1, fun j hj => (hty.2 j hj).trans (by rw [hwu]; rfl)⟩
    · refine ⟨htl.1, fun m hm => (htl.2 m hm).trans (Eq.trans ?_ (hsame.locks m))⟩
      rw [hwdef]
      rfl
    · rw [hwu] at hask
      exact hask
  case last =>
    have hbphase : b.msc.sweep.phase ≠ .stopped := by
      rw [hbsweep, hphase]
      nofun
    have hbcount : b.entryCount = u.entryCount := by
      rw [hframe]
      rfl
    obtain ⟨g, hg⟩ : ∃ g, g = b.endSweep := ⟨_, rfl⟩
    have hgo : b.giveEntry11 = g := by
      rw [hgive, State.examineFrom_of_movesOver _ (Nat.succ_le_of_lt s.msc.sweep.cursor.isLt) fun k hk => hmoves k (hmove k hk),
        hbsweep, if_pos hpassed, hg]
    have hgframe := hg.trans (State.endSweep_eq hbphase)
    rw [hbcount, hbsweep, hframe] at hgframe
    have hgstop : g.msc.sweep.phase = .stopped := by
      rw [hgframe]
      show (Sweep.ended _ _).phase = _
      rw [Sweep.ended, if_neg (by rw [hphase]; nofun)]
    have hgwait : g.tt.recallWait = [] := by
      rw [hgframe]
      show u.tt.recallWait = _
      rw [hutt]
      exact hwait
    have hgchan : g.pu.channel ≠ .idle ∨ g.pu.queue = [] := by
      rw [hgframe]
      exact hchan
    have hgports : ∀ p, (g.port p).state ≠ .draining := fun p => by
      rw [hgframe]
      exact (congrArg Port.state (hup p)).trans_ne (hports p)
    have hquiet : g.Quiet := ⟨.inr ⟨hgstop, hgwait⟩, hgchan.imp id .inr, hgports, .inl hgstop⟩
    have hexec := hb g hgo hquiet.giveEntry11 (hgchan.imp id .inl)
    refine ⟨g, _, hexec.trans (congrArg _ hquiet.settle), rfl, ?_, ?_, ?_, ?_⟩
    · refine hgframe.trans ?_
      rw [humg, humode, hmode, hgframe]
    · rw [hgframe, hutt]
    · intro i
      rw [hgframe]
      rfl
    · intro l
      rw [hgframe]
      refine Eq.trans ?_ (hsame.locks l)
      rfl

end Sys2Proof.Machine
end

section
/-! SUPPORT. The sweep's start, its wait, and what wakes it (R172, R173, R175). -/

set_option Elab.async false

namespace Sys2Proof.Machine

/-! ### The commands that start a sweep -/

/-- R172: `c` is the command that starts a sweep of the origin, its code as named. -/
def State.StartsSweep (s : State) (c : Instr) (b code : Byte) (origin : SweepOrigin) : Prop :=
  (s.AtCommand .sweep ∧ c = .sweep b ∧ code = 3#8 ∧ origin = .sweep) ∨
    (s.AtCommand .setMode ∧ s.mg.arg0.extractLsb' 0 2 = 0#2 ∧ c = .setMode b ∧ code = 2#8 ∧ origin = .setMode)

/-- R172, R195: the state a sweep starts from, CMD_STATUS reading BUSY. -/
def State.sweepStarted (code : Byte) (origin : SweepOrigin) (s : State) : State :=
  { s with
    msc := { s.msc with
      sweep := { phase := .examining, origin := origin, cursor := 0, pass := 1#8, passedOver := 0,
                 remaining := s.msc.sweep.remaining, stirred := false } }
    mg := { s.mg with status := { state := .busy, reason := .none, code := code, mark := s.mg.status.mark } }
    out := [] }

theorem State.sweepBegun_commandTaken {s : State} {code : Byte} (h : s.mg.commandCode = code) (origin : SweepOrigin) :
    s.commandTaken.sweepBegun origin = s.sweepStarted code origin := by
  rw [State.sweepStarted, ← h]
  rfl

/-- R172: a command that starts a sweep, and what its first examination leaves. -/
theorem exec_of_startsSweep {s g : State} {c : Instr} {b code : Byte} {origin : SweepOrigin}
    (h : s.StartsSweep c b code origin) (hmode : s.msc.mode = .coherent) (hstop : s.msc.sweep.phase = .stopped)
    (hg : (s.sweepStarted code origin).declineWaiting.settle = g) (hmg : g.mg = (s.sweepStarted code origin).mg) :
    exec c s = .next { g with mg := s.mg.afterCommand code .busy .none, out := g.out ++ [.mgAck] } := by
  have hlast : ((g.modMg fun m => { m with staged := Staged.empty }.advance).emit .mgAck) =
      { g with mg := s.mg.afterCommand code .busy .none, out := g.out ++ [.mgAck] } := by
    rw [State.modMg, State.emit, hmg]
    rfl
  have hbegin : ∀ u : State, u.msc.sweep.phase = .stopped → u.beginSweep origin = (u.sweepBegun origin).declineWaiting.settle :=
    fun u hu => State.beginSweep_of_stopped hu
  rw [← hlast]
  rcases h with ⟨hs, rfl, rfl, rfl⟩ | ⟨hs, harg, rfl, rfl, rfl⟩
  · have hrun : s.commandTaken.cmdSweep = g := by
      rw [State.cmdSweep, show s.commandTaken.msc.mode = .coherent from hmode]
      exact (hbegin s.commandTaken hstop).trans (by rw [State.sweepBegun_commandTaken (hs.code_eq nofun)]; exact hg)
    exact (commandByte_of_atCommand hs State.cmdSweep).trans (by rw [hrun])
  · have hrun : s.commandTaken.cmdSetMode = g := by
      rw [State.cmdSetMode_of_pass (s := s.commandTaken) (congrArg BitVec.toNat harg) hmode]
      exact (hbegin s.commandTaken hstop).trans (by rw [State.sweepBegun_commandTaken (hs.code_eq nofun)]; exact hg)
    exact (commandByte_of_atCommand hs State.cmdSetMode).trans (by rw [hrun])

/-- The end of an event, its entry 11 given to its claimants. -/
theorem State.settle_of_giveEntry11_eq {s t : State} (h : s.giveEntry11 = t)
    (hch : t.pu.channel ≠ .idle ∨ t.pu.queue = []) (hports : ∀ p, (t.port p).state ≠ .draining) : s.settle = t := by
  have hpump : t.pumpProbes pumpBound = t := by
    rcases hch with hch | hq
    · rw [pumpBound, State.pumpProbes, if_pos (.inl hch)]
    · exact State.pumpProbes_of_nil hq pumpBound
  rw [State.settle, h, hpump, State.drainPorts_of_none hports]

/-! ### The entries in their ways -/

theorem State.atWay_eq_none {s : State} {n : Fin 1024} (h : s.pd.sets[n.val / 4] = []) : s.atWay n = none := by
  rw [State.atWay, h, List.find?_nil]

/-- R1, R3: an entry stands in one way. -/
theorem State.DirectoryKept.atWay_eq_some {s : State} (h : s.DirectoryKept) {n : Fin 1024} {e : DirEntry}
    (he : e ∈ s.pd.sets[n.val / 4]) (hw : e.way.val = n.val % 4) : s.atWay n = some e := by
  obtain ⟨-, hways, -, -⟩ := h ⟨n.val / 4, by omega⟩
  rw [State.atWay]
  cases hf : (s.pd.sets[n.val / 4]).find? fun e => e.way.val == n.val % 4 with
  | none => exact absurd (List.find?_eq_none.mp hf e he) (by simp [hw])
  | some e' =>
    have hw' : e'.way.val = n.val % 4 := by simpa using List.find?_some hf
    exact congrArg some (List.inj_on_of_nodup_map hways (List.mem_of_find?_eq_some hf) he (Fin.ext (hw'.trans hw.symm)))

/-- R3: a line's entry stands in one way. -/
theorem State.DirectoryKept.way_unique {s : State} (h : s.DirectoryKept) {n m : Fin 1024} {e e' : DirEntry}
    (hn : s.atWay n = some e) (hm : s.atWay m = some e') (hl : e.line = e'.line) : n = m := by
  have hen := List.mem_of_find?_eq_some hn
  have hem := List.mem_of_find?_eq_some hm
  have hsn : setOf e.line = ⟨n.val / 4, by omega⟩ := (h ⟨n.val / 4, by omega⟩).2.2.2 e hen
  have hsm : setOf e'.line = ⟨m.val / 4, by omega⟩ := (h ⟨m.val / 4, by omega⟩).2.2.2 e' hem
  have hdiv : n.val / 4 = m.val / 4 := by
    rw [hl] at hsn
    exact congrArg Fin.val (hsn.symm.trans hsm)
  have hee : e = e' := by
    simp only [← hdiv] at hem
    exact List.inj_on_of_nodup_map (h ⟨n.val / 4, by omega⟩).2.2.1 hen hem hl
  have hwn : e.way.val = n.val % 4 := by simpa using List.find?_some hn
  have hwm : e'.way.val = m.val % 4 := by simpa using List.find?_some hm
  refine Fin.ext ?_
  rw [hee] at hwn
  omega

/-- R6, R173: what a way holds after the entry of one line has left the directory. -/
theorem State.DirectoryKept.atWay_of_removed {s b : State} (h : s.DirectoryKept) {l : Line}
    (hb : s.SetBecomes b (setOf l) ((s.dirSet l).filter fun e => e.line != l)) {n : Fin 1024} {e : DirEntry} :
    b.atWay n = some e ↔ s.atWay n = some e ∧ e.line ≠ l := by
  have hk : ∀ e, s.atWay n = some e → setOf e.line = ⟨n.val / 4, by omega⟩ :=
    fun e he => (h ⟨n.val / 4, by omega⟩).2.2.2 e (List.mem_of_find?_eq_some he)
  by_cases hset : setOf l = ⟨n.val / 4, by omega⟩
  · have hold : s.pd.sets[n.val / 4] = s.dirSet l := by simp only [State.dirSet, hset]
    have hnew : b.pd.sets[n.val / 4] = (s.dirSet l).filter fun e => e.line != l := by
      have := hb.2.1
      simp only [hset] at this
      exact this
    refine ⟨fun he => ?_, fun ⟨he, hne⟩ => ?_⟩
    · have hmem := List.mem_of_find?_eq_some he
      rw [hnew, List.mem_filter] at hmem
      exact ⟨h.atWay_eq_some (hold ▸ hmem.1) (by simpa using List.find?_some he), by simpa using hmem.2⟩
    · refine (h.of_removed hb).atWay_eq_some ?_ (by simpa using List.find?_some he)
      rw [hnew, List.mem_filter]
      exact ⟨hold ▸ List.mem_of_find?_eq_some he, by simpa using hne⟩
  · have hsame : b.atWay n = s.atWay n := by
      have := hb.2.2 ⟨n.val / 4, by omega⟩ (Ne.symm hset)
      rw [State.atWay, State.atWay, this]
    rw [hsame]
    exact ⟨fun he => ⟨he, fun hl => hset (hl ▸ hk e he)⟩, And.left⟩

/-- The position in the sweep's order of a way of a set. -/
def wayAt (k : SetIx) (w : Way) : Fin 1024 := ⟨4 * k.val + w.val, by omega⟩

/-- R173: what the ways hold when the directory has one entry. -/
theorem State.atWay_of_alone {s : State} {k : SetIx} {e : DirEntry} (hother : ∀ j : SetIx, j ≠ k → s.pd.sets[j.val] = [])
    (hk : s.pd.sets[k.val] = [e]) (n : Fin 1024) : s.atWay n = if n = wayAt k e.way then some e else none := by
  by_cases hset : n.val / 4 = k.val
  · have hsets : s.pd.sets[n.val / 4] = [e] := by simp only [hset, hk]
    rw [State.atWay, hsets]
    by_cases hw : e.way.val = n.val % 4
    · have hn : n = wayAt k e.way := Fin.ext (by show n.val = 4 * k.val + e.way.val; omega)
      rw [if_pos hn]
      exact List.find?_cons_of_pos (by simpa using hw)
    · have hn : n ≠ wayAt k e.way := fun h => hw (by
        have : n.val = 4 * k.val + e.way.val := congrArg Fin.val h
        omega)
      rw [if_neg hn]
      exact List.find?_cons_of_neg (by simpa using hw)
  · have hn : n ≠ wayAt k e.way := fun h => hset (by
      have : n.val = 4 * k.val + e.way.val := congrArg Fin.val h
      omega)
    rw [if_neg hn]
    exact State.atWay_eq_none (hother ⟨n.val / 4, by omega⟩ fun h => hset (congrArg Fin.val h))

theorem State.movesOver_of_alone {s : State} {k : SetIx} {e : DirEntry} (hother : ∀ j : SetIx, j ≠ k → s.pd.sets[j.val] = [])
    (hk : s.pd.sets[k.val] = [e]) {n : Fin 1024} (hn : n ≠ wayAt k e.way) : s.MovesOver n := by
  intro e' he'
  rw [State.atWay_of_alone hother hk, if_neg hn] at he'
  cases he'

/-! ### The sweep passes an entry over, and waits -/

/-- R173, R175: a pass that finds one entry alone to stop at, and may not recall it, ends with it passed over. -/
theorem State.examineFrom_of_passedOver {s : State} (rest : Nat → State → State) {n : Fin 1024} {e : DirEntry}
    (hmove : ∀ k, k ≠ n → s.MovesOver k) (hn : s.atWay n = some e) (hquar : s.isQuarantined e.line = false)
    (he : e.state = .reserved ∨ s.isLocked e.line = true) :
    s.examineFrom 0 rest = rest (s.msc.sweep.passedOver + 1) s := by
  have hcond : (e.state == .reserved || s.isLocked e.line) = true := by
    rcases he with h | h
    · rw [h]
      rfl
    · rw [h, Bool.or_true]
  have hscan : s.scanWays (some e :: s.pd.ways.drop (n.val + 1)) n.val s.msc.sweep.passedOver =
      { passed := s.msc.sweep.passedOver + 1, found := none } := by
    rw [State.scanWays, hquar, hcond, if_neg nofun, if_pos rfl,
      State.scanWays_drop_of_movesOver (n := 1024) (Nat.succ_le_of_lt n.isLt) (Nat.le_refl _)
        (fun k h1 _ => hmove k fun h => by rw [h] at h1; omega), Directory.ways_drop_end s (Nat.le_refl _)]
    rfl
  rw [State.examineFrom, State.scanWays_drop_of_movesOver (Nat.zero_le _) (Nat.le_of_lt n.isLt)
      (fun k _ h2 => hmove k fun h => by rw [h] at h2; omega), Directory.ways_drop, hn, hscan]
  exact if_neg (Nat.succ_ne_zero _)

/-- R175: a new pass counts, saturating at 255. -/
theorem bumpPass_eq {p q : BitVec 8} (h : q.toNat = min 255 (p.toNat + 1)) : bumpPass p = q := by
  refine BitVec.eq_of_toNat_eq ?_
  unfold bumpPass
  split
  · rename_i hp
    rw [h, hp]
    rfl
  · rename_i hp
    have hne : p.toNat ≠ 255 := fun h' => hp (BitVec.eq_of_toNat_eq h')
    have := p.isLt
    rw [h, BitVec.toNat_add]
    simp only [BitVec.toNat_ofNat]
    omega

/-- R50: an abandoned host transaction's completion frees its entry, and its line, for which nothing waits, is unlocked. -/
theorem exec_abandonedCompletion_of {s : State} {q : MemReq} {rest : List MemReq} {x : Txn} (hs : s.Running)
    (hm : s.mp.outstanding = q :: rest) (hx : s.txn q.txn = some x) (ha : x.abandoned = true) (hh : x.work.isHost = true)
    (k : Completion) :
    exec (.memCompletion k) s = .next
      ({ s.clearOut with mp := { s.mp with outstanding := rest } }.completeAbandoned q.txn x.line).settle := by
  rw [exec, execMemCompletion, live_of_running hs]
  have hx' : State.txn { s.clearOut with mp := { s.mp with outstanding := rest } } q.txn = some x := hx
  simp only [State.clearOut_mp, hm, State.complete, hx', ha, hh, Bool.and_true]
  rfl

/-- R39, R175: the release of a line for which nothing waits, by a general entry, wakes the sweep. -/
theorem State.releaseLock_of_holdsAlone {s : State} {i : EntryIx} {l : Line} (hl : s.HoldsAlone i l) (hi : i ≠ recallEntry) :
    s.releaseLock i l = s.wakeSweep.dropLock l := by
  rw [State.releaseLock, hl]
  dsimp only
  rw [if_pos rfl, State.hearRelease, if_neg hi]
  rfl

/-- R173: the sweep recalls the first entry that it does not move over, from where it stands. -/
theorem State.examineFrom_eq_startRecall {s : State} {pos : Nat} (rest : Nat → State → State) {n : Fin 1024} {e : DirEntry}
    (hp : pos ≤ n.val) (h : ∀ k : Fin 1024, pos ≤ k.val → k < n → s.MovesOver k) (hn : s.atWay n = some e)
    (he : s.Recallable e) : s.examineFrom pos rest =
      (s.setSweep { s.msc.sweep with phase := .recalling, cursor := n }).startRecall .sweep e.line none := by
  have hcursor : cursorAt n.val = n := Fin.ext (Nat.mod_eq_of_lt n.isLt)
  rw [State.examineFrom_of_recallable rest hp h hn he, State.recallWay, hcursor]

theorem State.giveEntry11_of_examining {s : State} (h11 : s.txn recallEntry = none) (hphase : s.msc.sweep.phase = .examining)
    (hcursor : s.msc.sweep.cursor = 0) : s.giveEntry11 = s.examineFrom 0 State.passOver := by
  rw [State.giveEntry11, if_neg (by rw [h11]; nofun), hphase]
  dsimp only
  rw [hcursor]
  rfl

/-- The end of an event, entry 11 handed on to one that takes it. -/
theorem State.settle_of_giveEntry11_taken {s g : State} (h : s.giveEntry11 = g) (hg : (g.txn recallEntry).isSome = true) :
    s.settle = g.settle := by
  rw [State.settle, State.settle, h, State.giveEntry11_of_isSome hg]

/-- R173: a sweep that meets nothing but one entry it may not recall yet waits. -/
theorem State.settle_of_examiningPassedOver {s : State} {k : SetIx} {e : DirEntry} (h11 : s.txn recallEntry = none)
    (hphase : s.msc.sweep.phase = .examining) (hcursor : s.msc.sweep.cursor = 0) (hpassed : s.msc.sweep.passedOver = 0)
    (hstirred : s.msc.sweep.stirred = false) (hother : ∀ j : SetIx, j ≠ k → s.pd.sets[j.val] = [])
    (hk : s.pd.sets[k.val] = [e]) (he : e.state = .reserved ∨ s.isLocked e.line = true) (hquar : s.isQuarantined e.line = false)
    (hch : s.pu.channel ≠ .idle ∨ s.pu.queue = []) (hports : ∀ p, (s.port p).state ≠ .draining) :
    s.settle = s.waitForEvent 1 := by
  refine State.settle_of_giveEntry11_eq ?_ hch hports
  rw [State.giveEntry11_of_examining h11 hphase hcursor,
    State.examineFrom_of_passedOver _ (fun n hn => State.movesOver_of_alone hother hk hn)
      (by rw [State.atWay_of_alone hother hk, if_pos rfl]) hquar he, hpassed, State.passOver, hstirred]
  rfl

/-- R175: what the release of an abandoned transaction's line leaves to a sweep that waits: a new pass. -/
theorem exec_abandonedCompletion_of_holdsAlone {s : State} {q : MemReq} {rest : List MemReq} {x : Txn} (hs : s.Running)
    (hm : s.mp.outstanding = q :: rest) (hx : s.txn q.txn = some x) (hi : q.txn ≠ recallEntry) (ha : x.abandoned = true)
    (hh : x.work.isHost = true) (hl : s.HoldsAlone q.txn x.line) (k : Completion) :
    ∃ u : State, exec (.memCompletion k) s = .next (u.wakeSweep.dropLock x.line).settle ∧
      u = { s with tt := { s.tt with entries := u.tt.entries }, mp := { s.mp with outstanding := rest }, out := [] } ∧
      s.TxnBecomes u q.txn none := by
  let s' : State := { s.clearOut with mp := { s.mp with outstanding := rest } }
  refine ⟨s'.freeEntry q.txn, ?_, rfl, s'.txnBecomes_freeEntry q.txn⟩
  rw [exec_abandonedCompletion_of hs hm hx ha hh, State.completeAbandoned,
    State.releaseLock_of_holdsAlone (s := s'.freeEntry q.txn) hl hi]

/-- R6, R173: the sweep moves over the ways it moved over before the entry of one line left the directory. -/
theorem State.DirectoryKept.movesOver_of_removed {s b : State} (h : s.DirectoryKept) {l : Line}
    (hb : s.SetBecomes b (setOf l) ((s.dirSet l).filter fun e => e.line != l)) (hmsc : b.msc = s.msc) {n : Fin 1024}
    (hn : s.MovesOver n) : b.MovesOver n := fun e he => by
  rw [State.isQuarantined, hmsc]
  exact hn e ((h.atWay_of_removed hb).mp he).1

/-- R174, R175: a sweep whose RECALL was the last of its pass, which passed entries over. -/
theorem State.giveEntry11_of_passEnd {s : State} (h11 : s.txn recallEntry = none) (hphase : s.msc.sweep.phase = .recalling)
    (hpassed : s.msc.sweep.passedOver ≠ 0) (hmove : ∀ k, s.msc.sweep.cursor < k → s.MovesOver k) :
    s.giveEntry11 = s.passOver s.msc.sweep.passedOver := by
  rw [State.giveEntry11, if_neg (by rw [h11]; nofun), hphase]
  dsimp only
  rw [State.advanceSweep, State.examineFrom_of_movesOver _ (Nat.succ_le_of_lt s.msc.sweep.cursor.isLt) hmove, if_neg hpassed]

/-- Settles O46: what a sweep passes over, what it waits for, and what wakes it. -/
theorem sweepPassesOverAndComesBack : Obligations.SweepPassesOverAndComesBack := by
  refine ⟨fun s b k e hs hmode hq hstop h11 hother hk he hquar => ?passes,
    fun s q outs x k hs hports hm hx hi ha hh hl hqueue hmode =>
      ⟨fun j e p hphase h11 hch hother hj hset hheld hline hquar hnone hp => ?wakes, fun hphase hpassed h11 => ?stirs⟩,
    fun s x e hs hdir hp hw hlink hnot hl hmode hphase hpassed hwait hports hway hline hmove =>
      ⟨fun hstirred => ?waits, fun n e' p hstirred hlt hmove' hway' hrec hnone hp' => ?again⟩⟩
  case passes =>
    have hwait : s.tt.recallWait = [] := by
      rcases hq.entry11 with h | h
      · rw [h11] at h
        cases h
      · exact h.2
    have hch : s.pu.channel ≠ .idle ∨ s.pu.queue = [] := by
      rcases hq.channel with h | h | h
      · exact .inl h
      · rw [hmode] at h
        cases h
      · exact .inr h
    have hsettle := State.settle_of_examiningPassedOver (s := s.sweepStarted 3#8 .sweep) h11 rfl rfl rfl rfl hother hk he hquar hch
      hq.ports
    refine ⟨_, exec_of_startsSweep (g := (s.sweepStarted 3#8 .sweep).waitForEvent 1) (b := b) (.inl ⟨hs, rfl, rfl, rfl⟩)
      hmode hstop ?_ rfl, rfl, rfl⟩
    rw [State.declineWaiting_of_none (s := s.sweepStarted 3#8 .sweep) h11 hwait]
    exact hsettle
  case wakes =>
    obtain ⟨u, hexec, hu, hux⟩ := exec_abandonedCompletion_of_holdsAlone hs hm hx hi ha hh hl k
    have husweep : u.msc.sweep = s.msc.sweep := by rw [hu]
    let b : State := (u.setSweep u.msc.sweep.newPass).dropLock x.line
    let w : State := b.setSweep { b.msc.sweep with phase := .recalling, cursor := wayAt j e.way }
    have hwake : u.wakeSweep.dropLock x.line = b := by
      rw [State.wakeSweep, husweep, hphase]
      dsimp only
      rw [← husweep]
    have hpd : u.pd = s.pd := by rw [hu]
    have hb11 : b.txn recallEntry = none := (hux.2 recallEntry (Ne.symm hi)).trans h11
    have hbother : ∀ j' : SetIx, j' ≠ j → b.pd.sets[j'.val] = [] := fun j' h => by
      show u.pd.sets[j'.val] = []
      rw [hpd]
      exact hother j' h
    have hbj : b.pd.sets[j.val] = [e] := by
      show u.pd.sets[j.val] = _
      rw [hpd]
      exact hj
    have hblock : s.LockBecomes b x.line none := by
      have := (u.setSweep u.msc.sweep.newPass).lockBecomes_dropLock x.line
      refine ⟨this.1, fun m hm => (this.2 m hm).trans ?_⟩
      show u.lockOf m = _
      rw [hu]
      rfl
    have hbrec : b.Recallable e := by
      refine ⟨hheld, ?_, ?_⟩
      · rw [State.isLocked, hline, hblock.1]
        rfl
      · show u.isQuarantined e.line = _
        rw [hu]
        exact hquar
    have hgo : b.giveEntry11 = w.startRecall .sweep e.line none := by
      rw [State.giveEntry11_of_examining (s := b) hb11 rfl rfl]
      exact State.examineFrom_eq_startRecall _ (Nat.zero_le _)
        (fun n _ hn => State.movesOver_of_alone hbother hbj (Fin.ne_of_lt hn))
        (by rw [State.atWay_of_alone hbother hbj, if_pos rfl]) hbrec
    have hwnone : w.NoneAttaches e.line := by
      refine hnone.of_txn ?_ fun i y hy _ => ?_
      · show u.hp.cycle = _
        rw [hu]
      · have hne : i ≠ q.txn := fun h => by
          rw [h, show w.txn q.txn = none from hux.1] at hy
          cases hy
        exact (hux.2 i hne).symm.trans hy
    have hwheld : w.isHeld e.line = true := by
      have hdir : u.dirSet e.line = [e] := by
        rw [State.dirSet, hpd]
        simp only [hset]
        exact hj
      rw [State.isHeld, State.findEntry, show w.dirSet e.line = _ from hdir, List.find?_cons_of_pos (by simp), Option.any_some,
        hheld]
      rfl
    have hwmode : w.msc.mode ≠ .faulted := by
      show u.msc.mode ≠ _
      rw [hu, hmode]
      nofun
    have hwidle : w.pu.channel = .idle := by
      show u.pu.channel = _
      rw [hu]
      exact hch
    have hwqueue : w.pu.queue = [] := by
      show u.pu.queue = _
      rw [hu]
      exact hqueue
    have hwports : ∀ p, (w.port p).state ≠ .draining := fun p => by
      show (u.port p).state ≠ _
      rw [hu]
      exact hports p
    obtain ⟨t, y, ht, htframe, httt, hty, hyw, hyl, -, -, htl, hidle, -⟩ :=
      hwnone.settle_startRecall .sweep none hwmode (.inr hwqueue) hwheld hwports
    obtain ⟨-, hout, hpu, hev⟩ := hidle hwidle
    have hsettle := (State.settle_of_giveEntry11_taken hgo (hwnone.isSome_startRecall .sweep none)).trans ht
    have hcursor : t.msc.sweep.cursor = wayAt j e.way := congrArg (fun t : State => t.msc.sweep.cursor) htframe
    refine ⟨t, y, hexec.trans (by rw [hwake, hsettle]), ?_, by rw [hcursor]; rfl, ?_, hty.1, hyw, hyl, fun i h1 h2 => ?_, ?_⟩
    · refine htframe.trans ?_
      rw [hcursor, httt, hpu, hev, hout, ← bumpPass_eq hp]
      simp only [w, b]
      rw [hu]
      rfl
    · exact (hty.2 q.txn hi).trans hux.1
    · exact (hty.2 i h2).trans (hux.2 i h1)
    · rw [hline] at htl ⊢
      exact ⟨htl.1, fun m hm => (htl.2 m hm).trans (hblock.2 m hm)⟩
  case stirs =>
    obtain ⟨u, hexec, hu, hux⟩ := exec_abandonedCompletion_of_holdsAlone hs hm hx hi ha hh hl k
    have husweep : u.msc.sweep = s.msc.sweep := by rw [hu]
    let b : State := (u.setSweep { u.msc.sweep with stirred := true }).dropLock x.line
    have hwake : u.wakeSweep.dropLock x.line = b := by
      have : u.wakeSweep = u.setSweep { u.msc.sweep with stirred := true } := by
        rw [State.wakeSweep, husweep]
        rcases hphase with h | h
        · rw [h]
          exact if_neg hpassed
        · rw [h]
          exact if_neg hpassed
      rw [this]
    have hb11 : (b.txn recallEntry).isSome = true := by
      rw [show b.txn recallEntry = _ from hux.2 recallEntry (Ne.symm hi)]
      exact h11
    have hsettle : b.settle = b := by
      refine State.settle_of_giveEntry11_eq (State.giveEntry11_of_isSome hb11) (.inr ?_) fun p => ?_
      · show u.pu.queue = _
        rw [hu]
        exact hqueue
      · show (u.port p).state ≠ _
        rw [hu]
        exact hports p
    have hlock := (u.setSweep { u.msc.sweep with stirred := true }).lockBecomes_dropLock x.line
    refine ⟨b, hexec.trans (by rw [hwake, hsettle]), ?_, hux, hlock.1, fun m hm => (hlock.2 m hm).trans ?_⟩
    · simp only [b]
      rw [hu]
      rfl
    · show u.lockOf m = _
      rw [hu]
      rfl
  case waits =>
    obtain ⟨b, hexec, hb, hset, htable, hlock⟩ := exec_unlinkedRecallAnswer_of hs hp (Work.isRecall_of_eq hw) (.inl rfl) hnot hl
      hlink (List.mem_cons_self ..)
    have hmsc : b.msc = s.msc := by rw [hb]
    have hgive : b.giveEntry11 = b.waitForEvent s.msc.sweep.passedOver := by
      rw [State.giveEntry11_of_passEnd htable.1 (by rw [hmsc]; exact hphase) (by rw [hmsc]; exact hpassed)
        (by rw [hmsc]; exact fun k hk => hdir.movesOver_of_removed hset hmsc (hmove k hk)), State.passOver, hmsc, hstirred]
      rfl
    have hsettle : b.giveEntry11.settle = b.waitForEvent s.msc.sweep.passedOver := by
      rw [hgive]
      refine State.settle_of_giveEntry11_eq ?_ (.inr ?_) fun p => ?_
      · exact (if_neg (by rw [show State.txn (b.waitForEvent _) recallEntry = none from htable.1]; nofun)).trans rfl
      · show b.pu.queue = []
        rw [hb]
        exact hp.queue
      · show (b.port p).state ≠ _
        rw [hb]
        exact hports p
    refine ⟨_, hexec.trans (congrArg _ hsettle), ?_, htable, ?_⟩
    · simp only [State.waitForEvent, State.setSweep, hmsc]
    · show b.out = []
      rw [hb]
  case again =>
    obtain ⟨b, hexec, hb, hset, htable, hlock⟩ := exec_unlinkedRecallAnswer_of hs hp (Work.isRecall_of_eq hw) (.inl rfl) hnot hl
      hlink (List.mem_cons_self ..)
    have hmsc : b.msc = s.msc := by rw [hb]
    obtain ⟨hheld, hfree, hquar⟩ := hrec
    have hne : e'.line ≠ x.line := fun h =>
      absurd (hdir.way_unique hway' hway (h.trans hline.symm)) (Fin.ne_of_lt hlt)
    have hway : b.atWay n = some e' := (hdir.atWay_of_removed hset).mpr ⟨hway', hne⟩
    let w : State := b.setSweep { s.msc.sweep with phase := .recalling, cursor := n, pass := p, passedOver := 0, stirred := false }
    have hgo : b.giveEntry11 = w.startRecall .sweep e'.line none := by
      rw [State.giveEntry11_of_passEnd htable.1 (by rw [hmsc]; exact hphase) (by rw [hmsc]; exact hpassed)
        (by rw [hmsc]; exact fun k hk => hdir.movesOver_of_removed hset hmsc (hmove k hk)), State.passOver, hmsc, hstirred,
        if_pos rfl]
      have hbrec : (b.setSweep s.msc.sweep.newPass).Recallable e' := by
        refine ⟨hheld, ?_, ?_⟩
        · exact (congrArg Option.isSome (hlock.2 _ hne)).trans hfree
        · show State.isQuarantined b e'.line = _
          rw [State.isQuarantined, hmsc]
          exact hquar
      refine (State.examineFrom_eq_startRecall (s := b.setSweep s.msc.sweep.newPass) _ (Nat.zero_le _)
        (fun k _ hk => hdir.movesOver_of_removed hset hmsc (hmove' k hk)) hway hbrec).trans ?_
      simp only [w, ← bumpPass_eq hp']
      rfl
    have hwnone : w.NoneAttaches e'.line := by
      refine hnone.of_txn ?_ fun i y hy _ => ?_
      · show b.hp.cycle = _
        rw [hb]
      · have hne : i ≠ recallEntry := fun h => by
          rw [h, show w.txn recallEntry = none from htable.1] at hy
          cases hy
        exact (htable.2 i hne).symm.trans hy
    have hwidle : w.pu.channel = .idle := by
      show b.pu.channel = _
      rw [hb]
    have hwqueue : w.pu.queue = [] := by
      show b.pu.queue = _
      rw [hb]
      exact hp.queue
    have hwmode : w.msc.mode ≠ .faulted := by
      show b.msc.mode ≠ _
      rw [hmsc, hmode]
      nofun
    have hwports : ∀ p, (w.port p).state ≠ .draining := fun p => by
      show (b.port p).state ≠ _
      rw [hb]
      exact hports p
    have hwheld : w.isHeld e'.line = true := (hdir.of_removed hset).isHeld_of_atWay hway hheld
    obtain ⟨t, y, ht, htframe, httt, hty, hyw, hyl, -, -, htl, hidle, -⟩ :=
      hwnone.settle_startRecall .sweep none hwmode (.inr hwqueue) hwheld hwports
    obtain ⟨-, hout, -, -⟩ := hidle hwidle
    refine ⟨t, y, hexec.trans (by rw [hgo, ht]), ?_, ⟨hty.1, fun i hi => (hty.2 i hi).trans (htable.2 i hi)⟩, hyw, hyl, ?_⟩
    · refine (congrArg State.msc htframe).trans ?_
      simp only [w, State.setSweep, hmsc]
    · rw [hout, show w.out = [] from by show b.out = []; rw [hb]]
      rfl

end Sys2Proof.Machine
end

section
/-! SUPPORT. The beats of an attached write-back, and the attachment of a cycle to a holder (R42, R64 to R69). -/

set_option Elab.async false

namespace Sys2Proof.Machine

/-! ### The records that beats leave -/

theorem placeBeats_singleton (b : Beat) (d : BeatData) (old : LineData) : placeBeats [(b, d)] old = setBeat old b d := rfl

/-- R65: the data taken is told by what the record was before its beats. -/
theorem Txn.TookData.of_record {x y z : Txn} {raw : LineData} (h : y.TookData z raw)
    (hy : y = { x with phase := y.phase, buf := y.buf, mask := y.mask, wbData := y.wbData, wbTimer := y.wbTimer }) :
    x.TookData z raw := by
  have hw : y.work = x.work := by rw [hy]
  have hold : y.oldValue = x.oldValue := by rw [hy]
  have hout : y.outcome = x.outcome := by rw [hy]
  refine ⟨?_, fun hk => ?_, fun p g m w hwork => ?_, fun p g f op hwork => h.atomic p g f op (hw.trans hwork)⟩
  · refine h.record.trans ?_
    rw [hy]
  · rw [← hold, ← hout]
    exact h.plain (by rw [hw]; exact hk)
  · rw [← hold, ← hout]
    exact h.write p g m w (hw.trans hwork)

/-- R65: a RECALL does no work on its data. -/
theorem Txn.workOnData_of_recall {x : Txn} (h : x.work.isRecall = true) : x.workOnData = x := by
  obtain ⟨b, hw⟩ := Work.exists_of_isRecall h
  simp only [Txn.workOnData, hw]

/-! ### The beats of an attached write-back -/

/-- R64: a beat that an attached write-back still awaits. -/
theorem exec_writebackBeat_of_feeds {s : State} {c : Cycle} {i : EntryIx} {x : Txn} (hs : s.Running) (hf : s.Feeds c i x)
    {b : Beat} (hb : b ∉ c.taken) (hlen : c.taken.length < 4) (d : BeatData) :
    exec (.writebackBeat b d) s = .next (s.clearOut.takeWritebackBeat i c b d) := by
  have hcond : ¬ (b ∈ c.taken ∨ 4 ≤ c.taken.length) := fun h => h.elim hb fun h => absurd h (Nat.not_le.mpr hlen)
  rw [exec, execWritebackBeat, live_of_running hs]
  simp only [State.clearOut_hp, hf.cycle, hf.standing]
  rw [State.takeAttachedBeat, if_neg hcond]

/-- R64: a holder's record after one beat of its write-back. -/
def Txn.fed (b : Beat) (d : BeatData) (complete : Bool) (x : Txn) : Txn :=
  { x with
    buf := setBeat x.buf b d
    mask := if complete then BitVec.allOnes 32 else x.mask
    wbData := x.wbData || complete
    wbTimer := x.wbTimer.map fun _ => .stopped }

/-- R64: a record told by the buffer that the beat leaves. -/
theorem Txn.fed_eq {b : Beat} {d : BeatData} {x : Txn} {raw : LineData} (h : BeatPlaced b d x.buf raw) (hd : x.wbData = false)
    (k : Bool) : x.fed b d k = { x with
      buf := raw, mask := if k then BitVec.allOnes 32 else x.mask, wbData := k, wbTimer := x.wbTimer.map fun _ => .stopped } := by
  rw [h.eq_setBeat, Txn.fed, hd, Bool.false_or]

theorem Txn.fed_false (b : Beat) (d : BeatData) (x : Txn) : x.fed b d false = { x with
    buf := setBeat x.buf b d, wbTimer := x.wbTimer.map fun _ => .stopped } := by
  rw [Txn.fed, Bool.or_false, if_neg nofun]

theorem Txn.takeBeats_singleton (b : Beat) (d : BeatData) (complete : Bool) (x : Txn) :
    x.takeBeats [(b, d)] complete = x.fed b d complete := rfl

/-- R64, R65: the fourth beat is in the holder's buffer. -/
theorem exec_writebackBeat_of_last {s : State} {c : Cycle} {i : EntryIx} {x : Txn} (hs : s.Running) (hf : s.Feeds c i x)
    {b : Beat} (hb : b ∉ c.taken) (hlen : c.taken.length = 3) (d : BeatData) :
    ∃ v, exec (.writebackBeat b d) s = .next (v.afterBeats i).settle ∧
      v = { s with
        hp := { s.hp with cycle := some { c with taken := c.taken ++ [b] } }
        tt := { s.tt with entries := v.tt.entries }
        out := [] } ∧
      s.TxnBecomes v i (some (x.fed b d true)) := by
  have hnew : (c.taken ++ [b]).length = 4 := by rw [List.length_append, hlen]; rfl
  refine ⟨(s.clearOut.modTxn i (Txn.fed b d true)).setCycle (some { c with taken := c.taken ++ [b] }), ?_, rfl,
    State.txnBecomes_modTxn (s := s.clearOut) hf.txn _⟩
  rw [exec_writebackBeat_of_feeds hs hf hb (by omega), State.takeWritebackBeat]
  dsimp only
  rw [hnew, if_neg (Nat.lt_irrefl 4)]
  rfl

/-- R64: a state quiet but for a beat that has come stays so. -/
theorem State.Quiet.of_occupied {s t : State} {i : EntryIx} {x y : Txn} (h : s.Quiet) (hx : s.txn i = some x)
    (hy : s.TxnBecomes t i (some y)) (hpu : t.pu = s.pu) (hmsc : t.msc = s.msc) (hwait : t.tt.recallWait = s.tt.recallWait)
    (hrp : t.rp = s.rp) : t.Quiet :=
  h.of_eq (hy.isSome_eq hx recallEntry) hmsc hwait (by rw [hpu]; exact h.channel) fun p => by rw [State.port, hrp]; rfl

/-- Settles O13, for the cycle's first three beats and for its fourth, by the holder's phase. -/
theorem writebackBeatsCompleteTheHoldersData : Obligations.WritebackBeatsCompleteTheHoldersData := by
  refine ⟨fun s c i x b d h => ?same, fun s c i x b d hs hq hf hd hb hlen => ?first,
    fun s c i x b d raw hs hq hf hp ha hd hb hlen hraw => ?keeps, fun s c i x b d raw hs hq hf hp hd hb hlen hraw =>
      ⟨fun hkind => ?plain, fun e f z a p hi hr hm he hlink hf' hz hk ha hpol hmode hsweep hset hnone hway => ?linked⟩⟩
  case same =>
    rw [exec, exec, execHostWriteBeat, execWritebackBeat, live, live]
    split
    · rfl
    · rcases h with hf | ⟨hc, hk⟩
      · simp only [State.clearOut_hp, hf.cycle, hf.standing]
      · simp only [State.clearOut_hp, hc.cycle, hc.standing, State.clearOut_txn, hc.txn]
        exact (if_pos hk).symm
  case first =>
    let c' : Cycle := { c with taken := c.taken ++ [b] }
    have hnew : (c.taken ++ [b]).length = c.taken.length + 1 := by rw [List.length_append]; rfl
    obtain ⟨v, hvdef⟩ : ∃ v, v = (s.clearOut.modTxn i (Txn.fed b d false)).ackBeat c' := ⟨_, rfl⟩
    have hv := State.txnBecomes_modTxn (s := s.clearOut) hf.txn (Txn.fed b d false)
    have hframe : v = { s with
        hp := { s.hp with cycle := some { c with given := c.given + 1, taken := c.taken ++ [b] } }
        tt := { s.tt with entries := v.tt.entries }
        out := [.beatAck] } := by
      rw [hvdef]
      rfl
    have hvx : s.TxnBecomes v i (some { x with
        buf := setBeat x.buf b d, wbTimer := x.wbTimer.map fun _ => .stopped }) := by
      rw [Txn.fed_false] at hv
      rw [hvdef]
      exact hv
    have hexec : exec (.writebackBeat b d) s = .next (v.afterBeats i).settle := by
      rw [exec_writebackBeat_of_feeds hs hf hb (by omega), State.takeWritebackBeat]
      dsimp only
      have h4 : ((c.taken ++ [b]).length == 4) = false := by
        rw [beq_eq_false_iff_ne, hnew]
        omega
      rw [h4, if_pos (show (c.taken ++ [b]).length < 4 by rw [hnew]; omega), hvdef]
      rfl
    have hwait : v.afterBeats i = v := by
      rw [State.afterBeats_eq hvx.1]
      refine if_neg fun h => ?_
      rw [hd] at h
      exact absurd h.1 nofun
    have hquiet : v.Quiet := by
      refine hq.of_occupied hf.txn hvx ?_ ?_ ?_ ?_ <;> rw [hframe]
    refine ⟨v, _, hexec.trans (by rw [hwait, hquiet.settle]), ?_, by rw [hframe], hvx, rfl, beatPlaced_setBeat b d x.buf⟩
    refine hframe.trans ?_
    rw [hframe]
  case keeps =>
    obtain ⟨v, hexec, hv, hvx⟩ := exec_writebackBeat_of_last hs hf hb hlen d
    rw [Txn.fed_eq hraw hd] at hvx
    have hwait : v.afterBeats i = v := by
      rw [State.afterBeats_eq hvx.1]
      refine if_neg fun h => ?_
      simp only [hp, ha] at h
      exact absurd h.2 (by simp)
    have hquiet : v.Quiet := by
      refine hq.of_occupied hf.txn hvx ?_ ?_ ?_ ?_ <;> rw [hv]
    refine ⟨v, hexec.trans (by rw [hwait, hquiet.settle]), ?_, by rw [hv], ?_⟩
    · refine hv.trans ?_
      rw [hv]
    · exact hvx
  case plain =>
    obtain ⟨v, hexec, hv, hvx⟩ := exec_writebackBeat_of_last hs hf hb hlen d
    rw [Txn.fed_eq hraw hd] at hvx
    have hvq : v.Quiet := by
      refine hq.of_occupied hf.txn hvx ?_ ?_ ?_ ?_ <;> rw [hv]
    obtain ⟨t, y, ht, hframe, htable, htook, hset, hsame⟩ := hvq.deaf.exists_dataTaken hvx.1 (hkind.imp And.left fun h => h.2.2)
    have htq : t.Quiet := by
      refine hvq.of_occupied hvx.1 htable ?_ ?_ ?_ ?_ <;> rw [hframe]
    have hafter : v.afterBeats i = t := by
      rw [State.afterBeats_eq hvx.1]
      exact (if_pos ⟨rfl, hp⟩).trans ht
    have hmp : t.mp = { s.mp with waiting := joinTail s.mp.waiting i } := by
      rw [hframe, hv]
    have hhp : t.hp = { s.hp with cycle := some { c with taken := c.taken ++ [b] } } := by
      rw [hframe, hv]
    refine ⟨t, y, hexec.trans (by rw [hafter, htq.settle]), ?_, hhp, hmp, hvx.trans htable, (htook rfl rfl).of_record rfl,
      fun hm => ?_, fun hm => ?_⟩
    · refine hframe.trans ?_
      rw [hhp, hmp, hv]
    · have := hset hm
      rw [hv] at this
      exact this
    · rw [hsame hm, hv]
  case linked =>
    subst hi
    obtain ⟨v, hexec, hv, hvx⟩ := exec_writebackBeat_of_last hs hf hb hlen d
    rw [Txn.fed_eq hraw hd] at hvx
    have hvq : v.Quiet := by
      refine hq.of_occupied hf.txn hvx ?_ ?_ ?_ ?_ <;> rw [hv]
    have hpd : v.pd = s.pd := by rw [hv]
    let w : State := v.putSet x.line ((s.dirSet x.line).filter fun e' => e'.line != x.line)
    have hwset : w.dirSet z.line = (s.dirSet x.line).filter fun e' => e'.line != x.line :=
      (w.dirSet_congr hset).trans (v.dirSet_putSet_self x.line _)
    have hfind : v.findEntry x.line = some e := by
      rw [State.findEntry, State.dirSet, hpd]
      exact he
    have hdrop : v.dropEntry x.line = w := by
      rw [State.dropEntry_eq, State.dirSet, hpd]
      rfl
    have hwf : w.txn f = some z := (hvx.2 f hf').trans hz
    have hwfree : ∀ e' ∈ w.dirSet z.line, e'.way ≠ e.way := fun e' he' hw => by
      rw [hwset, List.mem_filter] at he'
      exact absurd (hway e' he'.1 hw) (by simpa using he'.2)
    have hwnone : w.findEntry z.line = none := by
      refine State.findEntry_eq_none_of_subset hnone fun e' he' => ?_
      rw [hwset] at he'
      rw [s.dirSet_congr hset]
      exact (List.mem_filter.mp he').1
    have hwsweep : w.msc.sweep.phase = .stopped := by
      show v.msc.sweep.phase = _
      rw [hv]
      exact hsweep
    have hwmode : w.msc.mode = .coherent := by
      show v.msc.mode = _
      rw [hv]
      exact hmode
    obtain ⟨u, hu, huframe, hux, huf, huother, hucoh, -⟩ :=
      State.exists_handOverWay (s := w) hvx.1 hlink hf' hwf hk ha hpol hwsweep hwfree hwnone
    obtain ⟨huev, huset⟩ := hucoh hwmode
    obtain ⟨y, hy⟩ : ∃ y, y = { x with
      buf := raw, mask := BitVec.allOnes 32, wbData := true, wbTimer := x.wbTimer.map fun _ => .stopped, link := none } := ⟨_, rfl⟩
    have huy : u.txn recallEntry = some y := by
      rw [hy]
      exact hux
    have hyr : y.work.isRecall = true := by
      rw [hy]
      exact hr
    let t : State := (u.modTxn recallEntry fun t => { t.workOnData with wbTimer := none }).toMemWait recallEntry
    have htake : v.dataTaken recallEntry = t := by
      rw [State.dataTaken, hvx.1]
      dsimp only
      rw [if_pos hm, State.removeProbed_of_found hfind, hdrop, hu]
    have hafter : v.afterBeats recallEntry = t := by
      rw [State.afterBeats_eq hvx.1]
      exact (if_pos ⟨rfl, hp⟩).trans htake
    have htable : u.TxnBecomes t recallEntry (some { y with phase := .memWait, wbTimer := none }) := by
      have := ((State.txnBecomes_refl huy).modTxn fun t => { t.workOnData with wbTimer := none }).toMemWait
      rw [Txn.workOnData_of_recall hyr] at this
      have hload : ({ y with wbTimer := none } : Txn).loadWrite = { y with wbTimer := none } :=
        Txn.loadWrite_of_ne (fun h => by
          obtain ⟨b, hb⟩ := Work.exists_of_isRecall hyr
          rw [show y.work = _ from hb] at h
          cases h)
      rw [hload] at this
      exact this
    have htframe : t = { s with
        pd := t.pd
        hp := { s.hp with cycle := some { c with taken := c.taken ++ [b] } }
        tt := { s.tt with entries := t.tt.entries }
        mp := { s.mp with waiting := joinTail (joinTail s.mp.waiting f) recallEntry }
        out := [] } := by
      simp only [t]
      rw [huframe, huev]
      simp only [w]
      rw [hv]
      rfl
    have htq : t.Quiet := by
      refine hvq.of_eq ?_ ?_ ?_ ?_ fun p => ?_
      · rw [htable.1, hvx.1]
        rfl
      · rw [htframe, hv]
      · rw [htframe, hv]
      · rw [htframe, hv]
        exact hq.channel
      · rw [htframe, hv]
        rfl
    have htpd : t.pd = u.pd := rfl
    have hwbecomes : s.SetBecomes w (setOf x.line) ((s.dirSet x.line).filter fun e' => e'.line != x.line) := by
      have := v.setBecomes_putSet x.line ((s.dirSet x.line).filter fun e' => e'.line != x.line)
      rw [State.SetBecomes, hpd] at this
      exact this
    rw [hwset, hset] at huset
    refine ⟨t, hexec.trans (by rw [hafter, htq.settle]), ?_, by rw [htframe], .inl (by rw [htframe]), ?_, ?_, fun j h1 h2 => ?_,
      (hwbecomes.trans_self huset).of_pd htpd⟩
    · refine htframe.trans ?_
      rw [htframe]
    · rw [htable.1, hy]
    · exact (htable.2 f hf').trans huf
    · exact (htable.2 j h2).trans ((huother j h1 h2).trans (hvx.2 j h2))

end Sys2Proof.Machine
end

section
/-! SUPPORT. The attachment of a cycle to a holder (R42, R67 to R69), and the first recall of a sweep (R172, R173). -/

set_option Elab.async false

namespace Sys2Proof.Machine

/-! ### The attachment -/

/-- R42: a cycle attached to an entry. -/
def Cycle.attachedTo (c : Cycle) (i : EntryIx) : Cycle := { c with standing := .attached i, held := [] }

/-- R42, R67: the probe unit once a holder no longer waits for its probe. -/
def ProbeUnit.without (u : ProbeUnit) (i : EntryIx) (p : Phase) : ProbeUnit :=
  if p = .probeQueued then { u with queue := u.queue.filter fun j => j != i } else u

/-- A member that leaves the probe queue leaves a settled probe unit settled. -/
theorem ProbeUnit.without_settled {u : ProbeUnit} {P : Prop} (h : u.channel ≠ .idle ∨ P ∨ u.queue = []) (i : EntryIx) (p : Phase) :
    (u.without i p).channel ≠ .idle ∨ P ∨ (u.without i p).queue = [] := by
  unfold ProbeUnit.without
  split
  · refine h.imp id (Or.imp id fun hq => ?_)
    show List.filter _ u.queue = []
    rw [hq]
    rfl
  · exact h

/-- R42, R64, R67: a holder's record as a write-back attaches to it, with the beats given in its buffer. -/
def Txn.attachedWith (raw : LineData) (beats : List (Beat × BeatData)) (complete : Bool) (x : Txn) : Txn :=
  { x with
    phase := if x.phase = .probeQueued then .wbWait else x.phase
    buf := raw
    mask := if complete then BitVec.allOnes 32 else x.mask
    wbData := x.wbData || complete
    wbTimer := if beats.isEmpty then x.wbTimer else x.wbTimer.map fun _ => .stopped }

/-- R42, R64, R67: what an attachment leaves, before its data is looked at. -/
theorem State.exists_attach {s : State} {i : EntryIx} {x : Txn} (hx : s.txn i = some x) (c : Cycle)
    {beats : List (Beat × BeatData)} {raw : LineData} (hraw : placeBeats beats x.buf = raw) :
    ∃ v, s.attach i c beats = v.afterBeats i ∧
      v = { s with
        pu := s.pu.without i x.phase
        hp := { s.hp with cycle := some (c.attachedTo i) }
        tt := { s.tt with entries := v.tt.entries } } ∧
      s.TxnBecomes v i (some (x.attachedWith raw beats (c.taken.length == 4))) := by
  let s₁ : State := s.setCycle (some { c with standing := .attached i, held := [] })
  have hin : s₁.inPhase i .probeQueued = (x.phase == .probeQueued) := by
    rw [State.inPhase, show s₁.txn i = some x from hx, Option.any_some]
  rw [State.attach]
  dsimp only
  by_cases hp : x.phase = .probeQueued
  · have hcond : s₁.inPhase i .probeQueued = true := by rw [hin, hp]; rfl
    have hbecomes := ((State.txnBecomes_refl (s := s) hx).modTxn fun t => { t with phase := .wbWait }).modTxn
      (Txn.takeBeats beats (c.taken.length == 4))
    rw [if_pos hcond]
    refine ⟨_, rfl, ?_, ?_⟩
    · rw [ProbeUnit.without, if_pos hp]
      rfl
    · rw [Txn.attachedWith, if_pos hp, ← hraw]
      exact hbecomes
  · have hcond : ¬ s₁.inPhase i .probeQueued = true := by rw [hin, beq_iff_eq]; exact hp
    have hbecomes := (State.txnBecomes_refl (s := s) hx).modTxn (Txn.takeBeats beats (c.taken.length == 4))
    rw [if_neg hcond]
    refine ⟨_, rfl, ?_, ?_⟩
    · rw [ProbeUnit.without, if_neg hp]
      rfl
    · rw [Txn.attachedWith, if_neg hp, ← hraw]
      exact hbecomes

/-- R42, R67, R68: a write-back attaches whose data its holder waits for. -/
theorem State.exists_attach_waits {s : State} {i : EntryIx} {x : Txn} (hx : s.txn i = some x) (hd : x.wbData = false)
    {c : Cycle} {beats : List (Beat × BeatData)} {raw : LineData} (hraw : placeBeats beats x.buf = raw)
    (h : c.taken.length ≠ 4 ∨ (x.phase = .probing ∧ x.answer = none)) :
    ∃ v, s.attach i c beats = v ∧
      v = { s with
        pu := s.pu.without i x.phase
        hp := { s.hp with cycle := some (c.attachedTo i) }
        tt := { s.tt with entries := v.tt.entries } } ∧
      s.TxnBecomes v i (some (x.attachedWith raw beats (c.taken.length == 4))) := by
  obtain ⟨v, hv, hvframe, hvx⟩ := State.exists_attach hx c hraw
  refine ⟨v, hv.trans ?_, hvframe, hvx⟩
  rw [State.afterBeats_eq hvx.1]
  refine if_neg fun ⟨hdata, hphase⟩ => ?_
  rcases h with h | ⟨hp, ha⟩
  · simp only [Txn.attachedWith, hd, Bool.false_or, beq_iff_eq] at hdata
    exact h hdata
  · simp only [Txn.attachedWith, hp, ha] at hphase
    simp at hphase

/-- R42, R65, R67: a write-back attaches with its four beats, and its holder's data has been taken. -/
theorem State.Deaf.exists_attach_taken {s : State} (h : s.Deaf) {i : EntryIx} {x : Txn} (hx : s.txn i = some x)
    (hi : i ≠ recallEntry ∨ x.link = none) {c : Cycle} {beats : List (Beat × BeatData)} {raw : LineData}
    (hraw : placeBeats beats x.buf = raw) (hlen : c.taken.length = 4) (hp : x.phase = .probeQueued ∨ x.phase = .wbWait) :
    ∃ t z, s.attach i c beats = t ∧
      t = { s with
        pd := t.pd
        pu := s.pu.without i x.phase
        hp := { s.hp with cycle := some (c.attachedTo i) }
        tt := { s.tt with entries := t.tt.entries }
        mp := { s.mp with waiting := joinTail s.mp.waiting i } } ∧
      s.TxnBecomes t i (some z) ∧ x.TookData z raw ∧
      (x.probeMode = some .invalidate →
        s.SetBecomes t (setOf x.line) ((s.dirSet x.line).filter fun e => e.line != x.line)) ∧
      (x.probeMode ≠ some .invalidate → t.pd = s.pd) := by
  obtain ⟨v, hv, hvframe, hvx⟩ := State.exists_attach hx c hraw
  rw [hlen] at hvx
  have hvd : v.Deaf := by
    rw [hvframe]
    exact h
  obtain ⟨t, z, ht, htframe, htable, htook, hset, hsame⟩ := hvd.exists_dataTaken hvx.1 hi
  have hphase : (x.attachedWith raw beats (4 == 4)).phase = .wbWait := by
    rcases hp with hp | hp <;> simp [Txn.attachedWith, hp]
  have hdata : (x.attachedWith raw beats (4 == 4)).wbData = true := Bool.or_true _
  refine ⟨t, z, ?_, ?_, hvx.trans htable, (htook rfl hdata).of_record rfl, fun hm => ?_, fun hm => ?_⟩
  · rw [hv, State.afterBeats_eq hvx.1, if_pos ⟨hdata, .inl hphase⟩, ht]
  · refine htframe.trans ?_
    rw [hvframe]
  · have := hset hm
    rw [hvframe] at this
    exact this
  · rw [hsame hm, hvframe]

/-! ### Where a cycle attaches -/

/-- R42: a claiming write-back attaches to the holder that enters PROBE_QUEUED. -/
theorem State.attachWaiting_of_claiming {s : State} {c : Cycle} {l : Line} (hc : s.hp.cycle = some c) (hl : c.line = l)
    (hw : c.WritesBack) (hst : c.standing = .claiming) (i : EntryIx) : s.attachWaiting i l = s.attach i c c.held := by
  have hcond : (c.kind.isWriteback && c.line == l) = true := by
    rw [Bool.and_eq_true, beq_iff_eq]
    exact ⟨by simpa [Cycle.WritesBack, CycleKind.isWriteback] using hw, hl⟩
  rw [State.attachWaiting, hc]
  dsimp only
  rw [if_pos hcond, hst]

/-- R42: an H_EVICT in LOCK_WAIT attaches to the holder that enters PROBE_QUEUED, its own entry freed. -/
theorem State.attachWaiting_of_served {s : State} {c : Cycle} {l : Line} {j : EntryIx} {z : Txn} (hc : s.hp.cycle = some c)
    (hl : c.line = l) (hw : c.WritesBack) (hst : c.standing = .served j) (hz : s.txn j = some z) (hp : z.phase = .lockWait)
    (hk : z.work.kind = .hEvict) (i : EntryIx) :
    s.attachWaiting i l = ((s.leaveWaiters j l).freeEntry j).attach i c (beatsOf z.buf c.taken) := by
  have hcond : (c.kind.isWriteback && c.line == l) = true := by
    rw [Bool.and_eq_true, beq_iff_eq]
    exact ⟨by simpa [Cycle.WritesBack, CycleKind.isWriteback] using hw, hl⟩
  rw [State.attachWaiting, hc]
  dsimp only
  rw [if_pos hcond, hst]
  dsimp only
  rw [hz]
  exact if_pos ⟨hp, hk⟩

theorem filter_joinTail (q : List EntryIx) (i : EntryIx) :
    (joinTail q i).filter (fun j => j != i) = q.filter fun j => j != i := by
  unfold joinTail
  split
  · rfl
  · rw [List.filter_append, List.filter_cons_of_neg (by simp), List.filter_nil, List.append_nil]

/-- R13, R42, R68: a RECALL starts whose line's eviction claims an entry: that attaches, and no probe is asked for. -/
theorem State.exists_startRecall_claimed {s : State} {c : Cycle} {l : Line} (hc : s.hp.cycle = some c) (hl : c.line = l)
    (hw : c.WritesBack) (hst : c.standing = .claiming) (hlen : c.taken.length ≠ 4) (cause : RecallCause)
    (link : Option EntryIx) :
    ∃ t z, s.startRecall cause l link = t ∧
      t = { s with
        pu := { s.pu with queue := s.pu.queue.filter fun j => j != recallEntry }
        hp := { s.hp with cycle := some (c.attachedTo recallEntry) }
        tt := { s.tt with entries := t.tt.entries, locks := t.tt.locks }
        ev := { s.ev with counters := { s.ev.counters with recalls := s.ev.counters.recalls + 1#32 } } } ∧
      s.TxnBecomes t recallEntry (some z) ∧ z.work = .recall cause ∧ z.line = l ∧ z.probeMode = some .invalidate ∧
      z.link = link ∧ z.phase = .wbWait ∧ z.wbTimer = none ∧ z.wbData = false ∧
      ((c.held.map Prod.fst).Nodup → ∀ p ∈ c.held, beatAt z.buf p.1 = p.2) ∧
      s.LockBecomes t l (some { line := l, holder := .txn recallEntry, waiters := [] }) := by
  let x : Txn := { Txn.fresh (.recall cause) l .probeQueued with
    link := link, dirResult := some (s.dirResult l), probeMode := some .invalidate }
  let u : State := s.recallQueued cause l link
  have hu : s.TxnBecomes u recallEntry (some x) := s.txnBecomes_putTxn recallEntry (some x)
  obtain ⟨v, hv, hvframe, hvx⟩ := State.exists_attach_waits (s := u) hu.1 rfl (beats := c.held) rfl (.inl hlen)
  have hlock : s.LockBecomes u l (some { line := l, holder := .txn recallEntry, waiters := [] }) :=
    State.lockBecomes_putLock (s.putTxn recallEntry (some x)) { line := l, holder := .txn recallEntry, waiters := [] }
  have hstart : s.startRecall cause l link = v := by
    rw [State.startRecall_eq, State.attachWaiting_of_claiming (s := s.recallQueued cause l link) hc hl hw hst]
    exact hv
  have hdone : (c.taken.length == 4) = false := by rw [beq_eq_false_iff_ne]; exact hlen
  rw [hdone] at hvx
  have hpu : u.pu.without recallEntry x.phase = { s.pu with queue := s.pu.queue.filter fun j => j != recallEntry } := by
    rw [ProbeUnit.without, if_pos (show x.phase = .probeQueued from rfl)]
    show ({ s.pu with queue := (joinTail s.pu.queue recallEntry).filter fun j => j != recallEntry } : ProbeUnit) = _
    rw [filter_joinTail]
  have htimer : (x.attachedWith (placeBeats c.held x.buf) c.held false).wbTimer = none := ite_self _
  rw [hpu] at hvframe
  refine ⟨v, _, hstart, ?_, hu.trans hvx, rfl, rfl, rfl, rfl, rfl, htimer, rfl, fun h p hp => beatAt_placeBeats h x.buf hp, ?_⟩
  · refine hvframe.trans ?_
    rw [hvframe]
    rfl
  · rw [hvframe]
    exact hlock

/-! ### The sweep's start with entry 11 busy -/

/-- R17, R19: a fill is declined: it is counted, and waits for memory. -/
theorem State.txnBecomes_declineFill {s : State} {f : EntryIx} {z : Txn} (hz : s.txn f = some z) (hk : z.work.kind = .hFill) :
    s.TxnBecomes (s.declineFill f) f (some { z with phase := .memWait }) := by
  have := (State.txnBecomes_refl (s := s.bump .declinedFills) hz).toMemWait
  rw [Txn.loadWrite_of_ne (by rw [hk]; nofun)] at this
  exact this

/-- R19: the fill that waits for entry 11 alone, or the one that the recall's link names, is declined as a sweep starts. -/
theorem State.exists_declineWaiting {s : State} {y : Txn} {d : Option EntryIx} (hy : s.txn recallEntry = some y)
    (hd : (s.tt.recallWait = [] ∧ y.link = d) ∨ (y.link = none ∧ ∃ f, d = some f ∧ s.tt.recallWait = [f]))
    (hfill : ∀ f, d = some f → f ≠ recallEntry ∧ ∃ z, s.txn f = some z ∧ z.work.kind = .hFill) :
    ∃ t, s.declineWaiting = t ∧
      t = { s with
        tt := { s.tt with entries := t.tt.entries, recallWait := [] }
        mp := { s.mp with waiting := d.elim s.mp.waiting (joinTail s.mp.waiting) }
        ev := { s.ev with counters := { s.ev.counters with
          declinedFills := s.ev.counters.declinedFills + (if d.isSome then 1#32 else 0#32) } } } ∧
      t.txn recallEntry = some { y with link := none } ∧
      ∀ j, j ≠ recallEntry → t.txn j = if d = some j then (s.txn j).map fun z => { z with phase := .memWait } else s.txn j := by
  let s' : State := { s with tt := { s.tt with recallWait := [] } }
  have hwith : ∀ {u : State} {f : EntryIx} {z : Txn}, d = some f → s.txn f = some z → z.work.kind = .hFill →
      (∀ j, j ≠ recallEntry → u.txn j = s.txn j) → f ≠ recallEntry → ∀ j, j ≠ recallEntry →
      (u.declineFill f).txn j = if d = some j then (s.txn j).map fun z => { z with phase := .memWait } else s.txn j := by
    intro u f z hd hz hk hu hf j hj
    have hdecl := State.txnBecomes_declineFill ((hu f hf).trans hz) hk
    by_cases hjf : j = f
    · rw [hjf, hdecl.1, if_pos hd, hz]
      rfl
    · rw [hdecl.2 j hjf, if_neg (by rw [hd]; exact fun h => hjf (Option.some.inj h).symm)]
      exact hu j hj
  cases d with
  | none =>
    have hnone : s.tt.recallWait = [] ∧ y.link = none := by
      rcases hd with h | ⟨-, f, h, -⟩
      · exact h
      · cases h
    have hdecl : s.declineWaiting = s' := by
      rw [State.declineWaiting, hnone.1, List.foldl_nil]
      exact State.declineLinked_of_none (s := s') (by rw [State.recallLink, show s'.txn recallEntry = _ from hy]; exact hnone.2)
    refine ⟨s', hdecl, ?_, ?_, fun j _ => (if_neg nofun).symm⟩
    · show s' = { s with
        tt := { s.tt with recallWait := [] }
        ev := { s.ev with counters := { s.ev.counters with declinedFills := s.ev.counters.declinedFills + 0#32 } } }
      rw [BitVec.add_zero]
    · rw [show s'.txn recallEntry = _ from hy, ← hnone.2]
  | some f =>
    obtain ⟨hf, z, hz, hk⟩ := hfill f rfl
    rcases hd with ⟨hwait, hlink⟩ | ⟨hlink, f', hf', hwait⟩
    · have hclear : s.TxnBecomes s'.clearLink recallEntry (some { y with link := none }) :=
        State.txnBecomes_modTxn (s := s') hy _
      have hdecl : s.declineWaiting = s'.clearLink.declineFill f := by
        rw [State.declineWaiting, hwait, List.foldl_nil]
        show s'.declineLinked = _
        rw [State.declineLinked, show s'.recallLink = some f from by rw [State.recallLink, show s'.txn recallEntry = _ from hy]; exact hlink]
      have hz' : s'.clearLink.txn f = some z := (hclear.2 f hf).trans hz
      exact ⟨_, hdecl, rfl, ((State.txnBecomes_declineFill hz' hk).2 recallEntry (Ne.symm hf)).trans hclear.1,
        hwith rfl hz hk hclear.2 hf⟩
    · obtain rfl := Option.some.inj hf'
      have hdecl11 : (s'.declineFill f).txn recallEntry = some y :=
        ((State.txnBecomes_declineFill (s := s') hz hk).2 recallEntry (Ne.symm hf)).trans hy
      have hdecl : s.declineWaiting = s'.declineFill f := by
        rw [State.declineWaiting, hwait]
        exact State.declineLinked_of_none (s := s'.declineFill f) (by rw [State.recallLink, hdecl11]; exact hlink)
      exact ⟨_, hdecl, rfl, by rw [hdecl11, ← hlink], hwith rfl hz hk (fun _ _ => rfl) hf⟩

/-- Settles O44: SWEEP outside COHERENT, and what a sweep that starts does with entry 11 free and busy. -/
theorem sweepStartsWithItsFirstRecall : Obligations.SweepStartsWithItsFirstRecall := by
  refine ⟨fun s b hs => ⟨fun hm => ?faulted, fun hm => ?pass⟩, fun s b code c origin hstart hmode hq hstop =>
    ⟨fun n e hdir h11 hmove hway hrec hatt => ?recalls, fun y d hy hd hfill => ?busy⟩⟩
  case faulted =>
    refine commandByte_of_run_eq (u := s.commandTaken) hs nofun ?_ rfl rfl
    rw [State.cmdSweep, show s.commandTaken.msc.mode = .faulted from hm]
    rfl
  case pass =>
    refine commandByte_of_run_eq
      (u := (s.commandTaken.setSweep { s.msc.sweep with remaining := 0 }).raise .sweepDone) hs nofun ?_ rfl rfl
    rw [State.cmdSweep, show s.commandTaken.msc.mode = .pass from hm]
    rfl
  case recalls =>
    have hwait : s.tt.recallWait = [] := by
      rcases hq.entry11 with h | h
      · rw [h11] at h
        cases h
      · exact h.2
    have hch : s.pu.channel ≠ .idle ∨ s.pu.queue = [] := by
      rcases hq.channel with h | h | h
      · exact .inl h
      · rw [hmode] at h
        cases h
      · exact .inr h
    let b : State := s.sweepStarted code origin
    let w : State := b.setSweep { b.msc.sweep with phase := .recalling, cursor := n }
    have hgo : b.giveEntry11 = w.startRecall .sweep e.line none := by
      rw [State.giveEntry11_of_examining (s := b) h11 rfl rfl]
      exact State.examineFrom_eq_startRecall (s := b) _ (Nat.zero_le _) (fun k _ => hmove k) hway hrec
    have hdecl : b.declineWaiting = b := State.declineWaiting_of_none (s := b) h11 hwait
    rcases hatt with hnone | ⟨k, hk, hkl, hkw, hkst, hlen⟩
    · have hwnone : w.NoneAttaches e.line := hnone
      obtain ⟨t, z, ht, htframe, httt, hty, hzw, hzl, hzm, hzk, htl, hask⟩ :=
        hwnone.settle_startRecall .sweep none (by rw [show w.msc.mode = .coherent from hmode]; nofun) hch
          (hdir.isHeld_of_atWay hway hrec.1) hq.ports
      have hsettle : b.declineWaiting.settle = t := by
        rw [hdecl, State.settle_of_giveEntry11_taken hgo (hwnone.isSome_startRecall .sweep none), ht]
      refine ⟨_, z, exec_of_startsSweep (g := t) hstart hmode hstop hsettle (by rw [htframe]; rfl), ?_, rfl, ?_, httt, hty, hzw,
        hzl, hzm, hzk, htl, fun _ => ⟨?_, ?_, ?_⟩, fun k hk hkl hkw hkst => absurd hkst (hnone k hk hkl hkw).1⟩
      · rw [htframe]
        rfl
      · exact (congrArg State.msc htframe).trans rfl
      · exact (congrArg State.hp htframe).trans rfl
      · intro hidle
        obtain ⟨hphase, hout, hpu, hev⟩ := hask.1 hidle
        exact ⟨hphase, by rw [hout]; rfl, hpu, hev⟩
      · intro hbusy
        obtain ⟨hphase, hout, hpu, hev⟩ := hask.2 hbusy
        exact ⟨hphase, by rw [hout]; rfl, hpu, hev⟩
    · obtain ⟨t, z, ht, htframe, hty, hzw, hzl, hzm, hzk, hzp, hzt, hzd, hzbuf, htl⟩ :=
        State.exists_startRecall_claimed (s := w) hk hkl hkw hkst hlen .sweep none
      have hnotnone : ¬ s.NoneAttaches e.line := fun h => (h k hk hkl hkw).1 hkst
      have hsettle : b.declineWaiting.settle = t := by
        have ht11 : (t.txn recallEntry).isSome = true := by
          rw [hty.1]
          rfl
        rw [hdecl, State.settle_of_giveEntry11_taken (hgo.trans ht) ht11]
        refine State.settle_of_giveEntry11_eq (State.giveEntry11_of_isSome ht11) ?_ fun p => ?_
        · rw [htframe]
          refine hch.imp id fun h => ?_
          show s.pu.queue.filter _ = []
          rw [h]
          rfl
        · rw [htframe]
          exact hq.ports p
      refine ⟨_, z, exec_of_startsSweep (g := t) hstart hmode hstop hsettle (by rw [htframe]; rfl), ?_, rfl, ?_, ?_, hty, hzw,
        hzl, hzm, hzk, htl, fun h => absurd h hnotnone, fun k' hk' _ _ _ => ?_⟩
      · rw [htframe]
        rfl
      · exact (congrArg State.msc htframe).trans rfl
      · rw [htframe]
        rfl
      · obtain rfl := Option.some.inj (hk.symm.trans hk')
        refine ⟨hzp, hzt, hzd, ?_, hzbuf, ?_, ?_, ?_⟩ <;> rw [htframe] <;> rfl
  case busy =>
    obtain ⟨t, ht, htframe, hty, htother⟩ := State.exists_declineWaiting (s := s.sweepStarted code origin) hy hd hfill
    have hsettle : t.settle = t := by
      refine State.settle_of_giveEntry11_eq (State.giveEntry11_of_isSome (by rw [hty]; rfl)) ?_ fun p => ?_
      · rw [htframe]
        rcases hq.channel with h | h | h
        · exact .inl h
        · rw [hmode] at h
          cases h
        · exact .inr h
      · rw [htframe]
        exact hq.ports p
    refine ⟨_, exec_of_startsSweep (g := t) hstart hmode hstop (by rw [ht, hsettle]) (by rw [htframe]), ?_, hty, htother⟩
    rw [htframe]
    rfl

end Sys2Proof.Machine
end

section
/-! SUPPORT. An eviction with its four beats: its lookup, its wait, its attachment (R24, R33, R38, R42, R67, R77). -/

set_option Elab.async false

namespace Sys2Proof.Machine

/-! ### The lookup of an eviction -/

/-- R24, R77: what the lookup of an eviction leaves. -/
theorem State.Deaf.exists_lookupEvict {s : State} (h : s.Deaf) {i : EntryIx} {x : Txn} (hx : s.txn i = some x)
    (hk : x.work.kind ≠ .rWrite) (l : Line) :
    ∃ t, s.lookupEvict i l = t ∧
      t = { s with
        pd := t.pd
        tt := { s.tt with entries := t.tt.entries }
        mp := { s.mp with waiting := joinTail s.mp.waiting i }
        msc := { s.msc with quarantine := t.msc.quarantine }
        ev := t.ev } ∧
      s.TxnBecomes t i (some { x with phase := .memWait, dirResult := some (s.dirResult l) }) ∧ s.EvictionLooksUp t l := by
  let s₁ : State := s.modTxn i fun t => { t with dirResult := some (s.dirResult l) }
  have hmem : ∀ u : State, u.tt.entries = s₁.tt.entries →
      s.TxnBecomes (u.toMemWait i) i (some { x with phase := .memWait, dirResult := some (s.dirResult l) }) := by
    intro u hu
    have htxn : ∀ j, u.txn j = s₁.txn j := fun j => by rw [State.txn, hu]; rfl
    have h₁ := State.txnBecomes_modTxn hx fun t => { t with dirResult := some (s.dirResult l) }
    have := State.TxnBecomes.toMemWait (t := u) ⟨(htxn i).trans h₁.1, fun j hj => (htxn j).trans (h₁.2 j hj)⟩
    rw [Txn.loadWrite_of_ne (x := { x with dirResult := some (s.dirResult l) }) hk] at this
    exact this
  have hremove : s₁.removeEntry l = s₁.putSet l ((s.dirSet l).filter fun e => e.line != l) :=
    (State.Deaf.removeEntry (s := s₁) h l).trans (State.dropEntry_eq l s₁)
  have hset := s.setBecomes_putSet l ((s.dirSet l).filter fun e => e.line != l)
  rw [State.lookupEvict]
  dsimp only
  by_cases hquar : s.isQuarantined l = true
  · rw [if_pos (show s₁.isQuarantined l = true from hquar), show s.modTxn i _ = s₁ from rfl, hremove]
    exact ⟨_, rfl, rfl, hmem _ rfl, ⟨⟨hset.1, hset.2⟩, fun _ => ⟨rfl, rfl⟩, fun hno => absurd (hquar.symm.trans hno) nofun⟩⟩
  · rw [if_neg (show ¬ s₁.isQuarantined l = true from hquar)]
    by_cases hhas : s.hasEntry l = true
    · rw [if_pos (show s₁.hasEntry l = true from hhas), show s.modTxn i _ = s₁ from rfl, hremove]
      exact ⟨_, rfl, rfl, hmem _ rfl, ⟨⟨hset.1, hset.2⟩, fun h => absurd h hquar,
        fun _ => ⟨rfl, fun _ => rfl, fun hno => absurd (hhas.symm.trans hno) nofun⟩⟩⟩
    · rw [if_neg (show ¬ s₁.hasEntry l = true from hhas)]
      have hdir := s.setBecomes_dropEntry l
      rw [State.dropEntry, if_neg hhas] at hdir
      exact ⟨_, rfl, rfl, hmem _ rfl, ⟨⟨hdir.1, hdir.2⟩, fun h => absurd h hquar,
        fun _ => ⟨rfl, fun h => absurd h hhas, fun _ => rfl⟩⟩⟩

theorem State.EvictionLooksUp.of_eq {s v t : State} {l : Line} (h : v.EvictionLooksUp t l) (hpd : v.pd = s.pd)
    (hmsc : v.msc = s.msc) (hev : v.ev = s.ev) : s.EvictionLooksUp t l := by
  have hdir : v.dirSet l = s.dirSet l := by rw [State.dirSet, hpd]; rfl
  have hhas : v.hasEntry l = s.hasEntry l := by rw [State.hasEntry, State.findEntry, hdir]; rfl
  have hquar : v.isQuarantined l = s.isQuarantined l := by rw [State.isQuarantined, hmsc]; rfl
  obtain ⟨hset, hlate, hknown⟩ := h
  rw [hquar, hmsc, hev] at hlate
  rw [hquar, hhas, hmsc, hev] at hknown
  rw [State.SetBecomes, hdir, hpd] at hset
  exact ⟨hset, hlate, hknown⟩

theorem State.LockBecomes.of_locks {s v t : State} {l : Line} {r : Option LockRec} (h : s.LockBecomes v l r)
    (ht : t.tt.locks = v.tt.locks) : s.LockBecomes t l r := by
  unfold State.LockBecomes State.lockOf at *
  rw [ht]
  exact h

/-- A quiet bridge whose quarantine table alone has changed among what settling looks at. -/
theorem State.Quiet.of_sweep {s t : State} (h : s.Quiet) (h1 : (t.txn recallEntry).isSome = (s.txn recallEntry).isSome)
    (hsweep : t.msc.sweep = s.msc.sweep) (hmode : t.msc.mode = s.msc.mode) (hwait : t.tt.recallWait = s.tt.recallWait)
    (hpu : t.pu = s.pu) (hrp : t.rp = s.rp) : t.Quiet where
  entry11 := by rw [h1, hsweep, hwait]; exact h.entry11
  channel := by rw [hpu, hmode]; exact h.channel
  ports := fun p => by rw [State.port, hrp]; exact h.ports p
  sweep := by rw [hsweep]; exact h.sweep

/-! ### A line's holder that awaits a write-back -/

theorem State.Awaits.awaiting {s : State} {l : Line} {j : EntryIx} {z : Txn} (h : s.Awaits l j z) : s.awaiting l = some j := by
  obtain ⟨⟨r, hr, hholder⟩, hz, hphase, hdata⟩ := h
  have hcond : ((s.txn j).any fun t =>
      (t.phase == .probeQueued || t.phase == .probing || t.phase == .wbWait) && !t.wbData) = true := by
    rw [hz, Option.any_some, hdata]
    rcases hphase with h | h | h <;> rw [h] <;> rfl
  rw [State.awaiting, hr]
  dsimp only
  rw [hholder]
  exact if_pos hcond

theorem State.awaiting_eq_none {s : State} {l : Line} (h : ∀ j z, ¬ s.Awaits l j z) : s.awaiting l = none := by
  unfold State.awaiting
  split
  · rename_i r hr
    split
    · rename_i j hholder
      refine if_neg fun hcond => ?_
      obtain ⟨z, hz, hcond⟩ := (Option.any_eq_true ..).mp hcond
      simp only [Bool.and_eq_true, Bool.or_eq_true, beq_iff_eq, Bool.not_eq_true'] at hcond
      exact h j z ⟨⟨r, hr, hholder⟩, hz, or_assoc.mp hcond.1, hcond.2⟩
    · rfl
  · rfl

/-! ### The four beats of an eviction -/

/-- R33, R103: an eviction takes each of a line's four beats once. -/
theorem mem_of_four_beats {bs : List Beat} (h : bs.Nodup) (hlen : bs.length = 4) (b : Beat) : b ∈ bs := by
  have hcard : bs.toFinset.card = Fintype.card Beat := by
    rw [List.toFinset_card_of_nodup h, hlen]
    rfl
  exact List.mem_toFinset.mp ((Finset.eq_univ_of_card _ hcard).symm ▸ Finset.mem_univ b)

/-- R67: all of a line's beats, taken from one buffer, fill another. -/
theorem placeBeats_beatsOf {bs : List Beat} (h : ∀ b : Beat, b ∈ bs) (raw old : LineData) :
    placeBeats (beatsOf raw bs) old = raw := by
  refine line_ext_beats fun a => beatAt_placeBeats_of_agree (raw := raw) (fun p hp => ?_) ?_ old
  · obtain ⟨b, -, rfl⟩ := List.mem_map.mp hp
    rfl
  · exact List.mem_map.mpr ⟨(a, beatAt raw a), List.mem_map.mpr ⟨a, h a, rfl⟩, rfl⟩

/-- R30, R103: the record that a whole beat leaves. -/
theorem Txn.exists_takeWhole {b : Beat} {d : BeatData} {x : Txn} {raw : LineData} (h : BeatPlaced b d x.buf raw) :
    ∃ mask, x.takeWhole b d = { x with buf := raw, mask := mask } := by
  rw [h.eq_setBeat]
  exact ⟨_, rfl⟩

/-- R33, R68, R103: the eviction's beats are complete, and it attaches or asks for its line's lock. -/
theorem State.EvictionCompletes.exists_exec {s : State} {k : Instr} {c : Cycle} {i : EntryIx} {l : Line} {w : Work}
    {raw : LineData} (h : s.EvictionCompletes k c i l w raw) (hs : s.Running) :
    ∃ u y, exec k s = .next (u.lastEvictBeat i c).settle ∧
      u = { s with hp := { s.hp with cycle := some c }, tt := { s.tt with entries := u.tt.entries }, out := [] } ∧
      s.TxnBecomes u i (some y) ∧ y.work = w ∧ y.line = l ∧ y.phase = .dataIn ∧ y.buf = raw ∧ (∃ b, w = .hEvict b) ∧
      c.taken.length = 4 := by
  rcases h with ⟨c', x, start, b, d, rfl, hc, hw, hp, rfl, hb, hlen, hraw, rfl, rfl⟩ |
    ⟨c', rfl, hc, hi, hwb, rfl, hlen, hall, hraw, rfl, rfl⟩
  · have hx := State.txnBecomes_modTxn (s := s.clearOut) hc.txn (Txn.takeWhole b d)
    obtain ⟨mask, hmask⟩ := Txn.exists_takeWhole hraw
    rw [hmask] at hx
    have hnew : (c'.taken ++ [b]).length = 4 := by rw [List.length_append, hlen]; rfl
    obtain ⟨u, hu⟩ : ∃ u, u = (s.clearOut.modTxn i (Txn.takeWhole b d)).setCycle (some { c' with taken := c'.taken ++ [b] }) :=
      ⟨_, rfl⟩
    refine ⟨u, { x with buf := raw, mask := mask }, ?_, ?_, ?_, rfl, rfl, hp, rfl, ⟨start, hw⟩, hnew⟩
    · have hcond : ¬ (x.phase ≠ .dataIn ∨ b ∈ c'.taken) := by simp [hp, hb]
      rw [exec_hostWriteBeat_of_carries hs hc, State.takeServedBeat, if_neg hcond, hw]
      dsimp only
      rw [State.takeEvictBeat]
      dsimp only
      rw [hnew, if_neg (Nat.lt_irrefl 4), hu]
    · rw [hu]
      rfl
    · rw [hu]
      exact hx
  · obtain ⟨-, -, -, -, hevict, -⟩ := c'.work_eq s.hp.broken
    have hwork : c'.work s.hp.broken = .hEvict c'.beat := hevict hwb
    obtain ⟨buf, mask, hx, -, -, hbuf⟩ := c'.exists_admitted (.hEvict c'.beat)
    obtain ⟨u, hu⟩ : ∃ u, u = s.clearOut.entered i c' (.hEvict c'.beat) (c'.admitted (.hEvict c'.beat)) := ⟨_, rfl⟩
    refine ⟨u, c'.admitted (.hEvict c'.beat), ?_, ?_, ?_, ?_, ?_, ?_, ?_, ⟨c'.beat, rfl⟩, hlen⟩
    · rw [exec_admissionGrant_of hs (State.claimant_of_claims hc) hi, State.admitClaimant, State.admitHost_eq,
        show s.clearOut.hp.broken = s.hp.broken from rfl, hwork, if_pos (show (Work.hEvict c'.beat).takesBeats = true from rfl), if_pos hlen, hu]
    · rw [hu]
      rfl
    · rw [hu]
      exact s.clearOut.txnBecomes_entered i c' _ _
    · rw [hx]
      rfl
    · rw [hx]
      rfl
    · rw [hx]
      rfl
    · rw [hx]
      exact hbuf raw hall hraw

/-- Settles O12, for the first three beats, and for the fourth on an unlocked line, behind a holder, and attached to one. -/
theorem evictionTakesItsBeatsAndLooksUp : Obligations.EvictionTakesItsBeatsAndLooksUp := by
  refine ⟨fun s c i x start b d hs hc hw hp hb hlen => ?first, fun s k c i l w raw hs hq hi hcomp => ?last⟩
  case first =>
    have hx := State.txnBecomes_modTxn (s := s.clearOut) hc.txn (Txn.takeWhole b d)
    have htook := x.tookBeat_takeWhole b d
    obtain ⟨mask, hmask⟩ := Txn.exists_takeWhole (x := x) (beatPlaced_setBeat b d x.buf)
    rw [hmask] at hx htook
    have hnew : (c.taken ++ [b]).length < 4 := by
      rw [List.length_append]
      exact Nat.succ_lt_succ hlen
    have hcond : ¬ (x.phase ≠ .dataIn ∨ b ∈ c.taken) := by simp [hp, hb]
    refine ⟨(s.clearOut.modTxn i (Txn.takeWhole b d)).ackBeat { c with taken := c.taken ++ [b] }, _, ?_, rfl, rfl, hx, rfl, htook⟩
    rw [exec_hostWriteBeat_of_carries hs hc, State.takeServedBeat, if_neg hcond, hw]
    dsimp only
    rw [State.takeEvictBeat]
    dsimp only
    rw [if_pos hnew]
  case last =>
    obtain ⟨u, y, hexec, hu, huy, hyw, hyl, hyp, hyb, ⟨b, hb⟩, hlen⟩ := hcomp.exists_exec hs
    have hlock : ∀ m, u.lockOf m = s.lockOf m := fun m => by rw [hu]; rfl
    have h11 : u.txn recallEntry = s.txn recallEntry := huy.2 recallEntry (Ne.symm hi)
    have hask : (∀ j z, ¬ u.Awaits l j z) → u.lastEvictBeat i c = u.requestLock i l := fun hnone => by
      rw [State.lastEvictBeat, huy.1]
      dsimp only
      rw [hyl, State.awaiting_eq_none hnone]
    have huq : u.Quiet := by
      refine hq.of_eq (congrArg Option.isSome h11) ?_ ?_ ?_ fun p => ?_ <;> rw [hu]
      · exact hq.channel
      · rfl
    refine ⟨fun hfree => ?free, fun r hr hnone => ?waits, fun j z haw hzl hji hnodup hz => ?attaches⟩
    case free =>
      have hufree : u.lockOf l = none := (hlock l).trans hfree
      have hnone : ∀ j z, ¬ u.Awaits l j z := fun j z h => by
        obtain ⟨r, hr, -⟩ := h.lock
        rw [hufree] at hr
        cases hr
      obtain ⟨v, hvdef⟩ : ∃ v, v = u.putLock { line := l, holder := .txn i, waiters := [] } := ⟨_, rfl⟩
      have hv : v = { s with
          hp := { s.hp with cycle := some c }
          tt := { s.tt with entries := v.tt.entries, locks := v.tt.locks }
          out := [] } := by
        rw [hvdef, hu]
        rfl
      have hvy : s.TxnBecomes v i (some y) := by
        rw [hvdef]
        exact huy
      have hvlock : s.LockBecomes v l (some { line := l, holder := .txn i, waiters := [] }) := by
        rw [hvdef]
        have := u.lockBecomes_putLock { line := l, holder := .txn i, waiters := [] }
        exact ⟨this.1, fun m hm => (this.2 m hm).trans (hlock m)⟩
      have hvdeaf : v.Deaf := by
        rw [hv]
        exact hq.deaf
      obtain ⟨t, ht, htframe, hty, hlook⟩ := hvdeaf.exists_lookupEvict hvy.1 (by rw [hyw, hb]; nofun) l
      have htake : u.takeLock i y.work l [] = v := (State.takeLock_of_unlocked (by rw [hyw, hb]; rfl) i l [] u).trans hvdef.symm
      have hreq : u.requestLock i l = t := by
        have hev := State.lookup_of_evict hvy.1 (hyw.trans hb)
        rw [State.requestLock_of_unlocked hufree huy.1 (by rw [htake, hev]), htake, hev, hyl, ht]
      have htq : t.Quiet := by
        refine hq.of_sweep ?_ ?_ ?_ ?_ ?_ ?_
        · rw [hty.2 recallEntry (Ne.symm hi), hvy.2 recallEntry (Ne.symm hi)]
        all_goals rw [htframe, hv]
      have hhp : t.hp = { s.hp with cycle := some c } := by rw [htframe, hv]
      have hmp : t.mp = { s.mp with waiting := joinTail s.mp.waiting i } := by rw [htframe, hv]
      have hlocks : t.tt.locks = v.tt.locks := by rw [htframe]
      have htt : t.tt = { s.tt with entries := t.tt.entries, locks := t.tt.locks } := by
        rw [hlocks, htframe, hv]
      have hmsc : t.msc = { s.msc with quarantine := t.msc.quarantine } := by rw [htframe, hv]
      refine ⟨t, _, hexec.trans (by rw [hask hnone, hreq, htq.settle]), ?_, hhp, htt, hmp, hvy.trans hty, hyw, hyl, rfl, hyb,
        hvlock.of_locks hlocks, hlook.of_eq (by rw [hv]) (by rw [hv]) (by rw [hv])⟩
      refine htframe.trans ?_
      rw [hhp, htt, hmp, hmsc, hlocks, hv]
    case waits =>
      have hunone : ∀ j z, ¬ u.Awaits l j z := fun j z h => by
        obtain ⟨⟨r, hr, hholder⟩, hz, hphase, hdata⟩ := h
        by_cases hji : j = i
        · rw [hji, huy.1] at hz
          obtain rfl := Option.some.inj hz
          rw [hyp] at hphase
          simp at hphase
        · exact hnone j z ⟨⟨r, (hlock l).symm.trans hr, hholder⟩, (huy.2 j hji).symm.trans hz, hphase, hdata⟩
      have hur : u.lockOf l = some r := (hlock l).trans hr
      have hjoin := State.lockBecomes_joinWaiters hur hi
      have hty := huy.trans ((State.txnBecomes_refl (s := u.putLock { r with waiters := joinGeneral r.waiters i }) huy.1).modTxn
        fun t => { t with phase := .lockWait })
      have hexec' : exec k s = .next (u.joinWaiters i r) := by
        rw [hexec, hask hunone, State.requestLock_of_locked hur, (huq.joinWaiters hi r).settle]
      obtain ⟨t, ht⟩ : ∃ t, t = u.joinWaiters i r := ⟨_, rfl⟩
      have htframe : t = { s with
          hp := { s.hp with cycle := some c }
          tt := { s.tt with entries := t.tt.entries, locks := t.tt.locks }
          out := [] } := by
        rw [ht, hu]
        rfl
      rw [← ht] at hexec' hjoin
      refine ⟨t, { y with phase := .lockWait }, hexec', ?_, by rw [htframe], by rw [htframe], ?_, hyw, hyl, rfl, hyb,
        ⟨hjoin.1, fun m hm => (hjoin.2 m hm).trans (hlock m)⟩⟩
      · refine htframe.trans ?_
        rw [htframe]
      · rw [ht]
        exact hty
    case attaches =>
      have hc := mem_of_four_beats hnodup hlen
      obtain ⟨⟨r, hr, hholder⟩, hzs, hphase, hdata⟩ := haw
      let v : State := u.freeEntry i
      have hv := u.txnBecomes_freeEntry i
      have hvz : v.txn j = some z := (hv.2 j hji).trans ((huy.2 j hji).trans hzs)
      have huz : u.Awaits l j z := ⟨⟨r, (hlock l).trans hr, hholder⟩, (huy.2 j hji).trans hzs, hphase, hdata⟩
      have hexec' : exec k s = .next (v.attach j c (beatsOf raw c.taken)).settle := by
        rw [hexec, State.lastEvictBeat, huy.1]
        dsimp only
        rw [hyl, huz.awaiting, hyb]
      have hraw : placeBeats (beatsOf raw c.taken) z.buf = raw := placeBeats_beatsOf hc raw z.buf
      have hvdeaf : v.Deaf := huq.deaf
      have hother : ∀ {t : State} {z' : Txn}, v.TxnBecomes t j (some z') →
          t.txn i = none ∧ t.txn j = some z' ∧ ∀ k, k ≠ i → k ≠ j → t.txn k = s.txn k := fun h =>
        ⟨(h.2 i (Ne.symm hji)).trans hv.1, h.1, fun k h1 h2 => (h.2 k h2).trans ((hv.2 k h1).trans (huy.2 k h1))⟩
      have hquiet : ∀ {t : State} {z' : Txn}, v.TxnBecomes t j (some z') → t.msc = v.msc → t.tt.recallWait = v.tt.recallWait →
          t.pu = v.pu.without j z.phase → t.rp = v.rp → t.Quiet := fun h h1 h2 h3 h4 => by
        refine huq.of_eq ?_ h1 h2 ?_ fun p => by rw [State.port, h4]; rfl
        · rw [h.isSome_eq hvz, hv.2 recallEntry (Ne.symm hi)]
        · rw [h3]
          exact ProbeUnit.without_settled huq.channel j z.phase
      by_cases hp : z.phase = .probing
      · have ha : z.answer = none := by
          rcases hz with ⟨-, h⟩ | ⟨h, -⟩
          · exact h
          · exact absurd hp h
        obtain ⟨t, ht, htframe, htz⟩ := State.exists_attach_waits (c := c) hvz hdata hraw (.inr ⟨hp, ha⟩)
        have htq := hquiet htz (by rw [htframe]) (by rw [htframe]) (by rw [htframe]) (by rw [htframe])
        have hz' : z.attachedWith raw (beatsOf raw c.taken) (c.taken.length == 4) = { z with
            buf := raw, mask := BitVec.allOnes 32, wbData := true, wbTimer := z.wbTimer.map fun _ => .stopped } := by
          have hne : (beatsOf raw c.taken).isEmpty = false := by
            cases hnil : beatsOf raw c.taken with
            | nil =>
              have := congrArg List.length hnil
              rw [beatsOf, List.length_map, hlen] at this
              cases this
            | cons p ps => rfl
          rw [Txn.attachedWith, hlen, hne, if_neg (show ¬ z.phase = .probeQueued by rw [hp]; nofun)]
          simp
        rw [hz'] at htz
        have hframe : t = { s with
            pu := s.pu.without j z.phase
            hp := { s.hp with cycle := some (c.attachedTo j) }
            tt := { s.tt with entries := t.tt.entries }
            out := [] } := by
          refine htframe.trans ?_
          simp only [v]
          rw [hu]
          rfl
        obtain ⟨h1, h2, h3⟩ := hother htz
        refine ⟨t, _, hexec'.trans (by rw [ht, htq.settle]), ?_, by rw [hframe]; rfl, h1, h2, h3, by rw [hframe]; rfl,
          fun _ => ⟨by rw [hframe], by rw [hframe], rfl⟩, fun h => absurd hp h⟩
        refine hframe.trans ?_
        rw [hframe]
      · have hkind : j ≠ recallEntry ∨ z.link = none := by
          rcases hz with ⟨h, -⟩ | ⟨-, h | h⟩
          · exact absurd h hp
          · exact .inl h.1
          · exact .inr h.2.2.1
        have hqw : z.phase = .probeQueued ∨ z.phase = .wbWait := hphase.imp id fun h => h.resolve_left hp
        obtain ⟨t, z', ht, htframe, htz, htook, hset, hsame⟩ := hvdeaf.exists_attach_taken hvz hkind hraw hlen hqw
        have htq := hquiet htz (by rw [htframe]) (by rw [htframe]) (by rw [htframe]) (by rw [htframe])
        have hframe : t = { s with
            pd := t.pd
            pu := s.pu.without j z.phase
            hp := { s.hp with cycle := some (c.attachedTo j) }
            tt := { s.tt with entries := t.tt.entries }
            mp := { s.mp with waiting := joinTail s.mp.waiting j }
            out := [] } := by
          refine htframe.trans ?_
          simp only [v]
          rw [hu]
          rfl
        obtain ⟨h1, h2, h3⟩ := hother htz
        refine ⟨t, z', hexec'.trans (by rw [ht, htq.settle]), ?_, by rw [hframe]; rfl, h1, h2, h3, by rw [hframe]; rfl,
          fun h => absurd h hp, fun _ => ⟨by rw [hframe], htook, fun hm => ?_, fun hm => ?_⟩⟩
        · refine hframe.trans ?_
          rw [hframe]
        · have := hset hm
          rw [hzl] at this
          simp only [v] at this
          rw [hu] at this
          exact this
        · rw [hsame hm]
          simp only [v]
          rw [hu]
          rfl

end Sys2Proof.Machine
end

section
/-! SUPPORT. A write-back cycle that claims an entry or attaches, at once and as the line's lock is handed on (R38, R42, R50). -/

set_option Elab.async false

namespace Sys2Proof.Machine

/-! ### An abandoned transaction's completion hands its line's lock on -/

/-- R36, R38, R50: an abandoned host transaction's completion frees its entry, and its line's lock is handed on. -/
theorem exec_abandonedCompletion_handOff {s : State} {q : MemReq} {rest : List MemReq} {x : Txn} {ws : List EntryIx}
    (hs : s.Running) (hd : s.Deaf) (hm : s.mp.outstanding = q :: rest) (hx : s.txn q.txn = some x) (ha : x.abandoned = true)
    (hh : x.work.isHost = true) (hl : s.lockOf x.line = some { line := x.line, holder := .txn q.txn, waiters := ws })
    (k : Completion) :
    ∃ u : State, exec (.memCompletion k) s = .next (u.handOff x.line ws).settle ∧
      u = { s with tt := { s.tt with entries := u.tt.entries }, mp := { s.mp with outstanding := rest }, out := [] } ∧
      s.TxnBecomes u q.txn none := by
  let s' : State := { s.clearOut with mp := { s.mp with outstanding := rest } }
  have hrelease : (s'.freeEntry q.txn).releaseLock q.txn x.line = (s'.freeEntry q.txn).handOff x.line ws := by
    rw [State.releaseLock, show (s'.freeEntry q.txn).lockOf x.line = _ from hl]
    dsimp only
    rw [if_pos rfl, State.Deaf.hearRelease (s := s'.freeEntry q.txn) hd]
  refine ⟨s'.freeEntry q.txn, ?_, rfl, s'.txnBecomes_freeEntry q.txn⟩
  rw [exec_abandonedCompletion_of hs hm hx ha hh, State.completeAbandoned, hrelease]

/-- R38, R55, R57: the head of a wait list becomes the holder, and its lookup asks for a probe. -/
theorem State.exists_handOff_probe {u : State} {i : EntryIx} {l : Line} {ws : List EntryIx} {y : Txn} {p : PortIx} {m : ProbeMode}
    (hy : u.txn i = some y) (hl : y.line = l) (hp : y.work.port? = some p) (hc : u.checksResult y.work.kind p l = .ok)
    (hn : u.NeedsProbe y.work.kind l m) :
    ∃ w r, u.handOff l (i :: ws) = w.attachWaiting i l ∧
      w = { u with
        tt := { u.tt with entries := w.tt.entries, locks := w.tt.locks }
        pu := { u.pu with queue := joinTail u.pu.queue i } } ∧
      u.TxnBecomes w i (some { y with
        phase := .probeQueued, snapshot := some (u.rm.resolve l), dirResult := r, probeMode := some m }) ∧
      u.LockBecomes w l (some { line := l, holder := .txn i, waiters := ws }) := by
  subst hl
  let v : State := u.putLock { line := y.line, holder := .txn i, waiters := ws }
  have htake : u.takeLock i y.work y.line ws = v := State.takeLock_of_unlocked (Work.requester_spec hp).1 i y.line ws u
  have hlook : v.lookup i = { state := (v.lookedAt i y.line).enterProbeQueued i y.line m, completed := false } :=
    State.lookup_of_probe (s := v) hy hp hc hn
  have hlock := u.lockBecomes_putLock { line := y.line, holder := .txn i, waiters := ws }
  refine ⟨((v.lookedAt i y.line).modTxn i fun t => { t with phase := .probeQueued, probeMode := some m }).setQueue
    (joinTail u.pu.queue i), some (u.consulted y.line (u.rm.resolve y.line)), ?_, rfl, ?_, hlock⟩
  · rw [State.handOff_cons hy (by rw [htake]; exact hlook)]
    rfl
  · exact (State.txnBecomes_modTxn (s := v) hy _).modTxn _

/-- R42: what waits for a holder that enters PROBE_QUEUED: a claiming write-back with the beats it holds, or, where `d` names an
entry, the H_EVICT in LOCK_WAIT of that entry. -/
def State.WaitsToAttach (w : State) (c : Cycle) (d : Option EntryIx) (i : EntryIx) (old raw : LineData) : Prop :=
  (c.standing = .claiming ∧ d = none ∧ BeatsPlaced c.held old raw) ∨
    ∃ j z, c.standing = .served j ∧ d = some j ∧ j ≠ i ∧ w.txn j = some z ∧ z.phase = .lockWait ∧ z.work.kind = .hEvict ∧
      c.taken.length = 4 ∧ c.taken.Nodup ∧ raw = z.buf

/-- R42: the cycle that waits attaches to the holder, and an H_EVICT leaves its entry and its place in the wait list. -/
theorem State.WaitsToAttach.exists_attach {w : State} {c : Cycle} {d : Option EntryIx} {i : EntryIx} {l : Line}
    {ws : List EntryIx} {old raw : LineData} (h : w.WaitsToAttach c d i old raw) (hc : w.hp.cycle = some c) (hcl : c.line = l)
    (hcw : c.WritesBack) (hl : w.lockOf l = some { line := l, holder := .txn i, waiters := ws }) :
    ∃ v beats, w.attachWaiting i l = v.attach i c beats ∧
      v = { w with tt := { w.tt with entries := v.tt.entries, locks := v.tt.locks } } ∧
      (∀ j, d = some j → v.txn j = none) ∧ (∀ j, d ≠ some j → v.txn j = w.txn j) ∧ d ≠ some i ∧
      w.LockBecomes v l (some { line := l, holder := .txn i, waiters := ws.filter fun j => decide (d ≠ some j) }) ∧
      placeBeats beats old = raw := by
  rcases h with ⟨hst, rfl, hraw⟩ | ⟨j, z, hst, rfl, hji, hz, hzp, hzk, hlen, hnodup, rfl⟩
  · have hall : (ws.filter fun j => decide ((none : Option EntryIx) ≠ some j)) = ws :=
      List.filter_eq_self.mpr fun j _ => decide_eq_true nofun
    refine ⟨w, c.held, State.attachWaiting_of_claiming hc hcl hcw hst i, rfl, nofun, fun _ _ => rfl, nofun, ?_,
      hraw.eq_placeBeats.symm⟩
    rw [hall]
    exact ⟨hl, fun _ _ => rfl⟩
  · have hleave : w.leaveWaiters j l = w.putLock { line := l, holder := .txn i, waiters := ws.filter fun k => k != j } := by
      rw [State.leaveWaiters, hl]
    have hfilter : (ws.filter fun k => decide (some j ≠ some k)) = ws.filter fun k => k != j := by
      refine List.filter_congr fun k _ => ?_
      rw [Bool.eq_iff_iff, decide_eq_true_iff, bne_iff_ne, ne_eq, Option.some.injEq]
      exact ⟨fun h h' => h h'.symm, fun h h' => h h'.symm⟩
    let v : State := (w.leaveWaiters j l).freeEntry j
    have hvfree := (w.leaveWaiters j l).txnBecomes_freeEntry j
    have hvtxn : ∀ k, k ≠ j → v.txn k = w.txn k := fun k h => (hvfree.2 k h).trans (by rw [hleave]; rfl)
    have hlocks : v.tt.locks = (w.putLock { line := l, holder := .txn i, waiters := ws.filter fun k => k != j }).tt.locks := by
      simp only [v]
      rw [hleave]
      rfl
    refine ⟨v, beatsOf z.buf c.taken, State.attachWaiting_of_served hc hcl hcw hst hz hzp hzk i, ?_, ?_,
      fun k hk => hvtxn k fun h => hk (by rw [h]), fun h => hji (Option.some.inj h), ?_,
      placeBeats_beatsOf (mem_of_four_beats hnodup hlen) z.buf old⟩
    · simp only [v]
      rw [hleave]
      rfl
    · rintro _ ⟨⟩
      exact hvfree.1
    · rw [hfilter]
      exact (w.lockBecomes_putLock _).of_locks hlocks

/-! ### The cycle at its address -/

theorem Cycle.start_eq (kind : CycleKind) (a : Addr) (m : BeatMask) (e : Bool) :
    Cycle.start kind a m e = claimingCycle kind a (if kind = .probeWb then 0 else beatOf a) m e := rfl

/-- R42, R96: an EVICT or PROBE_WB claims an entry, or attaches to the holder of its line that awaits it. -/
theorem exec_writebackCycle_of_busFree {s : State} (h : s.BusFree) {a : Addr} {c : Instr} {k : CycleKind} {b : Beat}
    (hc : (c, k, b) ∈ [(Instr.hostEvict a, CycleKind.evict, beatOf a), (.hostProbeWb a, .probeWb, 0)]) :
    exec c s = .next (s.clearOut.claimOrAttach k a) ∧ Cycle.start k a 0#8 false = claimingCycle k a b 0#8 false := by
  simp only [List.mem_cons, Prod.mk.injEq, List.not_mem_nil, or_false] at hc
  rcases hc with ⟨rfl, rfl, rfl⟩ | ⟨rfl, rfl, rfl⟩
  · rw [exec, execHostEvict, live_onFreeBus_of_busFree h]
    exact ⟨rfl, rfl⟩
  · rw [exec, execHostProbeWb, live_onFreeBus_of_busFree h]
    exact ⟨rfl, rfl⟩

/-- Settles O9, for a cycle on a free bus and for one that meets the line's next holder. -/
theorem writebackCyclesClaimOrAttach : Obligations.WritebackCyclesClaimOrAttach := by
  refine ⟨fun s a hfree => ⟨fun hnone => ?claims, fun i x haw hq c k b hc => ?attaches⟩,
    fun s k q outs x y i ws p m c d raw hs hq hm hx hq11 ha hh hl hiq hi11 hy hyl hp hd hwt hqueue hcheck hneeds hc hcl hcw hd' => ?later⟩
  case claims =>
    have haw : s.clearOut.awaiting (lineOf a) = none := State.awaiting_eq_none (s := s.clearOut) fun j z h => hnone j z ⟨h.1, h.2, h.3, h.4⟩
    have hone : ∀ c k b, (c, k, b) ∈ [(Instr.hostEvict a, CycleKind.evict, beatOf a), (.hostProbeWb a, .probeWb, 0)] →
        exec c s = .next { s with hp := { s.hp with cycle := some (claimingCycle k a b 0#8 false) }, out := [] } := by
      intro c k b hc
      obtain ⟨hexec, hstart⟩ := exec_writebackCycle_of_busFree hfree hc
      rw [hexec, State.claimOrAttach, haw, ← hstart]
      rfl
    exact ⟨hone _ _ _ (List.mem_cons_self ..), hone _ _ _ (List.mem_cons_of_mem _ (List.mem_cons_self ..))⟩
  case attaches =>
    obtain ⟨hexec, hstart⟩ := exec_writebackCycle_of_busFree hfree hc
    have haw' : s.clearOut.awaiting (lineOf a) = some i := State.Awaits.awaiting (s := s.clearOut) ⟨haw.1, haw.2, haw.3, haw.4⟩
    obtain ⟨v, hv, hvframe, hvx⟩ := State.exists_attach_waits (s := s.clearOut) (c := claimingCycle k a b 0#8 false) (beats := [])
      haw.txn haw.data rfl (.inl (by nofun))
    have hx : x.attachedWith x.buf [] ((claimingCycle k a b 0#8 false).taken.length == 4) =
        { x with phase := if x.phase = .probeQueued then .wbWait else x.phase } := by
      simp [Txn.attachedWith, claimingCycle]
    rw [show placeBeats [] x.buf = x.buf from rfl, hx] at hvx
    have hframe : v = { s with
        pu := s.pu.without i x.phase
        hp := { s.hp with cycle := some { claimingCycle k a b 0#8 false with standing := .attached i } }
        tt := { s.tt with entries := v.tt.entries }
        out := [] } := hvframe
    have hvq : v.Quiet := by
      refine hq.of_eq (State.TxnBecomes.isSome_eq hvx haw.txn recallEntry) ?_ ?_ ?_ fun p => ?_ <;> rw [hframe]
      · exact ProbeUnit.without_settled hq.channel i x.phase
      · rfl
    refine ⟨v, ?_, ?_, by rw [hframe], fun hne => ⟨?_, fun j => ?_⟩, fun heq => ⟨?_, ?_⟩⟩
    · rw [hexec, State.claimOrAttach, haw']
      dsimp only
      rw [hstart, hv, hvq.settle]
    · refine hframe.trans ?_
      rw [hframe]
    · rw [hframe, ProbeUnit.without, if_neg hne]
    · by_cases hj : j = i
      · rw [hj, hvx.1, haw.txn, if_neg hne]
      · exact hvx.2 j hj
    · rw [hframe, ProbeUnit.without, if_pos heq]
    · rw [if_pos heq] at hvx
      exact hvx
  case later =>
    obtain ⟨u, hexec, hu, hux⟩ := exec_abandonedCompletion_handOff hs hq.deaf hm hx ha hh hl k
    have huy : u.txn i = some y := (hux.2 i hiq).trans hy
    have hucheck : u.checksResult y.work.kind p x.line = .ok := by
      rw [hu]
      exact hcheck
    have huneeds : u.NeedsProbe y.work.kind x.line m := by
      rw [hu]
      exact hneeds
    obtain ⟨w, r, hhand, hw, hwy, hwl⟩ := State.exists_handOff_probe (ws := ws) huy hyl hp hucheck huneeds
    obtain ⟨y', hy'⟩ : ∃ y', y' = { y with
        phase := Phase.probeQueued, snapshot := some (s.rm.resolve x.line), dirResult := r, probeMode := some m } := ⟨_, rfl⟩
    have hurm : u.rm = s.rm := by rw [hu]
    rw [hurm, ← hy'] at hwy
    have hwframe : w = { s with
        tt := { s.tt with entries := w.tt.entries, locks := w.tt.locks }
        pu := { s.pu with queue := joinTail s.pu.queue i }
        mp := { s.mp with outstanding := outs }
        out := [] } := by
      refine hw.trans ?_
      rw [hu]
    have hwaits : w.WaitsToAttach c d i y'.buf raw := by
      rw [hy']
      refine hd'.imp id fun ⟨j, z, hst, hdj, hj11, hji, hjq, hz, hzp, hzk, hzl, hlen, hnodup, hraw⟩ => ?_
      exact ⟨j, z, hst, hdj, hji, (hwy.2 j hji).trans ((hux.2 j hjq).trans hz), hzp, hzk, hlen, hnodup, hraw⟩
    have hdq : d ≠ some q.txn := by
      rcases hd' with ⟨-, rfl, -⟩ | ⟨j, z, -, rfl, -, -, hjq, -⟩
      · nofun
      · exact fun h => hjq (Option.some.inj h)
    have hd11 : d ≠ some recallEntry := by
      rcases hd' with ⟨-, rfl, -⟩ | ⟨j, z, -, rfl, hj11, -⟩
      · nofun
      · exact fun h => hj11 (Option.some.inj h)
    obtain ⟨v, beats, hattach, hv, hvd, hvother, hdi, hvl, hraw⟩ :=
      hwaits.exists_attach (by rw [hwframe]; exact hc) hcl hcw hwl.1
    have hvframe : v = { s with
        tt := { s.tt with entries := v.tt.entries, locks := v.tt.locks }
        pu := { s.pu with queue := joinTail s.pu.queue i }
        mp := { s.mp with outstanding := outs }
        out := [] } := by
      refine hv.trans ?_
      rw [hwframe]
    have hvy : v.txn i = some y' := (hvother i hdi).trans hwy.1
    have hvlock : s.LockBecomes v x.line
        (some { line := x.line, holder := .txn i, waiters := ws.filter fun j => decide (d ≠ some j) }) :=
      ⟨hvl.1, fun l h => (hvl.2 l h).trans ((hwl.2 l h).trans (by rw [hu]; rfl))⟩
    have hpu : v.pu.without i y'.phase = s.pu := by
      rw [hvframe, hy', ProbeUnit.without, if_pos rfl]
      show ({ s.pu with queue := (joinTail s.pu.queue i).filter fun j => j != i } : ProbeUnit) = s.pu
      rw [filter_joinTail, List.filter_eq_self.mpr fun j hj => bne_iff_ne.mpr fun (h : j = i) => hqueue (h ▸ hj)]
    have hothers : ∀ {t : State} {z : Txn}, v.TxnBecomes t i (some z) → t.txn q.txn = none ∧ t.txn i = some z ∧
        (∀ j, d = some j → t.txn j = none) ∧ ∀ j, j ≠ q.txn → j ≠ i → d ≠ some j → t.txn j = s.txn j := fun h =>
      ⟨(h.2 _ (Ne.symm hiq)).trans ((hvother _ hdq).trans ((hwy.2 _ (Ne.symm hiq)).trans hux.1)), h.1,
        fun j hj => (h.2 j fun he => hdi (he ▸ hj)).trans (hvd j hj),
        fun j h1 h2 h3 => (h.2 j h2).trans ((hvother j h3).trans ((hwy.2 j h2).trans (hux.2 j h1)))⟩
    have hquiet : ∀ {t : State} {z : Txn}, v.TxnBecomes t i (some z) → t.msc = s.msc → t.tt.recallWait = s.tt.recallWait →
        t.pu = s.pu → t.rp = s.rp → t.Quiet := fun h h1 h2 h3 h4 => by
      refine hq.of_eq ?_ h1 h2 (by rw [h3]; exact hq.channel) fun p => by rw [State.port, h4]; rfl
      rw [(hothers h).2.2.2 recallEntry (Ne.symm hq11) (Ne.symm hi11) hd11]
    have hexec' : exec (.memCompletion k) s = .next (v.attach i c beats).settle := by rw [hexec, hhand, hattach]
    have hyd : y'.wbData = false := by rw [hy']; exact hd
    by_cases hlen : c.taken.length = 4
    · have hvdeaf : v.Deaf := by
        rw [hvframe]
        exact hq.deaf
      obtain ⟨t, z, ht, htframe, htz, htook, hset, hsame⟩ :=
        hvdeaf.exists_attach_taken hvy (.inl hi11) hraw hlen (.inl (by rw [hy']))
      rw [hpu] at htframe
      have hframe : t = { s with
          pd := t.pd
          hp := { s.hp with cycle := some (c.attachedTo i) }
          tt := { s.tt with entries := t.tt.entries, locks := v.tt.locks }
          mp := { outstanding := outs, waiting := joinTail s.mp.waiting i }
          out := [] } := by
        refine htframe.trans ?_
        rw [hvframe]
      have hlocks : t.tt.locks = v.tt.locks := by rw [hframe]
      have hmp : t.mp = { outstanding := outs, waiting := joinTail s.mp.waiting i } := by rw [hframe]
      have hhp : t.hp = { s.hp with cycle := some (c.attachedTo i) } := by rw [hframe]
      have htq := hquiet htz (by rw [hframe]) (by rw [hframe]) (by rw [hframe]) (by rw [hframe])
      obtain ⟨h1, h2, h3, h4⟩ := hothers htz
      refine ⟨t, z, hexec'.trans (by rw [ht, htq.settle]), ?_, hhp, h1, h2, h3, h4, hvlock.of_locks hlocks,
        fun h => absurd hlen h, fun _ => ⟨hmp, ?_, fun hm => ?_, fun hm => ?_⟩⟩
      · refine hframe.trans ?_
        rw [hmp, hhp, hlocks]
      · have hdir : z.dirResult = r := (congrArg Txn.dirResult htook.record).trans (by rw [hy'])
        refine htook.of_record ?_
        rw [hdir, hy']
      · have hline : y'.line = x.line := by
          rw [hy']
          exact hyl
        have := hset (by rw [hy', hm])
        rw [hline, hvframe] at this
        exact this
      · rw [hsame (by rw [hy']; exact fun h => hm (Option.some.inj h)), hvframe]
    · obtain ⟨t, ht, htframe, htz⟩ := State.exists_attach_waits hvy hyd hraw (.inl hlen)
      rw [hpu] at htframe
      have hframe : t = { s with
          hp := { s.hp with cycle := some (c.attachedTo i) }
          tt := { s.tt with entries := t.tt.entries, locks := v.tt.locks }
          mp := { s.mp with outstanding := outs }
          out := [] } := by
        refine htframe.trans ?_
        rw [hvframe]
      have hpd : t.pd = s.pd := by rw [hframe]
      have hlocks : t.tt.locks = v.tt.locks := by rw [hframe]
      have hmp : t.mp = { s.mp with outstanding := outs } := by rw [hframe]
      have hhp : t.hp = { s.hp with cycle := some (c.attachedTo i) } := by rw [hframe]
      have htq := hquiet htz (by rw [hframe]) (by rw [hframe]) (by rw [hframe]) (by rw [hframe])
      obtain ⟨h1, h2, h3, h4⟩ := hothers htz
      refine ⟨t, _, hexec'.trans (by rw [ht, htq.settle]), ?_, hhp, h1, h2, h3, h4, hvlock.of_locks hlocks,
        fun _ => ⟨hpd, hmp, ?_⟩, fun h => absurd h hlen⟩
      · refine hframe.trans ?_
        rw [hpd, hmp, hhp, hlocks]
      · have hincomplete : (c.taken.length == 4) = false := by
          rw [beq_eq_false_iff_ne]
          exact hlen
        rw [Txn.attachedWith, hincomplete, hy']
        simp [hwt, hd]

end Sys2Proof.Machine
end

section
/-! SUPPORT. What the release of an abandoned transaction's line does for the head of its wait list (R38, R51). -/

set_option Elab.async false

namespace Sys2Proof.Machine

theorem Work.exists_hEvict {w : Work} (h : w.kind = .hEvict) : ∃ b, w = .hEvict b := by
  cases w with
  | hEvict b => exact ⟨b, rfl⟩
  | _ => cases h

theorem Work.exists_hFill {w : Work} (h : w.kind = .hFill) : ∃ b, w = .hFill b := by
  cases w with
  | hFill b => exact ⟨b, rfl⟩
  | _ => cases h

/-! ### The lock passed on -/

theorem State.TxnPasses.trans {s v t : State} {q i : EntryIx} {x y : Option Txn} (h : s.TxnPasses v q i x)
    (ht : v.TxnBecomes t i y) (hq : q ≠ i) : s.TxnPasses t q i y :=
  ⟨(ht.2 q hq).trans h.1, ht.1, fun j h1 h2 => (ht.2 j h2).trans (h.2.2 j h1 h2)⟩

/-- The bridge with the completion taken from the memory port, the completed entry freed, and the line's lock passed on. -/
structure State.PassedOn (s v : State) (q i : EntryIx) (outs : List MemReq) (y : Txn) (l : Line) (r : LockRec) : Prop where
  frame : v = { s with
    tt := { s.tt with entries := v.tt.entries, locks := v.tt.locks }
    mp := { s.mp with outstanding := outs }
    out := [] }
  txn : s.TxnPasses v q i (some y)
  lock : s.LockBecomes v l (some r)

/-- R38, R51: an abandoned host transaction's completion passes its line's lock on, and the next holder looks up. -/
theorem exec_abandonedCompletion_passes {s : State} {q : MemReq} {outs : List MemReq} {x y : Txn} {i : EntryIx}
    {ws : List EntryIx} (hs : s.Running) (hq : s.Quiet) (hm : s.mp.outstanding = q :: outs) (hx : s.txn q.txn = some x)
    (ha : x.abandoned = true) (hh : x.work.isHost = true)
    (hl : s.lockOf x.line = some { line := x.line, holder := .txn q.txn, waiters := i :: ws }) (hiq : i ≠ q.txn)
    (hy : s.txn i = some y) (hw : y.work.isLocked = false) (k : Completion) :
    ∃ u v : State, exec (.memCompletion k) s = .next (u.handOff x.line (i :: ws)).settle ∧ u.txn i = some y ∧
      u.takeLock i y.work x.line ws = v ∧ u.Deaf ∧ v.msc = u.msc ∧
      s.PassedOn v q.txn i outs y x.line { line := x.line, holder := .txn i, waiters := ws } := by
  obtain ⟨u, hexec, hu, hux⟩ := exec_abandonedCompletion_handOff hs hq.deaf hm hx ha hh hl k
  have huy : u.txn i = some y := (hux.2 i hiq).trans hy
  have hlock := u.lockBecomes_putLock { line := x.line, holder := .txn i, waiters := ws }
  refine ⟨u, _, hexec, huy, State.takeLock_of_unlocked hw i x.line ws u, ?_, rfl, ?_, ?_, ?_⟩
  · rw [hu]
    exact hq.deaf
  · rw [hu]
    rfl
  · exact ⟨hux.1, huy, fun j h1 _ => hux.2 j h1⟩
  · exact ⟨hlock.1, fun m hm => (hlock.2 m hm).trans (by rw [hu]; rfl)⟩

/-- A bridge that was quiet is so once a transaction has passed its line on. -/
theorem State.Quiet.of_txnPasses {s t : State} {q i : EntryIx} {y : Option Txn} (h : s.Quiet) (ht : s.TxnPasses t q i y)
    (hq : q ≠ recallEntry) (hi : i ≠ recallEntry) (hsweep : t.msc.sweep = s.msc.sweep) (hmode : t.msc.mode = s.msc.mode)
    (hwait : t.tt.recallWait = s.tt.recallWait) (hpu : t.pu = s.pu) (hports : ∀ p, (t.port p).state = (s.port p).state) :
    t.Quiet where
  entry11 := by rw [ht.2.2 recallEntry (Ne.symm hq) (Ne.symm hi), hsweep, hwait]; exact h.entry11
  channel := by rw [hpu, hmode]; exact h.channel
  ports := fun p => by rw [hports p]; exact h.ports p
  sweep := by rw [hsweep]; exact h.sweep

/-- Settles O36, by the kind of the head of the wait list. -/
theorem abandonedCompletionFreesEntryAndPassesTheLock : Obligations.AbandonedCompletionFreesEntryAndPassesTheLock := by
  intro s k hs
  refine ⟨fun hnone => ?nothing, fun q outs x hq hm hx hq11 ha hh => ⟨fun hl => ?alone,
    fun i y ws waiting r hl hiq hi11 hy hyl hwaiting hr => ?_⟩⟩
  case nothing =>
    rw [exec, execMemCompletion, live_of_running hs]
    simp only [State.clearOut_mp, hnone]
    rfl
  case alone =>
    obtain ⟨u, hexec, hu, hux⟩ := exec_abandonedCompletion_handOff hs hq.deaf hm hx ha hh hl k
    have hdrop := u.lockBecomes_dropLock x.line
    have hquiet : (u.dropLock x.line).Quiet := by
      refine hq.of_eq (congrArg Option.isSome (hux.2 recallEntry (Ne.symm hq11))) ?_ ?_ ?_ fun p => ?_ <;> rw [hu]
      · rfl
      · rfl
      · exact hq.channel
      · rfl
    refine ⟨u.dropLock x.line, hexec.trans (congrArg Host.Outcome.next hquiet.settle), ?_, hux, hdrop.1,
      fun m hm => (hdrop.2 m hm).trans (by rw [hu]; rfl)⟩
    rw [hu]
    rfl
  subst hwaiting hr
  have hiq' : q.txn ≠ i := Ne.symm hiq
  refine ⟨fun hk => ?plain, fun hlocked hset hroom => ?locked, fun hk => ?evict, fun es declined hk hdec => ?fill,
    fun p g code hp hg hcode => ⟨fun hbad hws => ?refused, fun hok hn => ?noProbe, fun m hok hn hnone => ?probe⟩⟩
  case plain =>
    have hkind : y.work.kind ∈ [TxnKind.hRead, .hWrite, .hLread, .hLwrite] := by
      rcases hk with h | h <;> rw [h] <;> decide
    have hunlocked : y.work.isLocked = false := by
      rcases hk with h | h <;> rw [Work.isLocked, h] <;> rfl
    obtain ⟨u, v, hexec, huy, htake, -, -, hv⟩ := exec_abandonedCompletion_passes hs hq hm hx ha hh hl hiq hy hunlocked k
    have hlook := State.lookup_of_plain hv.txn.2.1 hkind
    have hmem := (State.txnBecomes_refl hv.txn.2.1).toMemWait
    rw [Txn.loadWrite_of_ne (TxnKind.ne_rWrite_of_plain hkind)] at hmem
    obtain ⟨t, ht⟩ : ∃ t, t = v.toMemWait i := ⟨_, rfl⟩
    have hframe : t = { s with
        tt := { s.tt with entries := t.tt.entries, locks := t.tt.locks }
        mp := { outstanding := outs, waiting := joinTail s.mp.waiting i }
        out := [] } := by
      rw [ht, hv.frame]
      rfl
    rw [← ht] at hlook hmem
    have hpass := hv.txn.trans hmem hiq'
    have htq := hq.of_txnPasses hpass hq11 hi11 (by rw [hframe]) (by rw [hframe]) (by rw [hframe]) (by rw [hframe])
      fun p => by rw [hframe]; rfl
    refine ⟨t, hexec.trans ?_, hframe, hpass, hv.lock.of_locks (by rw [ht]; rfl)⟩
    rw [State.handOff_cons huy (by rw [htake]; exact hlook), htq.settle]
  case locked =>
    have hkind : y.work.kind ∈ [TxnKind.hRead, .hWrite, .hLread, .hLwrite] := by
      rcases Work.kind_of_isLocked hlocked with h | h <;> rw [h] <;> decide
    obtain ⟨u, hexec, hu, hux⟩ := exec_abandonedCompletion_handOff hs hq.deaf hm hx ha hh hl k
    have huy : u.txn i = some y := (hux.2 i hiq).trans hy
    have huset : u.hp.lockSet = s.hp.lockSet := by rw [hu]
    obtain ⟨v, hv⟩ : ∃ v, v = u.takeLock i y.work x.line ws := ⟨_, rfl⟩
    have htake := hv.trans (State.takeLock_of_locked hlocked (by rw [huset]; exact hset) (by rw [huset]; exact hroom) i ws)
    have hlock := State.lockBecomes_putLock { u with hp := { u.hp with lockSet := u.hp.lockSet ++ [x.line] } }
      { line := x.line, holder := .hostSet, waiters := ws }
    rw [← htake] at hlock
    have hvtxn : ∀ j, v.txn j = u.txn j := fun j => by rw [htake]; rfl
    have hlook := State.lookup_of_plain ((hvtxn i).trans huy) hkind
    obtain ⟨t, ht⟩ : ∃ t, t = v.toMemWait i := ⟨_, rfl⟩
    have hmem := (State.txnBecomes_refl ((hvtxn i).trans huy)).toMemWait
    rw [Txn.loadWrite_of_ne (TxnKind.ne_rWrite_of_plain hkind), ← ht] at hmem
    have hframe : t = { s with
        tt := { s.tt with entries := t.tt.entries, locks := t.tt.locks }
        mp := { outstanding := outs, waiting := joinTail s.mp.waiting i }
        hp := { s.hp with lockSet := s.hp.lockSet ++ [x.line] }
        out := [] } := by
      rw [ht, htake, hu]
      rfl
    have hpass : s.TxnPasses t q.txn i (some { y with phase := .memWait }) :=
      ⟨(hmem.2 _ hiq').trans ((hvtxn _).trans hux.1), hmem.1,
        fun j h1 h2 => (hmem.2 j h2).trans ((hvtxn j).trans (hux.2 j h1))⟩
    have htq := hq.of_txnPasses hpass hq11 hi11 (by rw [hframe]) (by rw [hframe]) (by rw [hframe]) (by rw [hframe])
      fun p => by rw [hframe]; rfl
    refine ⟨t, hexec.trans ?_, hframe, hpass, State.LockBecomes.of_locks (v := v)
      ⟨hlock.1, fun l h => (hlock.2 l h).trans (by rw [hu]; rfl)⟩ (by rw [ht]; rfl)⟩
    rw [State.handOff_cons huy (by rw [← hv]; exact hlook), ← ht, htq.settle]
  case evict =>
    have hunlocked : y.work.isLocked = false := by rw [Work.isLocked, hk]; rfl
    obtain ⟨b, hb⟩ := Work.exists_hEvict hk
    obtain ⟨u, v, hexec, huy, htake, -, -, hv⟩ := exec_abandonedCompletion_passes hs hq hm hx ha hh hl hiq hy hunlocked k
    have hlook := State.lookup_of_evict hv.txn.2.1 hb
    have hvd : v.Deaf := by
      rw [hv.frame]
      exact hq.deaf
    obtain ⟨t, ht, htframe, hmem, hevict⟩ := hvd.exists_lookupEvict hv.txn.2.1 (by rw [hk]; nofun) x.line
    have hpass := hv.txn.trans hmem hiq'
    have hlocks : t.tt.locks = v.tt.locks := by rw [htframe]
    have hmsc : t.msc = { s.msc with quarantine := t.msc.quarantine } := by rw [htframe, hv.frame]
    have hframe : t = { s with
        pd := t.pd
        tt := { s.tt with entries := t.tt.entries, locks := t.tt.locks }
        mp := { outstanding := outs, waiting := joinTail s.mp.waiting i }
        msc := t.msc
        ev := t.ev
        out := [] } := by
      refine htframe.trans ?_
      rw [hmsc, hlocks, hv.frame]
    have htq := hq.of_txnPasses hpass hq11 hi11 (by rw [hmsc]) (by rw [hmsc]) (by rw [hframe]) (by rw [hframe])
      fun p => by rw [hframe]; rfl
    refine ⟨t, _, hexec.trans ?_, hframe, hpass, rfl, hevict.of_eq (by rw [hv.frame]) (by rw [hv.frame]) (by rw [hv.frame]),
      hv.lock.of_locks hlocks⟩
    rw [State.handOff_cons huy (by rw [htake, hlook, hyl]), ht, htq.settle]
  case fill =>
    have hunlocked : y.work.isLocked = false := by rw [Work.isLocked, hk]; rfl
    obtain ⟨b, hb⟩ := Work.exists_hFill hk
    obtain ⟨u, v, hexec, huy, htake, -, -, hv⟩ := exec_abandonedCompletion_passes hs hq hm hx ha hh hl hiq hy hunlocked k
    have hlook := State.lookup_of_fill hv.txn.2.1 hb
    obtain ⟨w, hw⟩ : ∃ w, w = v.modTxn i fun t => { t with
        snapshot := some (v.rm.resolve y.line), dirResult := some (v.dirResult t.line) } := ⟨_, rfl⟩
    have hwy := State.txnBecomes_modTxn hv.txn.2.1 fun t => { t with
        snapshot := some (v.rm.resolve y.line), dirResult := some (v.dirResult t.line) }
    have hrm : v.rm = s.rm := by rw [hv.frame]
    have hwframe : w = { s with
        tt := { s.tt with entries := w.tt.entries, locks := v.tt.locks }
        mp := { s.mp with outstanding := outs }
        out := [] } := by
      rw [hw, hv.frame]
      rfl
    rw [← hw] at hwy hlook
    have hwlock : ∀ m, m ≠ x.line → w.lockOf m = s.lockOf m := fun m hm' => by
      rw [hw]
      exact hv.lock.2 m hm'
    have hdecide := hdec.decideFill (u := w) (by rw [hwframe]) (by rw [hwframe]) hwlock i
    obtain ⟨t, ht⟩ : ∃ t, t = (w.decided x.line es declined).toMemWait i := ⟨_, rfl⟩
    have hmem := State.TxnBecomes.toMemWait (t := w.decided x.line es declined) hwy
    rw [← ht, Txn.loadWrite_of_ne (by show y.work.kind ≠ _; rw [hk]; nofun), hyl, hrm] at hmem
    have hpass := hv.txn.trans hmem hiq'
    have hframe : t = { s with
        pd := t.pd
        tt := { s.tt with entries := t.tt.entries, locks := v.tt.locks }
        mp := { outstanding := outs, waiting := joinTail s.mp.waiting i }
        ev := { s.ev with counters := { s.ev.counters with
          declinedFills := s.ev.counters.declinedFills + declined } }
        out := [] } := by
      rw [ht, hwframe]
      rfl
    have hset : s.SetBecomes t (setOf x.line) es := by
      have := w.setBecomes_putSet x.line es
      rw [State.SetBecomes, show w.pd = s.pd by rw [hwframe]] at this
      exact State.SetBecomes.of_pd (t := w.putSet x.line es) this (by rw [ht]; rfl)
    have htq := hq.of_txnPasses hpass hq11 hi11 (by rw [hframe]) (by rw [hframe]) (by rw [hframe]) (by rw [hframe])
      fun p => by rw [hframe]; rfl
    have hlocks : t.tt.locks = v.tt.locks := by rw [hframe]
    have hev : t.ev = { s.ev with counters := { s.ev.counters with
        declinedFills := s.ev.counters.declinedFills + declined } } := by rw [hframe]
    refine ⟨t, _, hexec.trans ?_, ?_, hpass, by rw [hyl], hset, hev, hv.lock.of_locks hlocks⟩
    · rw [hyl, hrm, hdecide, ← ht] at hlook
      rw [State.handOff_cons huy (by rw [htake]; exact hlook), htq.settle]
    · refine hframe.trans ?_
      rw [hlocks, hev]
  case refused =>
    subst hws
    obtain ⟨hunlocked, -, -, hissuer, -⟩ := Work.requester_spec hp
    obtain ⟨u, v, hexec, huy, htake, hud, hvu, hv⟩ := exec_abandonedCompletion_passes hs hq hm hx ha hh hl hiq hy hunlocked k
    have hvc : v.checksResult y.work.kind p y.line = code := by
      rw [hv.frame, hyl]
      exact hcode.symm
    obtain ⟨e, he, hdenied, hrefused, hother⟩ := v.exists_reportRefusal y code
    have hlook := State.lookup_of_refused hv.txn.2.1 hp (by rw [hvc]; exact hbad)
    have hrespond := State.respond_of_requester (s := { v with ev := e }) hv.txn.2.1 hp hg code
    rw [if_neg hbad] at hrespond
    rw [hvc, he, hrespond] at hlook
    obtain ⟨w, hw⟩ : ∃ w, w = ({ v with ev := e }.placeResponse p { tag := g, result := code, data := .none }).freeEntry i :=
      ⟨_, rfl⟩
    have hwfree : v.TxnBecomes w i none := by
      rw [hw]
      exact ({ v with ev := e }.placeResponse p { tag := g, result := code, data := .none }).txnBecomes_freeEntry i
    have hwport : s.PortBecomes w p { s.port p with
        responses := (s.port p).responses ++ [{ tag := g, result := code, data := .none }] } := by
      have := v.portBecomes_modPort p fun q => { q with responses := q.responses ++ [{ tag := g, result := code, data := .none }] }
      have hvp : ∀ p', v.port p' = s.port p' := fun p' => by rw [hv.frame]; rfl
      rw [hvp p] at this
      rw [hw]
      exact ⟨this.1, fun p' hp' => (this.2 p' hp').trans (hvp p')⟩
    have hwframe : w = { s with
        tt := { s.tt with entries := w.tt.entries, locks := v.tt.locks }
        rp := w.rp
        mp := { s.mp with outstanding := outs }
        ev := e
        out := [] } := by
      rw [hw, hv.frame]
      rfl
    have hev : v.ev = s.ev := by rw [hv.frame]
    rw [← hw] at hlook
    have hhand := hud.handOff_of_refused huy (by rw [htake]; exact hlook)
      ((congrArg State.msc hw).trans hvu : w.msc = u.msc)
    have hdrop := w.lockBecomes_dropLock x.line
    have hpass := hv.txn.trans (t := w.dropLock x.line) hwfree hiq'
    have htq : (w.dropLock x.line).Quiet := hq.of_txnPasses hpass hq11 hi11 (by rw [hwframe]; rfl) (by rw [hwframe]; rfl)
      (by rw [hwframe]; rfl) (by rw [hwframe]; rfl) (hwport.state_eq rfl)
    have hrecord : ∀ kind, y.record kind =
        { kind := kind, issuer := .rp p, line := x.line, txnKind := y.work.kind, tag := some g } := fun kind => by
      rw [Txn.record, hissuer, hg, hyl]
    refine ⟨w.dropLock x.line, hexec.trans ?_, ?_, hpass, ⟨hdrop.1, fun m hm => (hdrop.2 m hm).trans ?_⟩, hwport, fun h => ?_,
      fun h => ?_, fun h => ?_⟩
    · rw [hhand]
      exact congrArg Host.Outcome.next htq.settle
    · rw [hwframe]
      rfl
    · rw [← hv.lock.2 m hm, hwframe]
      rfl
    · rw [hwframe, ← hev, ← hrecord]
      exact hdenied h
    · rw [hwframe, ← hev, ← hrecord]
      exact hrefused h
    · rw [hwframe, ← hev]
      rcases h with h | h <;> rw [h] at hother <;> exact hother nofun nofun
  case noProbe =>
    obtain ⟨hunlocked, -, -, -, -, hk⟩ := Work.requester_spec hp
    obtain ⟨u, v, hexec, huy, htake, -, -, hv⟩ := exec_abandonedCompletion_passes hs hq hm hx ha hh hl hiq hy hunlocked k
    have hvc : v.checksResult y.work.kind p y.line = .ok := by
      rw [hv.frame, hyl]
      exact hcode.symm.trans hok
    have hvn : v.NeedsNoProbe y.work.kind y.line := by
      rw [hv.frame, hyl]
      exact hn
    have hlook := State.lookup_of_noProbe hv.txn.2.1 hp hvc hvn
    have hrm : v.rm = s.rm := by rw [hv.frame]
    obtain ⟨r, hr⟩ : ∃ r, r = some (v.consulted y.line (v.rm.resolve y.line)) := ⟨_, rfl⟩
    obtain ⟨t, ht⟩ : ∃ t, t = (v.lookedAt i y.line).toMemWait i := ⟨_, rfl⟩
    have hmem : v.TxnBecomes t i (some { ({ y with snapshot := some (s.rm.resolve x.line), dirResult := r } : Txn).loadWrite with
        phase := .memWait }) := by
      rw [ht, hr, ← hrm, ← hyl]
      exact ((State.txnBecomes_refl hv.txn.2.1).modTxn _).toMemWait
    have hframe : t = { s with
        tt := { s.tt with entries := t.tt.entries, locks := t.tt.locks }
        mp := { outstanding := outs, waiting := joinTail s.mp.waiting i }
        out := [] } := by
      rw [ht, hv.frame]
      rfl
    have hpass := hv.txn.trans hmem hiq'
    have htq := hq.of_txnPasses hpass hq11 hi11 (by rw [hframe]) (by rw [hframe]) (by rw [hframe]) (by rw [hframe])
      fun p => by rw [hframe]; rfl
    have hlocks : t.tt.locks = v.tt.locks := by
      rw [ht]
      rfl
    have hload := Txn.loadWrite_frame { y with snapshot := some (s.rm.resolve x.line), dirResult := r }
    have henter := fun hd : y.wbData = false =>
      Txn.enteredMemWait (x := { y with snapshot := some (s.rm.resolve x.line), dirResult := r }) hd
    rw [hload] at hpass henter
    refine ⟨t, _, hexec.trans ?_, hframe, hpass, rfl, hyl, rfl, rfl, henter, hv.lock.of_locks hlocks⟩
    rw [State.handOff_cons huy (by rw [htake]; exact hlook), ← ht, htq.settle]
  case probe =>
    obtain ⟨hunlocked, -, -, -, -, hk⟩ := Work.requester_spec hp
    obtain ⟨u, hexec, hu, hux⟩ := exec_abandonedCompletion_handOff hs hq.deaf hm hx ha hh hl k
    have huy : u.txn i = some y := (hux.2 i hiq).trans hy
    have huc : u.checksResult y.work.kind p x.line = .ok := by
      rw [hu]
      exact hcode.symm.trans hok
    have hun : u.NeedsProbe y.work.kind x.line m := by
      rw [hu]
      exact hn
    obtain ⟨w, r, hhand, hw, hwy, hwl⟩ := State.exists_handOff_probe (ws := ws) huy hyl hp huc hun
    obtain ⟨y', hy'⟩ : ∃ y', y' = { y with
        phase := Phase.probeQueued, snapshot := some (u.rm.resolve x.line), dirResult := r, probeMode := some m } := ⟨_, rfl⟩
    rw [← hy'] at hwy
    have hspec : y'.work = y.work ∧ y'.line = x.line ∧ y'.phase = .probeQueued ∧ y'.probeMode = some m := by
      rw [hy']
      exact ⟨rfl, hyl, rfl, rfl⟩
    obtain ⟨hyw', hyl', hyp', hym'⟩ := hspec
    obtain ⟨v, hv⟩ : ∃ v, v = { w with pu := s.pu } := ⟨_, rfl⟩
    have hvpu : v.pu = s.pu := by rw [hv]
    have hvw : v.setQueue (joinTail v.pu.queue i) = w := by
      rw [hvpu, hv, State.setQueue, hw, hu]
    have hvframe : v = { s with
        tt := { s.tt with entries := w.tt.entries, locks := w.tt.locks }
        mp := { s.mp with outstanding := outs }
        out := [] } := by
      rw [hv, hw, hu]
    have hvtxn : ∀ j, v.txn j = w.txn j := fun j => by rw [hv]; rfl
    have hpass : s.TxnPasses v q.txn i (some y') :=
      ⟨(hvtxn _).trans ((hwy.2 _ hiq').trans hux.1), (hvtxn i).trans hwy.1,
        fun j h1 h2 => (hvtxn j).trans ((hwy.2 j h2).trans (hux.2 j h1))⟩
    have hwnone : w.NoneAttaches x.line := by
      refine hnone.of_txn (by rw [hw, hu]) fun j z hz hzk => ?_
      rw [← hvtxn] at hz
      by_cases hjq : j = q.txn
      · rw [hjq, hpass.1] at hz
        cases hz
      · by_cases hji : j = i
        · rw [hji, hpass.2.1] at hz
          obtain rfl := Option.some.inj hz
          rw [hyw'] at hzk
          rcases hk with h | h | h <;> rw [h] at hzk <;> cases hzk
        · exact (hpass.2.2 j hjq hji).symm.trans hz
    have hvq := hq.of_txnPasses hpass hq11 hi11 (by rw [hvframe]) (by rw [hvframe]) (by rw [hvframe]) hvpu
      fun p => by rw [hvframe]; rfl
    obtain ⟨hnmode, hncoh, e, hfind, hheld, -⟩ := hn
    have hch : v.pu.channel ≠ .idle ∨ v.pu.queue = [] := by
      rw [hvpu]
      rcases hq.channel with h | h | h
      · exact .inl h
      · rw [hnmode] at h
        cases h
      · exact .inr h
    have hvheld : v.isHeld y'.line = true := by
      rw [hyl', hvframe]
      show s.isHeld x.line = true
      rw [State.isHeld, hfind, Option.any_some, hheld]
      rfl
    have hvmode : v.msc.mode ≠ .faulted := by
      rw [hvframe, show ({ s with
        tt := { s.tt with entries := w.tt.entries, locks := w.tt.locks }
        mp := { s.mp with outstanding := outs }
        out := [] } : State).msc.mode = .coherent from hnmode]
      nofun
    obtain ⟨t, z, ht, htframe, httt, htz, hzrec, hidle, hbusy⟩ := State.settle_joinQueue (m := m) hpass.2.1 hyp' hym'
      (State.giveEntry11_of_entry11 (s := v.setQueue (joinTail v.pu.queue i)) hvq.entry11) hvmode hch hvheld hvq.ports
    rw [hvw] at ht
    have hlocks : t.tt.locks = w.tt.locks := by
      rw [httt, hvframe]
    have hvout : v.out = [] := by rw [hvframe]
    have hvev : v.ev = s.ev := by rw [hvframe]
    rw [hyl', hvpu, hvout, hvev] at hidle
    rw [hvpu, hvout, hvev] at hbusy
    refine ⟨t, z, ?_, ?_, hpass.trans htz hiq', ?_, ?_, ?_, ?_, hidle, hbusy⟩
    · rw [hexec, hhand, hwnone.attachWaiting, ht]
    · refine htframe.trans ?_
      rw [httt, hvframe]
    · rw [hzrec]
      exact hyw'
    · rw [hzrec]
      exact hyl'
    · rw [hzrec]
      exact hym'
    · exact State.LockBecomes.of_locks ⟨hwl.1, fun m hm => (hwl.2 m hm).trans (by rw [hu]; rfl)⟩ hlocks

end Sys2Proof.Machine
end

section
/-! SUPPORT. The drain of a requester port (R135 to R139). -/

set_option Elab.async false

namespace Sys2Proof.Machine

/-! ### A port's transactions in the table -/

theorem State.portHasLine_iff {s : State} {p : PortIx} {l : Line} : s.portHasLine p l = true ↔
    ∃ i x, s.txn i = some x ∧ x.work.port? = some p ∧ x.line = l := by
  simp [State.portHasLine, allEntries, Option.any_eq_true]

theorem State.portHasTxn_iff {s : State} {p : PortIx} : s.portHasTxn p = true ↔
    ∃ i x, s.txn i = some x ∧ x.work.port? = some p := by
  simp [State.portHasTxn, allEntries, Option.any_eq_true]

/-! ### The queue of a draining port -/

/-- R137: the response of a request that a draining port answers. -/
def Accepted.drained (r : Accepted) : Response := { tag := r.tag, result := .portDisabled, data := .none }

/-- R137: the requests up to the first whose line the port still has a transaction of are answered in their order. -/
theorem State.exists_drainQueue {p : PortIx} {answered kept : List Accepted} {s : State}
    (hq : (s.port p).ingress = answered ++ kept) (ha : ∀ r ∈ answered, s.portHasLine p r.line = false)
    (hk : ∀ r rest, kept = r :: rest → s.portHasLine p r.line = true) :
    ∃ t, State.drainQueue p (answered ++ kept) s = t ∧ t = { s with rp := t.rp } ∧
      s.PortBecomes t p { s.port p with
        ingress := kept, responses := (s.port p).responses ++ answered.map Accepted.drained } := by
  induction answered generalizing s with
  | nil =>
    refine ⟨s, ?_, rfl, ?_, fun _ _ => rfl⟩
    · cases kept with
      | nil => rfl
      | cons r rest => exact if_pos (hk r rest rfl)
    · rw [List.map_nil, List.append_nil, ← show (s.port p).ingress = kept from hq]
  | cons r rest ih =>
    let u : State := (s.modPort p fun q => { q with ingress := rest ++ kept }).placeResponse p r.drained
    have hu : s.PortBecomes u p { s.port p with
        ingress := rest ++ kept, responses := (s.port p).responses ++ [r.drained] } := by
      have h1 := s.portBecomes_modPort p fun q => { q with ingress := rest ++ kept }
      have h2 := (s.modPort p fun q => { q with ingress := rest ++ kept }).portBecomes_modPort p fun q =>
        { q with responses := q.responses ++ [r.drained] }
      rw [h1.1] at h2
      exact ⟨h2.1, fun p' hp' => (h2.2 p' hp').trans (h1.2 p' hp')⟩
    obtain ⟨t, ht, htframe, htp⟩ := ih (s := u) (by rw [hu.1]) (fun r' hr' => ha r' (List.mem_cons_of_mem r hr')) hk
    rw [hu.1] at htp
    refine ⟨t, ?_, htframe, ?_, fun p' hp' => (htp.2 p' hp').trans (hu.2 p' hp')⟩
    · rw [List.cons_append, State.drainQueue, if_neg (by rw [ha r List.mem_cons_self]; nofun)]
      exact ht
    · rw [htp.1, List.map_cons, List.append_assoc]
      rfl

/-- R137, R138: what a draining port's drain leaves, by whether a transaction of the port is left. -/
theorem State.exists_drainPort {p : PortIx} {answered kept : List Accepted} {s : State}
    (hst : (s.port p).state = .draining) (hq : (s.port p).ingress = answered ++ kept)
    (ha : ∀ r ∈ answered, ∀ i x, s.txn i = some x → x.work.port? = some p → x.line ≠ r.line)
    (hk : ∀ r rest, kept = r :: rest → ∃ i x, s.txn i = some x ∧ x.work.port? = some p ∧ x.line = r.line) :
    ∃ t, s.drainPort p = t ∧ t = { s with rp := t.rp, ev := t.ev, mg := t.mg } ∧
      s.PortBecomes t p { s.port p with
        state := (t.port p).state, ingress := kept
        responses := (s.port p).responses ++ answered.map Accepted.drained } ∧
      ((∀ i x, s.txn i = some x → x.work.port? ≠ some p) → kept = [] →
        (t.port p).state = .disabled ∧ t.ev = { s.ev with flags := s.ev.flags ||| 0x4000#17 } ∧
        t.mg = s.mg.operationEnded) ∧
      ((∃ i x, s.txn i = some x ∧ x.work.port? = some p) →
        (t.port p).state = .draining ∧ t.ev = s.ev ∧ t.mg = s.mg) := by
  have ha' : ∀ r ∈ answered, s.portHasLine p r.line = false := fun r hr => Bool.eq_false_iff.mpr fun h => by
    obtain ⟨i, x, hx, hp, hl⟩ := State.portHasLine_iff.mp h
    exact ha r hr i x hx hp hl
  obtain ⟨u, hu, huframe, hup⟩ := State.exists_drainQueue hq ha' fun r rest h => State.portHasLine_iff.mpr (hk r rest h)
  have hutxn : u.portHasTxn p = s.portHasTxn p := by
    rw [huframe]
    rfl
  rw [State.drainPort, if_pos hst, hq, hu]
  dsimp only
  have hbecomes : ∀ {v : State}, v.rp = u.rp → s.PortBecomes v p { s.port p with
      state := (v.port p).state, ingress := kept
      responses := (s.port p).responses ++ answered.map Accepted.drained } := fun {v} hv => by
    have hport : ∀ p', v.port p' = u.port p' := fun p' => by rw [State.port, hv]; rfl
    have hstate : (v.port p).state = (s.port p).state := by rw [hport, hup.1]
    rw [hstate]
    exact ⟨(hport p).trans hup.1, fun p' hp' => (hport p').trans (hup.2 p' hp')⟩
  by_cases hdone : ((u.port p).ingress.isEmpty && !u.portHasTxn p) = true
  · have hset := u.portBecomes_modPort p fun q => { q with state := .disabled }
    have hsetp : (u.modPort p fun q => { q with state := .disabled }).port p = { s.port p with
        state := .disabled, ingress := kept, responses := (s.port p).responses ++ answered.map Accepted.drained } := by
      rw [hset.1, hup.1]
    rw [if_pos hdone, State.endLongOperation_eq]
    obtain ⟨v, hv⟩ : ∃ v : State, v = { (u.modPort p fun q => { q with state := .disabled }).raise .portDrained with
      mg := u.mg.operationEnded } := ⟨_, rfl⟩
    have hvp : ∀ p', v.port p' = (u.modPort p fun q => { q with state := .disabled }).port p' := fun p' => by
      rw [hv]
      rfl
    have hstate : (v.port p).state = .disabled := congrArg Port.state ((hvp p).trans hsetp)
    refine ⟨v, hv.symm, ?_, ⟨?_, fun p' hp' => (hvp p').trans ((hset.2 p' hp').trans (hup.2 p' hp'))⟩,
      fun _ _ => ⟨hstate, ?_, ?_⟩, fun hsome => ?_⟩
    · rw [hv, huframe]
      rfl
    · rw [hstate]
      exact (hvp p).trans hsetp
    · rw [hv, huframe]
      rfl
    · rw [hv, huframe]
    · rw [Bool.and_eq_true, hutxn, State.portHasTxn_iff.mpr hsome] at hdone
      exact absurd hdone.2 nofun
  · rw [if_neg hdone]
    refine ⟨u, rfl, ?_, hbecomes rfl, fun hnone hkept => absurd ?_ hdone, fun _ => ⟨?_, by rw [huframe], by rw [huframe]⟩⟩
    · rw [huframe]
    · have hno : u.portHasTxn p = false := by
        rw [hutxn]
        refine Bool.eq_false_iff.mpr fun h => ?_
        obtain ⟨i, x, hx, hp⟩ := State.portHasTxn_iff.mp h
        exact hnone i x hx hp
      rw [hup.1, hkept, hno]
      rfl
    · rw [hup.1]
      exact hst

theorem State.drainPort_of_not_draining {s : State} {p : PortIx} (h : (s.port p).state ≠ .draining) : s.drainPort p = s :=
  if_neg h

/-- R137: the ports that do not drain are left as they are. -/
theorem State.drainPorts_of_one {p : PortIx} {s : State} (h : ∀ p', p' ≠ p → (s.port p').state ≠ .draining)
    (hd : ∀ p', p' ≠ p → ((s.drainPort p).port p').state ≠ .draining) : s.drainPorts = s.drainPort p := by
  have hskip : ∀ (l : List PortIx) (u : State), (∀ p' ∈ l, (u.port p').state ≠ .draining) → l.foldl State.drainPort u = u := by
    intro l u hu
    induction l with
    | nil => rfl
    | cons p' l ih =>
      rw [List.foldl_cons, State.drainPort_of_not_draining (hu p' List.mem_cons_self)]
      exact ih fun q hq => hu q (List.mem_cons_of_mem p' hq)
  obtain ⟨before, after, hsplit⟩ := List.append_of_mem (List.mem_finRange p)
  have hnodup : (before ++ p :: after).Nodup := hsplit ▸ List.nodup_finRange 4
  rw [List.nodup_append] at hnodup
  obtain ⟨-, hafter, hdisjoint⟩ := hnodup
  rw [State.drainPorts, hsplit, List.foldl_append, List.foldl_cons,
    hskip before s fun q hq => h q fun he => hdisjoint q hq p List.mem_cons_self he]
  exact hskip after _ fun q hq => hd q fun he => (List.nodup_cons.mp hafter).1 (he ▸ hq)

theorem State.cmdPortDisable_of_index {s : State} {p : PortIx} (h : s.mg.index = p.val) :
    s.cmdPortDisable = s.disablePort p := by
  rw [State.cmdPortDisable, dif_pos (h ▸ p.isLt)]
  exact congrArg (State.disablePort · s) (Fin.ext h)

theorem State.cmdPortEnable_of_index {s : State} {p : PortIx} (h : s.mg.index = p.val) :
    s.cmdPortEnable = s.enablePort p := by
  rw [State.cmdPortEnable, dif_pos (h ▸ p.isLt)]
  exact congrArg (State.enablePort · s) (Fin.ext h)

/-- Nothing but the drain of one port is left to the end of an event. -/
theorem State.exists_settle_draining {p : PortIx} {answered kept : List Accepted} {s : State}
    (h11 : (s.txn recallEntry).isSome ∨ (s.msc.sweep.phase = .stopped ∧ s.tt.recallWait = []))
    (hch : s.pu.channel ≠ .idle ∨ s.msc.mode = .faulted ∨ s.pu.queue = [])
    (hother : ∀ p', p' ≠ p → (s.port p').state ≠ .draining)
    (hst : (s.port p).state = .draining) (hq : (s.port p).ingress = answered ++ kept)
    (ha : ∀ r ∈ answered, ∀ i x, s.txn i = some x → x.work.port? = some p → x.line ≠ r.line)
    (hk : ∀ r rest, kept = r :: rest → ∃ i x, s.txn i = some x ∧ x.work.port? = some p ∧ x.line = r.line) :
    ∃ t, s.settle = t ∧ t = { s with rp := t.rp, ev := t.ev, mg := t.mg } ∧
      s.PortBecomes t p { s.port p with
        state := (t.port p).state, ingress := kept
        responses := (s.port p).responses ++ answered.map Accepted.drained } ∧
      ((∀ i x, s.txn i = some x → x.work.port? ≠ some p) → kept = [] →
        (t.port p).state = .disabled ∧ t.ev = { s.ev with flags := s.ev.flags ||| 0x4000#17 } ∧
        t.mg = s.mg.operationEnded) ∧
      ((∃ i x, s.txn i = some x ∧ x.work.port? = some p) →
        (t.port p).state = .draining ∧ t.ev = s.ev ∧ t.mg = s.mg) := by
  obtain ⟨t, ht, hframe, hport, hdone, hgoes⟩ := State.exists_drainPort hst hq ha hk
  refine ⟨t, ?_, hframe, hport, hdone, hgoes⟩
  have hpump : s.pumpProbes pumpBound = s := by
    rcases or_assoc.mpr hch with hch | hqueue
    · rw [pumpBound, State.pumpProbes, if_pos hch]
    · exact State.pumpProbes_of_nil hqueue pumpBound
  rw [State.settle, State.giveEntry11_of_entry11 h11, hpump, State.drainPorts_of_one hother, ht]
  intro p' hp'
  rw [ht, hport.2 p' hp']
  exact hother p' hp'

/-! ### The obligation -/

/-- Settles O48: PORT_DISABLE by the port's number and state, the drain going on, and PORT_ENABLE. -/
theorem portDisableAndPortEnable : Obligations.PortDisableAndPortEnable := by
  refine ⟨fun s b n h hn => ⟨fun h3 => ?index, fun p hp => ⟨fun hdis => ?disabled, fun answered kept hen hquiet hq ha hk => ?drains⟩⟩,
    fun s q outs x d p g f n answered kept hs h11 hch hsweep hst hother hm hkind hx hi hw hab hl hq ha hk => ?goesOn,
    fun s b n h hn => ⟨fun h3 => ?enableIndex, fun p hp => ⟨fun hen => ?enabled, fun hdis => ?enables⟩⟩⟩
  case index =>
    refine commandByte_of_run_eq (u := s.commandTaken) h nofun ?_ rfl rfl
    exact dif_neg (show ¬ s.mg.index < 4 by rw [Management.index, ← hn]; exact Nat.not_lt_of_le h3)
  case enableIndex =>
    refine commandByte_of_run_eq (u := s.commandTaken) h nofun ?_ rfl rfl
    exact dif_neg (show ¬ s.mg.index < 4 by rw [Management.index, ← hn]; exact Nat.not_lt_of_le h3)
  case disabled =>
    refine commandByte_of_run_eq (u := s.commandTaken) h nofun ?_ rfl rfl
    rw [State.cmdPortDisable_of_index (s := s.commandTaken) (p := p) (hn.symm.trans hp.symm), State.disablePort,
      show (s.commandTaken.port p).state = .disabled from hdis]
    rfl
  case enabled =>
    refine commandByte_of_run_eq (u := s.commandTaken) h nofun ?_ rfl rfl
    rw [State.cmdPortEnable_of_index (s := s.commandTaken) (p := p) (hn.symm.trans hp.symm), State.enablePort,
      show (s.commandTaken.port p).state = .enabled from hen]
    rfl
  case enables =>
    have hrun : State.cmdPortEnable s.commandTaken = (s.commandTaken.setPortState p .enabled).setStatus .done .none := by
      rw [State.cmdPortEnable_of_index (s := s.commandTaken) (p := p) (hn.symm.trans hp.symm), State.enablePort,
        show (s.commandTaken.port p).state = .disabled from hdis]
      rfl
    exact ⟨_, commandByte_of_run_eq (u := s.commandTaken.setPortState p .enabled) h nofun hrun rfl rfl, rfl,
      s.portBecomes_modPort p fun q => { q with state := .enabled }⟩
  case drains =>
    obtain ⟨w, hw⟩ : ∃ w, w = (s.commandTaken.setPortState p .draining).setStatus .busy .none := ⟨_, rfl⟩
    have hwframe : w = { s.commandTaken with rp := w.rp, mg := { s.commandTaken.mg with
        status := { s.commandTaken.mg.status with state := .busy, reason := .none } } } := by
      rw [hw]
      rfl
    have hwport : s.PortBecomes w p { s.port p with state := .draining } := by
      rw [hw]
      exact s.portBecomes_modPort p fun q => { q with state := .draining }
    have hcode : 6#8 = s.mg.commandCode := (h.code_eq nofun).symm
    have htxn : w.txn = s.txn := by
      rw [hwframe]
      rfl
    have hrun : State.cmdPortDisable s.commandTaken = w.settle := by
      rw [State.cmdPortDisable_of_index (s := s.commandTaken) (p := p) (hn.symm.trans hp.symm), State.disablePort,
        show (s.commandTaken.port p).state = .enabled from hen, hw]
    obtain ⟨t, ht, hframe, hport, hdone, hgoes⟩ := State.exists_settle_draining (s := w) (p := p) (answered := answered)
      (kept := kept) (by rw [hwframe]; exact hquiet.entry11) (by rw [hwframe]; exact hquiet.channel)
      (fun p' hp' => by rw [hwport.2 p' hp']; exact hquiet.ports p') (by rw [hwport.1]) (by rw [hwport.1]; exact hq)
      (by rw [htxn]; exact ha) (by rw [htxn]; exact hk)
    rw [htxn, hwport.1] at *
    refine ⟨(t.modMg fun m => { m with staged := Staged.empty }.advance).emit .mgAck, ?_, fun ⟨hkept, hnone⟩ => ?_, fun hsome => ?_⟩
    · rw [← ht, ← hrun]
      exact commandByte_of_atCommand h State.cmdPortDisable
    · obtain ⟨hstate, hev, hmg⟩ := hdone hnone hkept
      rw [hstate, hkept] at hport
      refine ⟨?_, hport.1, fun p' hp' => (hport.2 p' hp').trans (hwport.2 p' hp')⟩
      rw [hcode, State.modMg, State.emit, hmg, hframe, hev, hwframe]
      rfl
    · obtain ⟨hstate, hev, hmg⟩ := hgoes hsome
      rw [hstate] at hport
      refine ⟨?_, hport.1, fun p' hp' => (hport.2 p' hp').trans (hwport.2 p' hp')⟩
      rw [hcode, State.modMg, State.emit, hmg, hframe, hev, hwframe]
      rfl
  case goesOn =>
    have hdeaf : s.Deaf := hsweep
    let u : State := { s.clearOut with mp := { s.mp with outstanding := outs } }
    let y : Txn := x.load (.ok d)
    let r : Response := { tag := g, result := .ok, data := .read ((d.toList.drop f.val).take n) }
    obtain ⟨v, hv⟩ : ∃ v, v = u.modTxn q.txn (Txn.load (.ok d)) := ⟨_, rfl⟩
    have hvframe : v = { u with tt := { u.tt with entries := v.tt.entries } } := by
      rw [hv]
      rfl
    have hvx : s.TxnBecomes v q.txn (some y) := by
      rw [hv]
      exact State.txnBecomes_modTxn (s := u) hx _
    obtain ⟨w, hwe⟩ : ∃ w, w = ((v.placeResponse p r).freeEntry q.txn).dropLock x.line := ⟨_, rfl⟩
    have hexec : exec (.memCompletion (.ok d)) s = .next w.settle := by
      have hend : v.endRequester q.txn x.line .ok = w := by
        rw [State.Deaf.endRequester (s := v) (by rw [hvframe]; exact hdeaf) hvx.1 (p := p) (g := g)
          (by rw [show y.work = _ from hw]; rfl) (by rw [show y.work = _ from hw]; rfl) (by rw [hvframe]; exact hl), hwe]
        rw [if_pos rfl, Txn.responseData, show y.work = _ from hw]
        rfl
      rw [exec_memCompletion_of hs hm hx hab]
      simp only [State.completeTxn, hw, hkind]
      rw [← hend, hv]
      rfl
    have hwframe : w = { s with
        rp := w.rp
        tt := { s.tt with entries := w.tt.entries, locks := w.tt.locks }
        mp := { s.mp with outstanding := outs }
        out := [] } := by
      rw [hwe, hvframe]
      rfl
    have htable : s.TxnBecomes w q.txn none := by
      rw [hwe]
      exact hvx.trans ((v.placeResponse p r).txnBecomes_freeEntry q.txn)
    have hlock : s.LockBecomes w x.line none := by
      have h := ((v.placeResponse p r).freeEntry q.txn).lockBecomes_dropLock x.line
      rw [← hwe] at h
      rw [hvframe] at h
      exact h
    have hwport : s.PortBecomes w p { s.port p with responses := (s.port p).responses ++ [r] } := by
      have h := v.portBecomes_modPort p fun z => { z with responses := z.responses ++ [r] }
      rw [hwe]
      rw [hvframe] at h ⊢
      exact h
    have hleft : ∀ {i : EntryIx} {z : Txn}, w.txn i = some z → i ≠ q.txn ∧ s.txn i = some z := fun {i z} hz => by
      by_cases hiq : i = q.txn
      · rw [hiq, htable.1] at hz
        nomatch hz
      · exact ⟨hiq, (htable.2 i hiq).symm.trans hz⟩
    have hright : ∀ {i : EntryIx} {z : Txn}, i ≠ q.txn → s.txn i = some z → w.txn i = some z := fun hiq hz =>
      (htable.2 _ hiq).trans hz
    obtain ⟨t, ht, hframe, hport, hdone, hgoes⟩ := State.exists_settle_draining (s := w) (p := p) (answered := answered)
      (kept := kept) (by rw [htable.2 recallEntry (Ne.symm hi), hwframe]; exact h11) (by rw [hwframe]; exact hch)
      (fun p' hp' => by rw [hwport.2 p' hp']; exact hother p' hp') (by rw [hwport.1]; exact hst) (by rw [hwport.1]; exact hq)
      (fun r' hr' i z hz hzp => ha r' hr' i z (hleft hz).1 (hleft hz).2 hzp)
      (fun r' rest' hr' => by
        obtain ⟨i, z, hiq, hz, hzp⟩ := hk r' rest' hr'
        exact ⟨i, z, hright hiq hz, hzp⟩)
    have hgone : s.TxnBecomes t q.txn none ∧ s.LockBecomes t x.line none := by
      rw [hframe]
      exact ⟨htable, hlock⟩
    rw [hwport.1] at hport
    have hwev : w.ev = s.ev := by rw [hwframe]
    have hwmg : w.mg = s.mg := by rw [hwframe]
    rw [hwev, hwmg] at hdone hgoes
    refine ⟨t, hexec.trans (congrArg _ ht), ?_, hgone.1, hgone.2, ⟨hport.1, fun p' hp' => (hport.2 p' hp').trans (hwport.2 p' hp')⟩,
      fun hnone => hdone fun i z hz => hnone i z (hleft hz).1 (hleft hz).2, fun ⟨i, z, hiq, hz, hzp⟩ => hgoes ⟨i, z, hright hiq hz, hzp⟩⟩
    rw [hframe, hwframe]

end Sys2Proof.Machine
end

section
/-! SUPPORT. What the operations of HRST may do once the directory is empty, the bus carries no cycle and no fill waits for
entry 11 (R50, R78, R117): no probe is needed, no victim is found, and nothing attaches. -/

set_option Elab.async false

namespace Sys2Proof.Machine

/-! ### The bridge without its host side -/

/-- R50, R78: no cycle, no running sweep, no fill that waits for entry 11 or is named by a link, and no HELD entry. -/
structure State.HostGone (s : State) : Prop where
  cycle : s.hp.cycle = none
  sweep : s.msc.sweep.phase = .stopped
  recallWait : s.tt.recallWait = []
  link : ∀ x, s.txn recallEntry = some x → x.link = none
  reserved : ∀ (k : SetIx), ∀ e ∈ s.pd.sets[k.val], e.state = .reserved

/-- What becomes of a transaction that stays in the table. -/
structure Txn.Continued (x y : Txn) : Prop where
  work : y.work = x.work
  line : y.line = x.line
  abandoned : x.abandoned = true → y.abandoned = true
  phase : y.phase = x.phase ∨ y.phase = .memWait
  link : x.link = none → y.link = none

theorem Txn.Continued.refl (x : Txn) : x.Continued x := ⟨rfl, rfl, id, .inl rfl, id⟩

theorem Txn.Continued.trans {x y z : Txn} (h : x.Continued y) (h' : y.Continued z) : x.Continued z where
  work := h'.work.trans h.work
  line := h'.line.trans h.line
  abandoned := h'.abandoned ∘ h.abandoned
  phase := by
    rcases h'.phase with hz | hz
    · rcases h.phase with hy | hy
      · exact .inl (hz.trans hy)
      · exact .inr (hz.trans hy)
    · exact .inr hz
  link := h'.link ∘ h.link

/-- What the bridge does as host work leaves it: the entries in `I` may be touched, those in `J` looked up, and the locks of
the lines in `L` passed on. -/
structure GoesOn (I J : EntryIx → Prop) (L : Line → Prop) (s t : State) : Prop where
  hp : t.hp = { s.hp with lockSet := t.hp.lockSet }
  lockSet : ∀ l ∈ t.hp.lockSet, l ∈ s.hp.lockSet ∨ ∃ i x, J i ∧ s.txn i = some x ∧ x.work.isLocked = true
  lockSetKept : ∀ l ∈ s.hp.lockSet, l ∈ t.hp.lockSet
  recallWait : t.tt.recallWait = s.tt.recallWait
  out : t.out = s.out
  mode : t.msc.mode = s.msc.mode
  sweep : t.msc.sweep = s.msc.sweep
  quarantine : t.msc.quarantine.map QuarRec.line = s.msc.quarantine.map QuarRec.line
  regionMap : t.rm = s.rm
  flags : ∀ k, s.ev.flags.getLsbD k = true → t.ev.flags.getLsbD k = true
  entries : ∀ (k : SetIx), ∀ e ∈ t.pd.sets[k.val], e ∈ s.pd.sets[k.val] ∨
    (k = setOf e.line ∧ e.state = .reserved ∧
      ∃ f y, J f ∧ t.txn f = some y ∧ y.work.kind = .hFill ∧ y.line = e.line ∧ y.phase = .memWait)
  untouched : ∀ j, ¬ I j → t.txn j = s.txn j
  txns : ∀ j y, t.txn j = some y → ∃ x, s.txn j = some x ∧ x.Continued y
  hosts : ∀ j x, s.txn j = some x → x.work.isHost = true → (t.txn j).isSome = true
  requesters : ∀ j x p, s.txn j = some x → x.work.port? = some p → s.checksResult x.work.kind p x.line = .ok →
    (t.txn j).isSome = true
  locks : ∀ m, ¬ L m → t.lockOf m = s.lockOf m
  unlocked : ∀ m, s.lockOf m = none → t.lockOf m = none
  waiters : ∀ r ∈ t.tt.locks, ∃ r' ∈ s.tt.locks, r'.line = r.line ∧ ∀ j ∈ r.waiters, j ∈ r'.waiters
  queue : ∀ j ∈ t.pu.queue, j ∈ s.pu.queue
  channel : t.pu.channel = s.pu.channel ∨ t.pu.channel = .idle

theorem State.HostGone.isHeld {s : State} (h : s.HostGone) (l : Line) : s.isHeld l = false := by
  rw [State.isHeld, Option.any_eq_false_iff_get]
  intro he
  rw [h.reserved _ _ (List.mem_of_find?_eq_some (Option.some_get he).symm)]
  rfl

theorem State.HostGone.recallLink {s : State} (h : s.HostGone) : s.recallLink = none := by
  rw [State.recallLink]
  rcases hx : s.txn recallEntry with _ | x
  · rfl
  · exact h.link x hx

theorem State.line_of_findEntry {s : State} {l : Line} {e : DirEntry} (h : s.findEntry l = some e) : e.line = l := by
  rw [State.findEntry] at h
  simpa using List.find?_some h

theorem State.mem_locks_of_lockOf {s : State} {l : Line} {r : LockRec} (h : s.lockOf l = some r) : r ∈ s.tt.locks :=
  List.mem_of_find?_eq_some h

theorem isQuarantined_of_lines {s t : State} (h : t.msc.quarantine.map QuarRec.line = s.msc.quarantine.map QuarRec.line)
    (l : Line) : t.isQuarantined l = s.isQuarantined l := by
  have hany : ∀ q : List QuarRec, (q.any fun r => r.line == l) = (q.map QuarRec.line).any fun m => m == l := fun q => by
    rw [List.any_map]
    rfl
  rw [State.isQuarantined, State.isQuarantined, hany, hany, h]

namespace GoesOn

variable {I J : EntryIx → Prop} {L : Line → Prop} {s t u : State}

theorem refl (s : State) : GoesOn I J L s s where
  hp := rfl
  lockSet _ h := .inl h
  lockSetKept _ h := h
  recallWait := rfl
  out := rfl
  mode := rfl
  sweep := rfl
  quarantine := rfl
  regionMap := rfl
  flags _ h := h
  entries _ _ h := .inl h
  untouched _ _ := rfl
  txns _ y h := ⟨y, h, .refl y⟩
  hosts _ _ h _ := by rw [h]; rfl
  requesters _ _ _ h _ _ := by rw [h]; rfl
  locks _ _ := rfl
  unlocked _ h := h
  waiters r h := ⟨r, h, rfl, fun _ h => h⟩
  queue _ h := h
  channel := .inl rfl

theorem checks (h : GoesOn I J L s t) (k : TxnKind) (p : PortIx) (l : Line) : t.checksResult k p l = s.checksResult k p l := by
  rw [State.checksResult, State.checksResult, h.regionMap, h.mode, isQuarantined_of_lines h.quarantine]

theorem trans (h : GoesOn I J L s t) (h' : GoesOn I J L t u) : GoesOn I J L s u where
  hp := by rw [h'.hp, h.hp]
  lockSet l hl := by
    rcases h'.lockSet l hl with hl | ⟨i, y, hi, hy, hlocked⟩
    · exact h.lockSet l hl
    · obtain ⟨x, hx, hxy⟩ := h.txns i y hy
      exact .inr ⟨i, x, hi, hx, hxy.work ▸ hlocked⟩
  lockSetKept l hl := h'.lockSetKept l (h.lockSetKept l hl)
  recallWait := h'.recallWait.trans h.recallWait
  out := h'.out.trans h.out
  mode := h'.mode.trans h.mode
  sweep := h'.sweep.trans h.sweep
  quarantine := h'.quarantine.trans h.quarantine
  regionMap := h'.regionMap.trans h.regionMap
  flags k hk := h'.flags k (h.flags k hk)
  entries k e he := by
    rcases h'.entries k e he with he | hnew
    · rcases h.entries k e he with he | ⟨hk, hres, f, y, hf, hy, hfill, hline, hphase⟩
      · exact .inl he
      · have hhost : y.work.isHost = true := by
          revert hfill
          cases y.work <;> simp [Work.kind, Work.isHost, Work.issuer]
        obtain ⟨z, hz⟩ := Option.isSome_iff_exists.mp (h'.hosts f y hy hhost)
        obtain ⟨y', hy', hyz⟩ := h'.txns f z hz
        obtain rfl : y = y' := Option.some.inj (hy.symm.trans hy')
        refine .inr ⟨hk, hres, f, z, hf, hz, by rw [hyz.work]; exact hfill, hyz.line.trans hline, ?_⟩
        rcases hyz.phase with hp | hp
        · exact hp.trans hphase
        · exact hp
    · exact .inr hnew
  untouched j hj := (h'.untouched j hj).trans (h.untouched j hj)
  txns j z hz := by
    obtain ⟨y, hy, hyz⟩ := h'.txns j z hz
    obtain ⟨x, hx, hxy⟩ := h.txns j y hy
    exact ⟨x, hx, hxy.trans hyz⟩
  hosts j x hx hhost := by
    obtain ⟨y, hy⟩ := Option.isSome_iff_exists.mp (h.hosts j x hx hhost)
    obtain ⟨x', hx', hxy⟩ := h.txns j y hy
    obtain rfl : x = x' := Option.some.inj (hx.symm.trans hx')
    exact h'.hosts j y hy (hxy.work ▸ hhost)
  requesters j x p hx hp hc := by
    obtain ⟨y, hy⟩ := Option.isSome_iff_exists.mp (h.requesters j x p hx hp hc)
    obtain ⟨x', hx', hxy⟩ := h.txns j y hy
    obtain rfl : x = x' := Option.some.inj (hx.symm.trans hx')
    refine h'.requesters j y p hy (hxy.work ▸ hp) ?_
    rw [h.checks, hxy.work, hxy.line]
    exact hc
  locks m hm := (h'.locks m hm).trans (h.locks m hm)
  unlocked m hm := h'.unlocked m (h.unlocked m hm)
  waiters r hr := by
    obtain ⟨r', hr', hline, hsub⟩ := h'.waiters r hr
    obtain ⟨r'', hr'', hline', hsub'⟩ := h.waiters r' hr'
    exact ⟨r'', hr'', hline'.trans hline, fun j hj => hsub' j (hsub j hj)⟩
  queue j hj := h.queue j (h'.queue j hj)
  channel := by
    rcases h'.channel with hc | hc
    · rw [hc]
      exact h.channel
    · exact .inr hc

/-- The bridge stays without its host side. -/
theorem hostGone (h : GoesOn I J L s t) (hs : s.HostGone) : t.HostGone where
  cycle := by rw [h.hp]; exact hs.cycle
  sweep := by rw [h.sweep]; exact hs.sweep
  recallWait := h.recallWait.trans hs.recallWait
  link y hy := by
    obtain ⟨x, hx, hxy⟩ := h.txns _ y hy
    exact hxy.link (hs.link x hx)
  reserved k e he := by
    rcases h.entries k e he with he | ⟨-, hres, -⟩
    · exact hs.reserved k e he
    · exact hres

/-! ### The updates -/

/-- The event unit changes, no flag going. -/
theorem setEv (s : State) {e : EventUnit} (he : ∀ k, s.ev.flags.getLsbD k = true → e.flags.getLsbD k = true) :
    GoesOn I J L s { s with ev := e } :=
  { (refl s : GoesOn I J L s s) with flags := he }

theorem raise (s : State) (e : Event) : GoesOn I J L s (s.raise e) :=
  setEv s fun k hk => by
    show (s.ev.flags ||| (1#17 <<< e.bit)).getLsbD k = true
    rw [BitVec.getLsbD_or, hk]
    rfl

theorem bump (s : State) (k : Counter) : GoesOn I J L s (s.bump k) := setEv s fun _ h => h

theorem handRecord (s : State) (r : FaultRec) : GoesOn I J L s (s.handRecord r) := by
  rcases s.handRecord_cases r with ⟨-, h⟩ | ⟨-, h⟩ <;> rw [h] <;> exact setEv s fun _ h => h

/-- A transaction changes, its work, its line and its place among the phases kept. -/
theorem modTxn {i : EntryIx} {f : Txn → Txn} (s : State) (hi : I i) (hf : ∀ x : Txn, x.Continued (f x)) :
    GoesOn I J L s (s.modTxn i f) :=
  { (refl s : GoesOn I J L s s) with
    untouched := fun j hj => by
      rw [State.txn_modTxn, if_neg fun h : j = i => hj (h ▸ hi)]
    txns := fun j y hy => by
      rw [State.txn_modTxn] at hy
      split at hy
      · rename_i hji
        obtain ⟨x, hx, rfl⟩ := Option.map_eq_some_iff.mp hy
        exact ⟨x, hji ▸ hx, hf x⟩
      · exact ⟨y, hy, .refl y⟩
    hosts := fun j x hx _ => by rw [State.isSome_modTxn, hx]; rfl
    requesters := fun j x p hx _ _ => by rw [State.isSome_modTxn, hx]; rfl
    entries := fun k e he => .inl he }

/-- An entry is freed whose transaction is neither the host's nor a request that no check refuses. -/
theorem freeEntry {i : EntryIx} (s : State) (hi : I i) (hhost : ∀ x, s.txn i = some x → x.work.isHost = false)
    (hreq : ∀ x p, s.txn i = some x → x.work.port? = some p → s.checksResult x.work.kind p x.line ≠ .ok) :
    GoesOn I J L s (s.freeEntry i) :=
  { (refl s : GoesOn I J L s s) with
    untouched := fun j hj => by
      rw [State.txn_freeEntry, if_neg fun h : j = i => hj (h ▸ hi)]
    txns := fun j y hy => by
      rw [State.txn_freeEntry] at hy
      split at hy
      · nomatch hy
      · exact ⟨y, hy, .refl y⟩
    hosts := fun j x hx hh => by
      have hji : j ≠ i := fun h => by
        rw [hhost x (h ▸ hx)] at hh
        nomatch hh
      rw [State.txn_freeEntry, if_neg hji, hx]
      rfl
    requesters := fun j x p hx hp hc => by
      have hji : j ≠ i := fun h => hreq x p (h ▸ hx) hp hc
      rw [State.txn_freeEntry, if_neg hji, hx]
      rfl
    entries := fun k e he => .inl he }

theorem setWaiting (s : State) (q : List EntryIx) : GoesOn I J L s { s with mp := { s.mp with waiting := q } } :=
  { (refl s : GoesOn I J L s s) with }

theorem setPorts (s : State) (rp : Vector Port 4) : GoesOn I J L s { s with rp := rp } := { (refl s : GoesOn I J L s s) with }

theorem setMg (s : State) (m : Management) : GoesOn I J L s { s with mg := m } := { (refl s : GoesOn I J L s s) with }

theorem setQueue (s : State) {q : List EntryIx} (hq : ∀ j ∈ q, j ∈ s.pu.queue) : GoesOn I J L s (s.setQueue q) :=
  { (refl s : GoesOn I J L s s) with queue := hq }

theorem markLate (s : State) (l : Line) : GoesOn I J L s (s.setQuarantine (markLate l s.msc.quarantine)) :=
  { (refl s : GoesOn I J L s s) with quarantine := markLate_lines l _ }

/-- A set loses entries. -/
theorem dropEntry (s : State) (l : Line) : GoesOn I J L s (s.dropEntry l) := by
  rcases s.dropEntry_cases l with h | h <;> rw [h]
  · exact refl s
  · exact { (refl s : GoesOn I J L s s) with
      entries := fun k e he => by
        by_cases hk : k = setOf l
        · subst hk
          rw [show (s.putSet l _).pd.sets[(setOf l).val] = (s.putSet l _).dirSet l from rfl, State.dirSet_putSet_self] at he
          exact .inl (List.mem_filter.mp he).1
        · rw [State.sets_putSet_ne s l _ k hk] at he
          exact .inl he }

/-- R38: a lock record of a locked line is replaced, its wait list part of the one before. -/
theorem putLock {r : LockRec} {l : Line} (s : State) (hl : L l)
    (hw : ∃ q ∈ s.tt.locks, q.line = l ∧ ∀ j ∈ r.waiters, j ∈ q.waiters) (hr : r.line = l) : GoesOn I J L s (s.putLock r) := by
  obtain ⟨q, hq, hline, hsub⟩ := hw
  exact { (refl s : GoesOn I J L s s) with
    locks := fun m hm => s.lockOf_putLock_ne r fun hmr : m = r.line => hm (hmr.trans hr ▸ hl)
    unlocked := fun m hm => by
      have hmr : m ≠ r.line := fun hmr => by
        rw [State.lockOf, List.find?_eq_none] at hm
        exact hm q hq (beq_iff_eq.mpr (hline.trans (hr.symm.trans hmr.symm)))
      rw [s.lockOf_putLock_ne r hmr]
      exact hm
    waiters := fun v hv => by
      rcases List.mem_cons.mp hv with rfl | hv
      · exact ⟨q, hq, hline.trans hr.symm, hsub⟩
      · exact ⟨v, (List.mem_filter.mp hv).1, rfl, fun _ h => h⟩ }

/-- R107: a line joins the host lock set. -/
theorem joinLockSet {i : EntryIx} {x : Txn} (s : State) (l : Line) (hi : J i) (hx : s.txn i = some x)
    (hlocked : x.work.isLocked = true) :
    GoesOn I J L s { s with hp := { s.hp with lockSet := s.hp.lockSet ++ [l] } } :=
  { (refl s : GoesOn I J L s s) with
    hp := rfl
    lockSet := fun _ hm => (List.mem_append.mp hm).imp id fun _ => ⟨i, x, hi, hx, hlocked⟩
    lockSetKept := fun _ hm => List.mem_append_left _ hm }

/-- R38, R107: a lock whose line is locked passes to an entry of its wait list. -/
theorem takeLock {i : EntryIx} {x : Txn} {l : Line} {ws : List EntryIx} (s : State) (hi : J i) (hl : L l)
    (hx : s.txn i = some x) (hw : ∃ r ∈ s.tt.locks, r.line = l ∧ ∀ j ∈ ws, j ∈ r.waiters) :
    GoesOn I J L s (s.takeLock i x.work l ws) := by
  by_cases hjoins : s.joinsLockSet x.work l = true
  · have hlocked : x.work.isLocked = true := by
      rw [State.joinsLockSet, Bool.and_eq_true, Bool.and_eq_true] at hjoins
      exact hjoins.1.1
    rw [State.takeLock, if_pos hjoins]
    exact (joinLockSet s l hi hx hlocked).trans (putLock _ hl hw rfl)
  · rw [State.takeLock, if_neg hjoins]
    exact putLock s hl hw rfl

theorem dropLock {l : Line} (s : State) (hl : L l) : GoesOn I J L s (s.dropLock l) :=
  { (refl s : GoesOn I J L s s) with
    locks := fun m hm => s.lockOf_dropLock_ne fun hml : m = l => hm (hml ▸ hl)
    unlocked := fun m hm => by
      by_cases hml : m = l
      · rw [hml]
        exact s.lockOf_dropLock_self l
      · rw [s.lockOf_dropLock_ne hml]
        exact hm
    waiters := fun q hq => ⟨q, (List.mem_filter.mp hq).1, rfl, fun _ h => h⟩ }

/-! ### Lookups -/

theorem loadWrite (x : Txn) : x.Continued { x.loadWrite with phase := .memWait } := by
  unfold Txn.loadWrite
  split
  · split <;> exact ⟨rfl, rfl, id, .inr rfl, id⟩
  · exact ⟨rfl, rfl, id, .inr rfl, id⟩

theorem toMemWait {i : EntryIx} (s : State) (hi : I i) : GoesOn I J L s (s.toMemWait i) :=
  (modTxn s hi loadWrite).trans (setWaiting _ _)

theorem declineFill {f : EntryIx} (s : State) (hf : I f) : GoesOn I J L s (s.declineFill f) :=
  (bump s .declinedFills).trans (toMemWait _ hf)

/-- R9, R10: a set gains an entry of a host fill's line, which then waits for memory. -/
theorem reserve {f : EntryIx} {x : Txn} {es : List DirEntry} (s : State) (hi : I f) (hj : J f) (hx : s.txn f = some x)
    (hfill : x.work.kind = .hFill)
    (hes : ∀ e ∈ es, e ∈ s.dirSet x.line ∨ (e.line = x.line ∧ e.state = .reserved)) :
    GoesOn I J L s ((s.putSet x.line es).toMemWait f) :=
  { (toMemWait s hi : GoesOn I J L s (s.toMemWait f)) with
    entries := fun k e he => by
      by_cases hk : k = setOf x.line
      · subst hk
        have he' : e ∈ es := by
          rw [← s.dirSet_putSet_self x.line es]
          exact he
        rcases hes e he' with hold | ⟨hline, hres⟩
        · exact .inl hold
        · refine .inr ⟨by rw [hline], hres, f, { x.loadWrite with phase := .memWait }, hj, ?_, ?_, ?_, rfl⟩
          · rw [State.txn_toMemWait, if_pos rfl, show (s.putSet x.line es).txn f = some x from hx]
            rfl
          · rw [(loadWrite x).work]
            exact hfill
          · exact (loadWrite x).line.trans hline.symm
      · have he' : e ∈ (s.putSet x.line es).pd.sets[k.val] := he
        rw [State.sets_putSet_ne s x.line es k hk] at he'
        exact .inl he' }

theorem decideFill {f : EntryIx} {x : Txn} (hs : s.HostGone) (hi : I f) (hj : J f) (hx : s.txn f = some x)
    (hfill : x.work.kind = .hFill) (a : Attr) : GoesOn I J L s (s.decideFill f x.line a) := by
  unfold State.decideFill
  split
  · exact declineFill s hi
  · split
    · exact declineFill s hi
    · rename_i p _
      split
      · rename_i hhas
        obtain ⟨e, he⟩ := Option.isSome_iff_exists.mp hhas
        rw [State.reReserve, he]
        exact reserve s hi hj hx hfill fun e' he' => by
          rcases List.mem_cons.mp he' with rfl | he'
          · exact .inr ⟨(State.line_of_findEntry he : e.line = x.line), rfl⟩
          · exact .inl (List.mem_filter.mp he').1
      · split
        · rename_i w _
          rcases State.insertEntry_cases x.line w p s with ⟨-, h⟩ | h <;> rw [h]
          · exact reserve s hi hj hx hfill fun e' he' => by
              rcases List.mem_cons.mp he' with rfl | he'
              · exact .inr ⟨rfl, rfl⟩
              · exact .inl he'
          · exact toMemWait s hi
        · split
          · exact declineFill s hi
          · have hnone : s.victim x.line = none := by
              rw [State.victim, List.find?_eq_none]
              intro e he
              rw [hs.reserved _ e (List.mem_reverse.mp he)]
              nofun
            rw [hnone]
            exact declineFill s hi

theorem lookupEvict {i : EntryIx} (hs : s.HostGone) (hi : I i) (l : Line) : GoesOn I J L s (s.lookupEvict i l) := by
  let s1 := s.modTxn i fun t => { t with dirResult := some (s.dirResult l) }
  have h1 : GoesOn I J L s s1 := modTxn s hi fun _ => ⟨rfl, rfl, id, .inl rfl, id⟩
  have hdeaf : s1.Deaf := .inl (h1.hostGone hs).sweep
  have hdrop : GoesOn I J L s (s1.removeEntry l) := by
    rw [hdeaf.removeEntry]
    exact h1.trans (dropEntry s1 l)
  unfold State.lookupEvict
  dsimp only
  split
  · have hq : (s1.removeEntry l).msc.quarantine = s1.msc.quarantine := by
      rw [hdeaf.removeEntry]
      rcases s1.dropEntry_cases l with h | h <;> rw [h]
      rfl
    have hlate := markLate (I := I) (J := J) (L := L) (s1.removeEntry l) l
    rw [hq] at hlate
    exact ((hdrop.trans hlate).trans (raise _ _)).trans (toMemWait _ hi)
  · split
    · exact hdrop.trans (toMemWait _ hi)
    · exact (h1.trans (bump _ _)).trans (toMemWait _ hi)

theorem reportRefusal (s : State) (x : Txn) (code : ResultCode) : GoesOn I J L s (s.reportRefusal x code) := by
  have hreport : ∀ k, GoesOn I J L s (s.reportError (x.record k)) := fun k => (raise s _).trans (handRecord _ _)
  unfold State.reportRefusal
  split
  · exact hreport _
  · exact hreport _
  · exact refl s

/-- R92, R133: a request that a check refuses is answered, and its entry freed. -/
theorem respond {i : EntryIx} {x : Txn} {p : PortIx} (s : State) (hi : I i) (hx : s.txn i = some x)
    (hp : x.work.port? = some p) (hc : s.checksResult x.work.kind p x.line ≠ .ok) (code : ResultCode) :
    GoesOn I J L s (s.respond i code) := by
  obtain ⟨-, hhost, -, -, htag, -⟩ := Work.requester_spec hp
  obtain ⟨g, hg⟩ := Option.isSome_iff_exists.mp htag
  rw [State.respond_of_requester hx hp hg]
  refine (setPorts s _).trans (freeEntry _ hi (fun y hy => ?_) fun y q hy hq => ?_)
  · obtain rfl : x = y := Option.some.inj (hx.symm.trans hy)
    exact hhost
  · obtain rfl : x = y := Option.some.inj (hx.symm.trans hy)
    obtain rfl : p = q := Option.some.inj (hp.symm.trans hq)
    exact hc

theorem lookup {i : EntryIx} (hs : s.HostGone) (hi : I i) (hj : J i) : GoesOn I J L s (s.lookup i).state := by
  rcases hx : s.txn i with _ | x
  · rw [State.lookup, hx]
    exact refl s
  · rcases hp : x.work.port? with _ | p
    · rw [State.lookup, hx]
      dsimp only
      split
      · rename_i hw
        let y : Txn := { x with snapshot := some (s.rm.resolve x.line), dirResult := some (s.dirResult x.line) }
        have h1 : GoesOn I J L s (s.modTxn i fun t =>
            { t with snapshot := some (s.rm.resolve x.line), dirResult := some (s.dirResult t.line) }) :=
          modTxn s hi fun _ => ⟨rfl, rfl, id, .inl rfl, id⟩
        exact h1.trans (decideFill (x := y) (h1.hostGone hs) hi hj (State.txnBecomes_modTxn hx _).1
          (by rw [show y.work = _ from hw]; rfl) _)
      · exact lookupEvict hs hi x.line
      · exact toMemWait s hi
      · exact toMemWait s hi
      · exact toMemWait s hi
      · exact toMemWait s hi
      all_goals first | exact refl s | (rename_i hw; rw [hw] at hp; nomatch hp)
    · by_cases hc : s.checksResult x.work.kind p x.line = .ok
      · have hheld : s.isHeld x.line = false := hs.isHeld x.line
        rw [State.lookup_of_noProbe hx hp hc (.inr (.inr (.inl hheld)))]
        exact (modTxn s hi fun _ => ⟨rfl, rfl, id, .inl rfl, id⟩ : GoesOn I J L s (s.lookedAt i x.line)).trans (toMemWait _ hi)
      · rw [State.lookup_of_refused hx hp hc]
        have h1 : GoesOn I J L s (s.reportRefusal x (s.checksResult x.work.kind p x.line)) := reportRefusal s x _
        have hx' : (s.reportRefusal x (s.checksResult x.work.kind p x.line)).txn i = some x := by
          rw [(reportRefusal (I := fun _ => False) (J := J) (L := L) s x _).untouched i nofun]
          exact hx
        exact h1.trans (respond _ hi hx' hp (by rw [h1.checks]; exact hc) _)

/-! ### Locks handed on -/

/-- R38: a line's lock passes along a part of its wait list. -/
theorem handOff {l : Line} {ws : List EntryIx} (hs : s.HostGone) (hi : ∀ i ∈ ws, I i) (hj : ∀ i ∈ ws, J i) (hl : L l)
    (hw : ∃ r ∈ s.tt.locks, r.line = l ∧ ∀ j ∈ ws, j ∈ r.waiters) : GoesOn I J L s (s.handOff l ws) := by
  induction ws generalizing s with
  | nil => exact dropLock s hl
  | cons i rest ih =>
    have hirest : ∀ j ∈ rest, I j := fun j hj => hi j (List.mem_cons_of_mem i hj)
    have hjrest : ∀ i' ∈ rest, J i' := fun i' hi' => hj i' (List.mem_cons_of_mem i hi')
    rw [State.handOff]
    split
    · obtain ⟨r, hr, hline, hsub⟩ := hw
      exact ih hs hirest hjrest ⟨r, hr, hline, fun j hj => hsub j (List.mem_cons_of_mem i hj)⟩
    · rename_i x hx
      obtain ⟨r, hr, hline, hsub⟩ := hw
      have htake : GoesOn I J L s (s.takeLock i x.work l rest) :=
        takeLock s (hj i List.mem_cons_self) hl hx ⟨r, hr, hline, fun j hj => hsub j (List.mem_cons_of_mem i hj)⟩
      have hv := htake.hostGone hs
      obtain ⟨h, hlock⟩ : ∃ h, (s.takeLock i x.work l rest).lockOf l = some { line := l, holder := h, waiters := rest } := by
        rcases s.takeLock_cases i x.work l rest with h | ⟨-, -, h⟩ <;> rw [h]
        · exact ⟨_, State.lockOf_putLock_self s _⟩
        · exact ⟨_, State.lockOf_putLock_self { s with hp := { s.hp with lockSet := s.hp.lockSet ++ [l] } } _⟩
      have hlook : GoesOn I J L s ((s.takeLock i x.work l rest).lookup i).state :=
        htake.trans (lookup hv (hi i List.mem_cons_self) (hj i List.mem_cons_self))
      have hgone := hlook.hostGone hs
      dsimp only
      split
      · rw [State.Deaf.wakeSweep (.inl hgone.sweep)]
        have hkept : ((s.takeLock i x.work l rest).lookup i).state.lockOf l = some { line := l, holder := h, waiters := rest } :=
          ((lookup (L := fun _ => False) hv (hi i List.mem_cons_self) (hj i List.mem_cons_self)).locks l nofun).trans hlock
        exact hlook.trans (ih hgone hirest hjrest
          ⟨_, State.mem_locks_of_lockOf hkept, rfl, fun _ h => h⟩)
      · exact hlook

/-- R36, R38: the release of a line's lock. -/
theorem releaseLock {i : EntryIx} {l : Line} (hs : s.HostGone)
    (h : ∀ r, s.lockOf l = some r → r.holder = .txn i → (∀ j ∈ r.waiters, I j ∧ J j) ∧ L l) :
    GoesOn I J L s (s.releaseLock i l) := by
  rw [State.releaseLock]
  split
  · rename_i r hr
    split
    · rename_i hholder
      obtain ⟨hwaiters, hl⟩ := h r hr hholder
      rw [State.Deaf.hearRelease (.inl hs.sweep)]
      exact handOff hs (fun j hj => (hwaiters j hj).1) (fun j hj => (hwaiters j hj).2) hl
        ⟨r, State.mem_locks_of_lockOf hr, State.line_of_lockOf hr, fun _ h => h⟩
    · exact refl s
  · exact refl s

/-- R38, R44: the host lock set gives up a line. -/
theorem giveUpLine {l : Line} (hs : s.HostGone)
    (h : ∀ r, s.lockOf l = some r → r.holder = .hostSet → (∀ j ∈ r.waiters, I j ∧ J j) ∧ L l) :
    GoesOn I J L s (s.giveUpLine l) := by
  rw [State.giveUpLine]
  split
  · rename_i r hr
    split
    · rename_i hholder
      obtain ⟨hwaiters, hl⟩ := h r hr hholder
      rw [State.Deaf.wakeSweep (.inl hs.sweep)]
      exact handOff hs (fun j hj => (hwaiters j hj).1) (fun j hj => (hwaiters j hj).2) hl
        ⟨r, State.mem_locks_of_lockOf hr, State.line_of_lockOf hr, fun _ h => h⟩
    · exact refl s
  · exact refl s

/-- R50: a lock of the emptied set comes to an abandoned transaction, or is given up. -/
theorem giveUpLineAtHrst {l : Line} (hs : s.HostGone)
    (h : ∀ r, s.lockOf l = some r → r.holder = .hostSet → (∀ j ∈ r.waiters, I j ∧ J j) ∧ L l) :
    GoesOn I J L s (s.giveUpLineAtHrst l) := by
  rw [State.giveUpLineAtHrst]
  split
  · rename_i i r _ hr
    split
    · rename_i hholder
      obtain ⟨-, hl⟩ := h r hr hholder
      have hline := State.line_of_lockOf hr
      exact putLock s hl ⟨r, State.mem_locks_of_lockOf hr, hline, fun _ h => h⟩ hline
    · exact refl s
  · exact giveUpLine hs h

/-! ### Transactions in a probe phase -/

theorem removeProbed (hs : s.HostGone) (i : EntryIx) (l : Line) : GoesOn I J L s (s.removeProbed i l) := by
  rw [State.Deaf.removeProbed (.inl hs.sweep) (.inr hs.recallLink)]
  exact dropEntry s l

/-- R64, R65: the write-back data has been taken. -/
theorem dataTaken {i : EntryIx} (hs : s.HostGone) (hi : I i) : GoesOn I J L s (s.dataTaken i) := by
  have hwork : ∀ x : Txn, x.Continued { x.workOnData with wbTimer := none } := fun x => by
    rw [Txn.workOnData_frame x]
    exact ⟨rfl, rfl, id, .inl rfl, id⟩
  rw [State.dataTaken]
  split
  · exact refl s
  · rename_i x hx
    dsimp only
    split
    · exact ((removeProbed hs i x.line).trans (modTxn _ hi hwork)).trans (toMemWait _ hi)
    · exact (modTxn s hi hwork).trans (toMemWait _ hi)

/-- R36, R174: a RECALL ends. -/
theorem endRecall (hs : s.HostGone) (hi : I recallEntry)
    (h : ∀ x r, s.txn recallEntry = some x → x.work.isRecall = true → s.lockOf x.line = some r → r.holder = .txn recallEntry →
      (∀ j ∈ r.waiters, I j ∧ J j) ∧ L x.line) : GoesOn I J L s s.endRecall := by
  rw [State.endRecall]
  split
  · exact refl s
  · rename_i x hx
    split
    · rename_i hrecall
      have hfree : GoesOn I J L s (s.freeEntry recallEntry) := by
        refine freeEntry s hi (fun y hy => ?_) fun y p hy hp => ?_
        all_goals obtain rfl : x = y := Option.some.inj (hx.symm.trans hy)
        · revert hrecall
          cases x.work <;> simp [Work.isRecall, Work.isHost, Work.issuer]
        · rw [(Work.requester_spec hp).2.2.1] at hrecall
          nomatch hrecall
      have hrelease : GoesOn I J L s ((s.freeEntry recallEntry).releaseLock recallEntry x.line) :=
        hfree.trans (releaseLock (hfree.hostGone hs) fun r hr hholder => h x r hx hrecall hr hholder)
      rw [State.giveEntry11_of_stopped (hrelease.hostGone hs).sweep (hrelease.hostGone hs).recallWait]
      exact hrelease
    · exact refl s

/-- R137, R138: the drain of a port. -/
theorem drainPort (s : State) (p : PortIx) : GoesOn I J L s (s.drainPort p) := by
  rw [State.drainPort]
  split
  · obtain ⟨rp, h⟩ := State.drainQueue_frame p (s.port p).ingress s
    dsimp only
    rw [h]
    split
    · rw [State.endLongOperation_eq]
      exact (((setPorts s rp).trans (setPorts _ _)).trans (raise _ .portDrained)).trans (setMg _ _)
    · exact setPorts s rp
  · exact refl s

end GoesOn

/-! ### Everything that HRST may still touch -/

/-- The entries that wait for the lines in `L` may be touched and looked up. -/
structure State.Passing (s : State) (I J : EntryIx → Prop) (L : Line → Prop) : Prop where
  gone : s.HostGone
  waiters : ∀ r ∈ s.tt.locks, L r.line → ∀ j ∈ r.waiters, I j ∧ J j

theorem State.Passing.goesOn {s t : State} {I J I' J' : EntryIx → Prop} {L L' : Line → Prop} (hs : s.Passing I J L)
    (h : GoesOn I' J' L' s t) : t.Passing I J L where
  gone := h.hostGone hs.gone
  waiters r hr hl j hj := by
    obtain ⟨r', hr', hline, hsub⟩ := h.waiters r hr
    exact hs.waiters r' hr' (hline ▸ hl) j (hsub j hj)

theorem State.Passing.of_lockOf {s : State} {I J : EntryIx → Prop} {L : Line → Prop} (hs : s.Passing I J L) {l : Line}
    {r : LockRec} (hr : s.lockOf l = some r) (hl : L l) : ∀ j ∈ r.waiters, I j ∧ J j :=
  hs.waiters r (State.mem_locks_of_lockOf hr) (State.line_of_lockOf hr ▸ hl)

/-- The entries in `I` are all that the rest of HRST may touch, those in `J` all it may look up, and the lines in `L` all whose
locks entry 11 may pass on. -/
structure State.OpenTo (s : State) (I J : EntryIx → Prop) (L : Line → Prop) : Prop extends s.Passing I J L where
  queue : ∀ j ∈ s.pu.queue, I j
  channel : ∀ j l m n, s.pu.channel = .outstanding j l m n → I j
  probing : ∀ j x, s.txn j = some x → x.phase = .probing ∨ x.phase = .wbWait → I j
  entry11 : I recallEntry
  locks : ∀ x r, s.txn recallEntry = some x → x.work.isRecall = true → s.lockOf x.line = some r →
    r.holder = .txn recallEntry → L x.line

namespace State.OpenTo

variable {I J : EntryIx → Prop} {L : Line → Prop} {s t : State}

theorem goesOn (hs : s.OpenTo I J L) (h : GoesOn I J L s t) : t.OpenTo I J L where
  toPassing := hs.toPassing.goesOn h
  queue j hj := hs.queue j (h.queue j hj)
  channel j l m n hc := by
    rcases h.channel with h' | h'
    · exact hs.channel j l m n (h' ▸ hc)
    · rw [h'] at hc
      nomatch hc
  probing j y hy hphase := by
    obtain ⟨x, hx, hxy⟩ := h.txns j y hy
    refine hs.probing j x hx ?_
    rcases hxy.phase with hp | hp <;> rw [hp] at hphase
    · exact hphase
    · rcases hphase with hp | hp <;> nomatch hp
  entry11 := hs.entry11
  locks y r hy hrecall hr hholder := by
    obtain ⟨x, hx, hxy⟩ := h.txns _ y hy
    rw [hxy.work] at hrecall
    rw [hxy.line] at hr ⊢
    by_contra hl
    rw [h.locks x.line hl] at hr
    exact hl (hs.locks x r hx hrecall hr hholder)

theorem endRecall (hs : s.OpenTo I J L) : GoesOn I J L s s.endRecall :=
  GoesOn.endRecall hs.gone hs.entry11 fun x r hx hrecall hr hholder =>
    ⟨hs.of_lockOf hr (hs.locks x r hx hrecall hr hholder), hs.locks x r hx hrecall hr hholder⟩

theorem goOnWithoutData {i : EntryIx} (hs : s.OpenTo I J L) (hi : I i) : GoesOn I J L s (s.goOnWithoutData i) := by
  rw [State.goOnWithoutData]
  split
  · exact GoesOn.refl s
  · split
    · exact hs.endRecall
    · exact GoesOn.toMemWait s hi

theorem afterMiss {i : EntryIx} (hs : s.OpenTo I J L) (hi : I i) (b : Bool) : GoesOn I J L s (s.afterMiss i b) := by
  rw [State.afterMiss]
  split
  · exact GoesOn.refl s
  · split
    · have h := GoesOn.removeProbed (I := I) (J := J) (L := L) hs.gone i
      exact (h _).trans ((hs.goesOn (h _)).goOnWithoutData hi)
    · exact hs.goOnWithoutData hi

theorem loseWriteback {i : EntryIx} (hs : s.OpenTo I J L) (hi : I i) (x : Txn) : GoesOn I J L s (s.loseWriteback i x) := by
  have h : GoesOn I J L s ((s.handRecord (x.record .writebackLost)).modTxn i fun t => { t with wbTimer := none }) :=
    (GoesOn.handRecord s _).trans (GoesOn.modTxn _ hi fun _ => ⟨rfl, rfl, id, .inl rfl, id⟩)
  exact h.trans ((hs.goesOn h).afterMiss hi true)

theorem settleProbing (hs : s.OpenTo I J L) (a : Option EntryIx) (i : EntryIx) : GoesOn I J L s (s.settleProbing a i) := by
  rw [State.settleProbing]
  split
  · exact GoesOn.refl s
  · rename_i x hx
    split
    · rename_i hp
      have hi := hs.probing i x hx (.inl hp)
      split
      · exact GoesOn.dataTaken hs.gone hi
      · split
        · exact hs.loseWriteback hi x
        · exact hs.afterMiss hi true
    · rename_i hp
      exact hs.loseWriteback (hs.probing i x hx (.inr hp)) x
    all_goals exact GoesOn.refl s

theorem foldl {α : Type} {f : State → α → State} (hf : ∀ {s}, s.OpenTo I J L → ∀ a, GoesOn I J L s (f s a)) (as : List α)
    (hs : s.OpenTo I J L) : GoesOn I J L s (as.foldl f s) := by
  induction as generalizing s with
  | nil => exact GoesOn.refl s
  | cons a as ih => exact (hf hs a).trans (ih (hs.goesOn (hf hs a)))

theorem dropProbe (hs : s.OpenTo I J L) : GoesOn I J L s s.dropProbe := by
  rw [State.dropProbe]
  split
  · rename_i i l m n hc
    have h : GoesOn I J L s (s.setChannel .idle) := { (GoesOn.refl s : GoesOn I J L s s) with channel := .inr rfl }
    exact h.trans (GoesOn.modTxn _ (hs.channel i l m n hc) fun _ => ⟨rfl, rfl, id, .inl rfl, id⟩)
  · exact GoesOn.refl s
  · exact GoesOn.refl s

/-- R58: with no HELD entry every member of the probe queue is skipped. -/
theorem pumpProbes (hs : s.OpenTo I J L) (n : Nat) : GoesOn I J L s (s.pumpProbes n) := by
  induction n generalizing s with
  | zero => exact GoesOn.refl s
  | succ n ih =>
    rw [State.pumpProbes]
    split
    · exact GoesOn.refl s
    · split
      · exact GoesOn.refl s
      · rename_i i rest hq
        have h1 : GoesOn I J L s (s.setQueue rest) := GoesOn.setQueue s fun j hj => hq ▸ List.mem_cons_of_mem i hj
        have hs1 := hs.goesOn h1
        have hi : I i := hs.queue i (hq ▸ List.mem_cons_self)
        dsimp only
        split
        · exact h1.trans (ih hs1)
        · rename_i x _
          rw [if_neg (by rw [hs1.gone.isHeld]; nofun)]
          have hlink : (if x.work.isRecall then (s.setQueue rest).declineLinked else s.setQueue rest) = s.setQueue rest := by
            rw [State.declineLinked, hs1.gone.recallLink]
            exact ite_self _
          rw [hlink]
          have h2 := hs1.goOnWithoutData hi
          exact (h1.trans h2).trans (ih (hs1.goesOn h2))

theorem settle (hs : s.OpenTo I J L) : GoesOn I J L s s.settle := by
  rw [State.settle, State.giveEntry11_of_stopped hs.gone.sweep hs.gone.recallWait]
  have h := hs.pumpProbes pumpBound
  exact h.trans (foldl (fun _ p => GoesOn.drainPort _ p) _ (hs.goesOn h))

end State.OpenTo

end Sys2Proof.Machine
end

section
/-! SUPPORT. The assertion of HRST, part by part (R26, R50, R78, R117), and what it leaves of the host side. -/

set_option Elab.async false

namespace Sys2Proof.Machine

/-! ### The host side and the directory dropped -/

/-- R26, R94, R117, R177: HRST up to the host's transactions. -/
def State.hostDropped (s : State) : State :=
  (((s.clearOut.setHrst true).raise .hostReset).dropHostSide).dropDirectory

/-- R117, R176: the flags of HRST, of a sweep that ends with the directory empty among them. -/
def State.hrstFlags (s : State) : BitVec 17 :=
  0x400#17 ||| if s.msc.sweep.phase = .stopped then 0#17
    else if s.msc.sweep.origin = .setMode then 0x2800#17 else 0x800#17

/-- R26, R176: what a running sweep's end leaves with the directory empty. -/
def State.sweepDropped (s : State) : State :=
  { s.clearDirectory with
    msc := { s.msc with
      mode := if s.msc.sweep.phase ≠ .stopped ∧ s.msc.sweep.origin = .setMode then .pass else s.msc.mode
      sweep := s.msc.sweep.ended 0 }
    ev := { s.ev with flags := s.ev.flags ||| if s.msc.sweep.phase = .stopped then 0#17
      else if s.msc.sweep.origin = .setMode then 0x2800#17 else 0x800#17 }
    mg := if s.msc.sweep.phase = .stopped then s.mg else s.mg.operationEnded }

theorem State.entryCount_clearDirectory (s : State) : s.clearDirectory.entryCount = 0 := by
  rw [State.entryCount, State.clearDirectory_pd_sets, Vector.toList_replicate, List.map_replicate, List.sum_replicate]
  exact Nat.mul_zero 256

theorem State.endSweep_clearDirectory (s : State) :
    (if s.clearDirectory.sweeping then s.clearDirectory.endSweep else s.clearDirectory) = s.sweepDropped := by
  by_cases hstop : s.msc.sweep.phase = .stopped
  · have hno : s.clearDirectory.sweeping = false := by
      rw [State.sweeping, show s.clearDirectory.msc.sweep.phase = .stopped from hstop]
      rfl
    rw [if_neg (by rw [hno]; nofun), State.sweepDropped, if_neg fun h => h.1 hstop, if_pos hstop, if_pos hstop,
      Sweep.ended, if_pos hstop, BitVec.or_zero]
    rfl
  · have hyes : s.clearDirectory.sweeping = true := bne_iff_ne.mpr hstop
    rw [if_pos hyes, State.endSweep_eq (s := s.clearDirectory) hstop, s.entryCount_clearDirectory, State.sweepDropped,
      if_neg hstop, if_neg hstop]
    by_cases horigin : s.msc.sweep.origin = .setMode
    · rw [if_pos (show s.msc.sweep.phase ≠ .stopped ∧ s.msc.sweep.origin = .setMode from ⟨hstop, horigin⟩), if_pos horigin,
        if_pos (show s.clearDirectory.msc.sweep.origin = .setMode ∧ 0 = 0 from ⟨horigin, rfl⟩),
        if_neg (show ¬ s.clearDirectory.msc.sweep.origin ≠ .setMode from not_not_intro horigin), if_pos rfl]
      rfl
    · rw [if_neg (show ¬ (s.msc.sweep.phase ≠ .stopped ∧ s.msc.sweep.origin = .setMode) from fun h => horigin h.2),
        if_neg horigin, if_neg (show ¬ (s.clearDirectory.msc.sweep.origin = .setMode ∧ 0 = 0) from fun h => horigin h.1),
        if_pos (show s.clearDirectory.msc.sweep.origin ≠ .setMode from horigin)]
      rfl

theorem State.hostDropped_eq_clearLink (s : State) : s.hostDropped =
    State.clearLink { (((s.clearOut.setHrst true).raise .hostReset).dropHostSide).sweepDropped with
      tt := { (((s.clearOut.setHrst true).raise .hostReset).dropHostSide).sweepDropped.tt with recallWait := [] } } := by
  rw [State.hostDropped, State.dropDirectory]
  dsimp only
  rw [State.endSweep_clearDirectory]

theorem State.hostDropped_eq (s : State) : s.hostDropped = { s with
    pd := { s.pd with sets := Vector.replicate 256 [] }
    tt := { s.tt with entries := s.hostDropped.tt.entries, recallWait := [] }
    hp := { s.hp with cycle := none, lockTimer := none, broken := false, lastLocked := none }
    msc := { s.msc with
      mode := if s.msc.sweep.phase ≠ .stopped ∧ s.msc.sweep.origin = .setMode then .pass else s.msc.mode
      sweep := s.msc.sweep.ended 0 }
    ev := { s.ev with flags := s.ev.flags ||| s.hrstFlags }
    mg := if s.msc.sweep.phase = .stopped then s.mg else s.mg.operationEnded
    pins := { s.pins with hrstAsserted := true }
    out := [] } := by
  rw [s.hostDropped_eq_clearLink, State.hrstFlags, ← BitVec.or_assoc]
  rfl

theorem State.txn_hostDropped (s : State) (j : EntryIx) : s.hostDropped.txn j =
    (s.txn j).map fun x => if j = recallEntry then { x.timerStarted s.pu.wbLimit.toNat with link := none }
      else x.timerStarted s.pu.wbLimit.toNat := by
  have htimers : State.txn { (((s.clearOut.setHrst true).raise .hostReset).dropHostSide).sweepDropped with
      tt := { (((s.clearOut.setHrst true).raise .hostReset).dropHostSide).sweepDropped.tt with recallWait := [] } } j =
      (s.txn j).map (Txn.timerStarted s.pu.wbLimit.toNat) := State.txn_endCycle_eq ((s.clearOut.setHrst true).raise .hostReset) j
  rw [s.hostDropped_eq_clearLink, State.clearLink, State.txn_modTxn]
  by_cases hj : j = recallEntry
  · rw [if_pos hj, ← hj, htimers, Option.map_map]
    simp only [hj, if_true]
    rfl
  · rw [if_neg hj, htimers]
    simp only [hj, if_false]

theorem State.hostGone_hostDropped (s : State) : s.hostDropped.HostGone where
  cycle := by rw [s.hostDropped_eq]
  sweep := by
    rw [s.hostDropped_eq]
    show (s.msc.sweep.ended 0).phase = .stopped
    rw [Sweep.ended]
    split
    · assumption
    · rfl
  recallWait := by rw [s.hostDropped_eq]
  link x hx := by
    rw [s.txn_hostDropped] at hx
    obtain ⟨y, -, rfl⟩ := Option.map_eq_some_iff.mp hx
    rfl
  reserved k e he := by
    rw [s.hostDropped_eq, Vector.getElem_replicate] at he
    nomatch he

/-! ### The host's transactions withdrawn -/

theorem State.HostGone.removeReserved {s : State} (h : s.HostGone) (l : Line) : s.removeReserved l = s.dropEntry l := by
  rw [State.Deaf.removeReserved (.inl h.sweep)]
  split
  · rfl
  · rename_i hno
    refine (if_neg fun hhas => hno ?_).symm
    obtain ⟨e, he⟩ := Option.isSome_iff_exists.mp hhas
    rw [State.isReserved, he]
    exact beq_iff_eq.mpr (h.reserved _ e (List.mem_of_find?_eq_some he))

/-- R18: a withdrawn fill's entry goes; no list and no link names it. -/
theorem State.HostGone.withdrawFill {s : State} (h : s.HostGone) (i : EntryIx) (x : Txn) :
    s.withdrawFill i x = if x.work.kind = .hFill then s.dropEntry x.line else s := by
  rw [State.withdrawFill]
  split
  · have hgone := (GoesOn.dropEntry (I := fun _ => True) (J := fun _ => True) (L := fun _ => True) s x.line).hostGone h
    have hsame : { s.dropEntry x.line with tt := { (s.dropEntry x.line).tt with recallWait := [] } } = s.dropEntry x.line := by
      rw [← show (s.dropEntry x.line).tt.recallWait = [] from hgone.recallWait]
    dsimp only
    rw [h.removeReserved, hgone.recallWait, List.filter_nil, hsame, hgone.recallLink]
    exact if_neg nofun
  · rfl

/-- What becomes of entry `i` of the host's as HRST takes it. -/
inductive Leaves (I J : EntryIx → Prop) (L : Line → Prop) (i : EntryIx) (s : State) : State → Prop where
  | stays {t} (h : GoesOn I J L s t) (hno : ∀ x, s.txn i = some x → x.work.isHost = false) : Leaves I J L i s t
  | abandoned {v x} (h : GoesOn I J L s v) (hx : s.txn i = some x) (hv : v.txn i = some x) (hhost : x.work.isHost = true)
      (hphase : x.phase = .memBusy) : Leaves I J L i s (v.modTxn i fun t => { t with abandoned := true })
  | freed {v x t} (h : GoesOn I J L s v) (hx : s.txn i = some x) (hv : v.txn i = some x) (hhost : x.work.isHost = true)
      (hphase : x.phase ≠ .memBusy)
      (hentry : x.work.kind = .hFill → x.phase = .memWait → ∀ e ∈ v.dirSet x.line, e.line ≠ x.line) (hrest : GoesOn I J L (v.freeEntry i) t) : Leaves I J L i s t

theorem State.HostGone.freeEntry {s : State} (h : s.HostGone) (i : EntryIx) : (s.freeEntry i).HostGone :=
  { h with
    link := fun x hx => by
      rw [State.txn_freeEntry] at hx
      split at hx
      · nomatch hx
      · exact h.link x hx }

theorem State.OpenTo.freeEntry {s : State} {I J : EntryIx → Prop} {L : Line → Prop} (hs : s.OpenTo I J L) (i : EntryIx) :
    (s.freeEntry i).OpenTo I J L := by
  have hold : ∀ {j x}, (s.freeEntry i).txn j = some x → s.txn j = some x := fun {j x} hx => by
    rw [State.txn_freeEntry] at hx
    split at hx
    · nomatch hx
    · exact hx
  exact { hs with
    gone := hs.gone.freeEntry i
    probing := fun j x hx => hs.probing j x (hold hx)
    locks := fun x r hx => hs.locks x r (hold hx) }

theorem State.OpenTo.abandon {s : State} {I J : EntryIx → Prop} {L : Line → Prop} (hs : s.OpenTo I J L) (i : EntryIx) :
    (s.modTxn i fun t => { t with abandoned := true }).OpenTo I J L := by
  have hold : ∀ {j x}, (s.modTxn i fun t => { t with abandoned := true }).txn j = some x →
      ∃ y, s.txn j = some y ∧ x.work = y.work ∧ x.line = y.line ∧ x.phase = y.phase ∧ x.link = y.link := fun {j x} hx => by
    rw [State.txn_modTxn] at hx
    split at hx
    · rename_i hji
      obtain ⟨y, hy, rfl⟩ := Option.map_eq_some_iff.mp hx
      exact ⟨y, hji ▸ hy, rfl, rfl, rfl, rfl⟩
    · exact ⟨x, hx, rfl, rfl, rfl, rfl⟩
  exact { hs with
    gone := { hs.gone with
      link := fun x hx => by
        obtain ⟨y, hy, -, -, -, hlink⟩ := hold hx
        rw [hlink]
        exact hs.gone.link y hy }
    probing := fun j x hx => by
      obtain ⟨y, hy, -, -, hphase, -⟩ := hold hx
      rw [hphase]
      exact hs.probing j y hy
    locks := fun x r hx => by
      obtain ⟨y, hy, hwork, hline, -, -⟩ := hold hx
      rw [hwork, hline]
      exact hs.locks y r hy }

/-- R49, R50: what becomes of an entry of the host's, by its phase. -/
theorem State.Passing.abandonHost {s : State} {I J : EntryIx → Prop} {L : Line → Prop} (hs : s.Passing I J L) (i : EntryIx)
    (hL : ∀ x, s.txn i = some x → x.work.isHost = true → (x.phase = .lockWait → L x.line) ∧
      ∀ r, s.lockOf x.line = some r → r.holder = .txn i → L x.line) : Leaves I J L i s (s.abandonHost i) := by
  rcases hx : s.txn i with _ | x
  · rw [State.abandonHost, hx, if_neg nofun]
    exact .stays (GoesOn.refl s) fun x h => by rw [hx] at h; nomatch h
  · by_cases hhost : x.work.isHost = true
    · obtain ⟨hwait, hhold⟩ := hL x hx hhost
      have hfill : GoesOn I J L s (s.withdrawFill i x) ∧ (s.withdrawFill i x).txn i = some x ∧
          ∀ l, (s.withdrawFill i x).lockOf l = s.lockOf l := by
        rw [hs.gone.withdrawFill]
        split
        · have h := GoesOn.dropEntry (I := fun _ => False) (J := J) (L := fun _ => False) s x.line
          exact ⟨GoesOn.dropEntry s x.line, (h.untouched i nofun).trans hx, fun l => h.locks l nofun⟩
        · exact ⟨GoesOn.refl s, hx, fun _ => rfl⟩
      obtain ⟨hgoes, hv, hlocks⟩ := hfill
      have hgone : ∀ (_ : x.phase ≠ .memBusy),
          Leaves I J L i s ((((s.withdrawFill i x).leaveMemWait i).freeEntry i).releaseLock i x.line) := fun hphase => by
        have h : GoesOn I J L s ((s.withdrawFill i x).leaveMemWait i) := hgoes.trans (GoesOn.setWaiting _ _)
        refine .freed h hx hv hhost hphase (fun hfill _ e he => ?_) (GoesOn.releaseLock ((hs.goesOn h).gone.freeEntry i) fun r hr hholder => ?_)
        · have he' : e ∈ (s.withdrawFill i x).dirSet x.line := he
          rw [hs.gone.withdrawFill, if_pos hfill, (s.setBecomes_dropEntry x.line).dirSet_self rfl] at he'
          exact bne_iff_ne.mp (List.mem_filter.mp he').2
        have hr' : s.lockOf x.line = some r := (hlocks x.line).symm.trans hr
        exact ⟨hs.of_lockOf hr' (hhold r hr' hholder), hhold r hr' hholder⟩
      rw [State.abandonHost, hx, Option.any_some, if_pos hhost, State.withdraw, hx]
      dsimp only
      rw [if_pos hhost]
      rcases hphase : x.phase with _ | _ | _ | _ | _ | _ | _ | _ | _
      case lockWait =>
        refine .freed (v := s.leaveWaiters i x.line) ?_ hx ?_ hhost (by rw [hphase]; nofun) (fun _ h => by rw [hphase] at h; nomatch h) (GoesOn.refl _)
        · rw [State.leaveWaiters]
          split
          · rename_i r hr
            have hline := State.line_of_lockOf hr
            exact GoesOn.putLock s (hwait hphase) ⟨r, State.mem_locks_of_lockOf hr, hline, fun _ h => (List.mem_filter.mp h).1⟩
              hline
          · exact GoesOn.refl s
        · rw [State.leaveWaiters]
          split <;> exact hx
      case dataIn => exact .freed (GoesOn.refl s) hx hx hhost (by rw [hphase]; nofun) (fun _ h => by rw [hphase] at h; nomatch h) (GoesOn.refl _)
      case memBusy => exact .abandoned hgoes hx hv hhost hphase
      all_goals exact hgone (by rw [hphase]; nofun)
    · rw [State.abandonHost, hx, Option.any_some, if_neg hhost]
      exact .stays (GoesOn.refl s) fun y hy => by
        obtain rfl : x = y := Option.some.inj (hx.symm.trans hy)
        exact Bool.eq_false_iff.mpr hhost

/-! ### What a withdrawal leaves as it is -/

theorem Txn.continued_abandon (x : Txn) : x.Continued { x with abandoned := true } := ⟨rfl, rfl, fun _ => rfl, .inl rfl, id⟩

theorem State.txn_abandon (s : State) (i j : EntryIx) : (s.modTxn i fun t => { t with abandoned := true }).txn j =
    if j = i then (s.txn i).map fun t => { t with abandoned := true } else s.txn j := s.txn_modTxn i j _

namespace Leaves

variable {I J : EntryIx → Prop} {L : Line → Prop} {i : EntryIx} {s t : State}

theorem openTo (h : Leaves I J L i s t) (hs : s.OpenTo I J L) : t.OpenTo I J L := by
  cases h with
  | stays h _ => exact hs.goesOn h
  | abandoned h _ _ _ _ => exact (hs.goesOn h).abandon i
  | freed h _ _ _ _ _ hrest => exact ((hs.goesOn h).freeEntry i).goesOn hrest

theorem passing {I' J' : EntryIx → Prop} {L' : Line → Prop} (h : Leaves I J L i s t) (hs : s.Passing I' J' L') :
    t.Passing I' J' L' := by
  cases h with
  | stays h _ => exact hs.goesOn h
  | @abandoned v _ h _ _ _ _ =>
    have hv := hs.goesOn h
    exact { hv with gone := { hv.gone with
      link := fun x hx => by
        rw [State.txn_abandon] at hx
        split at hx
        · rename_i hi
          obtain ⟨y, hy, rfl⟩ := Option.map_eq_some_iff.mp hx
          exact hv.gone.link y (hi ▸ hy)
        · exact hv.gone.link x hx } }
  | @freed v _ _ h _ _ _ _ _ hrest =>
    have hv := hs.goesOn h
    have hfree : (v.freeEntry i).Passing I' J' L' := { hv with gone := hv.gone.freeEntry i }
    exact hfree.goesOn hrest

theorem txns (h : Leaves I J L i s t) {j : EntryIx} {y : Txn} (hy : t.txn j = some y) :
    ∃ x, s.txn j = some x ∧ x.Continued y := by
  cases h with
  | stays h _ => exact h.txns j y hy
  | @abandoned v x h _ hv _ _ =>
    rw [State.txn_abandon] at hy
    split at hy
    · rename_i hji
      obtain ⟨z, hz, rfl⟩ := Option.map_eq_some_iff.mp hy
      obtain ⟨x', hx', hxz⟩ := h.txns i z hz
      exact ⟨x', hji ▸ hx', hxz.trans z.continued_abandon⟩
    · exact h.txns j y hy
  | @freed v x _ h _ hv _ _ _ hrest =>
    obtain ⟨z, hz, hzy⟩ := hrest.txns j y hy
    rw [State.txn_freeEntry] at hz
    split at hz
    · nomatch hz
    · obtain ⟨x', hx', hxz⟩ := h.txns j z hz
      exact ⟨x', hx', hxz.trans hzy⟩

theorem untouched (h : Leaves I J L i s t) {j : EntryIx} (hj : ¬ I j) (hji : j ≠ i) : t.txn j = s.txn j := by
  cases h with
  | stays h _ => exact h.untouched j hj
  | abandoned h _ _ _ _ =>
    rw [State.txn_abandon, if_neg hji]
    exact h.untouched j hj
  | freed h _ _ _ _ _ hrest =>
    rw [hrest.untouched j hj, State.txn_freeEntry, if_neg hji]
    exact h.untouched j hj

/-- R50: one that is not outstanding at memory is freed. -/
theorem txn_eq_none (h : Leaves I J L i s t) (hs : ∀ x, s.txn i = some x → x.work.isHost = true ∧ x.phase ≠ .memBusy) :
    t.txn i = none := by
  rcases ht : t.txn i with _ | y
  · rfl
  · exfalso
    cases h with
    | stays h hno =>
      obtain ⟨x, hx, -⟩ := h.txns i y ht
      have hhost := (hs x hx).1
      rw [hno x hx] at hhost
      nomatch hhost
    | abandoned _ hx _ _ hphase => exact (hs _ hx).2 hphase
    | freed _ _ _ _ _ _ hrest =>
      obtain ⟨x, hx, -⟩ := hrest.txns i y ht
      rw [State.txn_freeEntry, if_pos rfl] at hx
      nomatch hx

/-- R50: one that is keeps its entry, marked abandoned. -/
theorem txn_eq_abandoned (h : Leaves I J L i s t) {x : Txn} (hx : s.txn i = some x) (hhost : x.work.isHost = true)
    (hphase : x.phase = .memBusy) : t.txn i = some { x with abandoned := true } := by
  cases h with
  | stays _ hno =>
    rw [hno x hx] at hhost
    nomatch hhost
  | abandoned _ hx' hv _ _ =>
    obtain rfl := Option.some.inj (hx.symm.trans hx')
    rw [State.txn_abandon, if_pos rfl, hv]
    rfl
  | freed _ hx' _ _ hp _ _ =>
    obtain rfl := Option.some.inj (hx.symm.trans hx')
    exact absurd hphase hp

end Leaves

/-! ### What stays as it is outside the table -/

/-- What no part of HRST changes once the host side is dropped. -/
structure State.SameOutside (s t : State) : Prop where
  cycle : t.hp.cycle = s.hp.cycle
  broken : t.hp.broken = s.hp.broken
  lockTimer : s.hp.lockTimer = none → t.hp.lockTimer = none
  lastLocked : s.hp.lastLocked = none → t.hp.lastLocked = none
  flags : ∀ k, s.ev.flags.getLsbD k = true → t.ev.flags.getLsbD k = true
  out : t.out = s.out
  quarantine : t.msc.quarantine.map QuarRec.line = s.msc.quarantine.map QuarRec.line
  mode : t.msc.mode = s.msc.mode

theorem State.SameOutside.trans {s t u : State} (h : s.SameOutside t) (h' : t.SameOutside u) : s.SameOutside u where
  cycle := h'.cycle.trans h.cycle
  broken := h'.broken.trans h.broken
  lockTimer := h'.lockTimer ∘ h.lockTimer
  lastLocked := h'.lastLocked ∘ h.lastLocked
  flags k hk := h'.flags k (h.flags k hk)
  out := h'.out.trans h.out
  quarantine := h'.quarantine.trans h.quarantine
  mode := h'.mode.trans h.mode

theorem GoesOn.sameOutside {I J : EntryIx → Prop} {L : Line → Prop} {s t : State} (h : GoesOn I J L s t) : s.SameOutside t where
  cycle := by rw [h.hp]
  broken := by rw [h.hp]
  lockTimer hn := by rw [h.hp]; exact hn
  lastLocked hn := by rw [h.hp]; exact hn
  flags := h.flags
  out := h.out
  quarantine := h.quarantine
  mode := h.mode

theorem Leaves.sameOutside {I J : EntryIx → Prop} {L : Line → Prop} {i : EntryIx} {s t : State} (h : Leaves I J L i s t) :
    s.SameOutside t := by
  cases h with
  | stays h _ => exact h.sameOutside
  | abandoned h _ _ _ _ => exact { h.sameOutside with }
  | @freed v _ _ h _ _ _ _ _ hrest =>
    have hfree : v.SameOutside (v.freeEntry i) := ⟨rfl, rfl, id, id, fun _ h => h, rfl, rfl, rfl⟩
    exact (h.sameOutside.trans hfree).trans hrest.sameOutside

/-! ### The whole of HRST -/

theorem State.hostReset_eq (s : State) : (s.clearOut.setHrst true).hostReset =
    (allEntries.foldl (State.settleProbing s.attachedEntry)
      (allEntries.foldl State.abandonHost s.hostDropped).dropLockSet.dropProbe).settle := rfl

theorem exec_hrstAssert {s : State} (hs : s.Running) (hrst : s.pins.hrstAsserted = false) :
    exec .hrstAssert s = .next (allEntries.foldl (State.settleProbing s.attachedEntry)
      (allEntries.foldl State.abandonHost s.hostDropped).dropLockSet.dropProbe).settle := by
  have hreset : s.pins.resetAsserted = false := hs
  rw [exec, execHrstAssert, if_neg (by rw [hrst]; nofun), if_neg (by rw [hreset]; nofun), s.hostReset_eq]

theorem State.Passing.emptyLockSet {s : State} {I J : EntryIx → Prop} {L : Line → Prop} (hs : s.Passing I J L) :
    s.emptyLockSet.Passing I J L :=
  { hs with gone := { hs.gone with } }

theorem State.OpenTo.emptyLockSet {s : State} {I J : EntryIx → Prop} {L : Line → Prop} (hs : s.OpenTo I J L) :
    s.emptyLockSet.OpenTo I J L :=
  { hs with gone := { hs.gone with } }

theorem State.txn_emptyLockSet (s : State) (i : EntryIx) : s.emptyLockSet.txn i = s.txn i := rfl

theorem State.sameOutside_emptyLockSet (s : State) : s.SameOutside s.emptyLockSet :=
  ⟨rfl, rfl, fun _ => rfl, fun _ => rfl, fun _ h => h, rfl, rfl, rfl⟩

theorem State.Passing.foldl {α : Type} {f : State → α → State} {I J : EntryIx → Prop} {L L' : Line → Prop} {s : State}
    {as : List α} (hf : ∀ {s}, s.Passing I J L → ∀ a ∈ as, GoesOn I J L' s (f s a)) (hs : s.Passing I J L) :
    GoesOn I J L' s (as.foldl f s) := by
  induction as generalizing s with
  | nil => exact GoesOn.refl s
  | cons a as ih =>
    have h := hf hs a List.mem_cons_self
    exact h.trans (ih (fun hs b hb => hf hs b (List.mem_cons_of_mem a hb)) (hs.goesOn h))

/-- R50: the host lock set given up, wherever its locks may be passed on. -/
theorem State.Passing.dropLockSet {s : State} {I J : EntryIx → Prop} (hs : s.Passing I J fun _ => True) :
    GoesOn I J (fun _ => True) s.emptyLockSet s.dropLockSet :=
  State.Passing.foldl (fun hs _ _ => GoesOn.giveUpLineAtHrst hs.gone fun _ hr _ => ⟨hs.of_lockOf hr trivial, trivial⟩)
    hs.emptyLockSet

/-- R78: what follows the host lock set. -/
theorem State.OpenTo.afterLockSet {s : State} {I J : EntryIx → Prop} {L : Line → Prop} (hs : s.OpenTo I J L)
    (a : Option EntryIx) : GoesOn I J L s (allEntries.foldl (State.settleProbing a) s.dropProbe).settle := by
  have h1 := hs.dropProbe
  have h2 := State.OpenTo.foldl (fun hs i => hs.settleProbing a i) allEntries (hs.goesOn h1)
  exact (h1.trans h2).trans ((hs.goesOn (h1.trans h2)).settle)

/-- R50: the host's transactions withdrawn, wherever their locks may be passed on. -/
theorem State.Passing.leaves {s : State} {I J : EntryIx → Prop} (hs : s.Passing I J fun _ => True) (i : EntryIx) :
    Leaves I J (fun _ => True) i s (s.abandonHost i) :=
  hs.abandonHost i fun _ _ _ => ⟨fun _ => trivial, fun _ _ _ => trivial⟩

theorem State.Passing.abandonHosts {s : State} {I J : EntryIx → Prop} (hs : s.Passing I J fun _ => True) (as : List EntryIx) :
    (as.foldl State.abandonHost s).Passing I J (fun _ => True) ∧ s.SameOutside (as.foldl State.abandonHost s) := by
  induction as generalizing s with
  | nil => exact ⟨hs, (GoesOn.refl (I := I) (J := J) (L := fun _ => True) s).sameOutside⟩
  | cons i as ih =>
    have h := hs.leaves i
    obtain ⟨hopen, houtside⟩ := ih (h.passing hs)
    exact ⟨hopen, h.sameOutside.trans houtside⟩

theorem State.OpenTo.abandonHosts {s : State} {I J : EntryIx → Prop} (hs : s.OpenTo I J fun _ => True) (as : List EntryIx) :
    (as.foldl State.abandonHost s).OpenTo I J fun _ => True := by
  induction as generalizing s with
  | nil => exact hs
  | cons i as ih => exact ih ((hs.leaves i).openTo hs)

/-- What an entry that takes no part in the withdrawals of `as` has. -/
theorem State.Passing.txn_abandonHosts {s : State} {I J : EntryIx → Prop} (hs : s.Passing I J fun _ => True) {i : EntryIx}
    (hi : ¬ I i) {as : List EntryIx} (has : i ∉ as) : (as.foldl State.abandonHost s).txn i = s.txn i := by
  induction as generalizing s with
  | nil => rfl
  | cons j as ih =>
    have h := hs.leaves j
    rw [List.mem_cons, not_or] at has
    exact (ih (h.passing hs) has.2).trans (h.untouched hi has.1)

theorem State.Passing.txns_abandonHosts {s : State} {I J : EntryIx → Prop} (hs : s.Passing I J fun _ => True)
    {as : List EntryIx} {i : EntryIx} {y : Txn} (hy : (as.foldl State.abandonHost s).txn i = some y) :
    ∃ x, s.txn i = some x ∧ x.Continued y := by
  induction as generalizing s with
  | nil => exact ⟨y, hy, .refl y⟩
  | cons j as ih =>
    have h := hs.leaves j
    obtain ⟨z, hz, hzy⟩ := ih (h.passing hs) hy
    obtain ⟨x, hx, hxz⟩ := h.txns hz
    exact ⟨x, hx, hxz.trans hzy⟩

/-- R50: the host's transactions are freed but for those outstanding at memory. -/
theorem State.Passing.txn_abandonHosts_eq_none {s : State} {I J : EntryIx → Prop} (hs : s.Passing I J fun _ => True)
    {i : EntryIx} {x : Txn} (hx : s.txn i = some x) (hhost : x.work.isHost = true) (hphase : x.phase ≠ .memBusy) :
    (allEntries.foldl State.abandonHost s).txn i = none := by
  obtain ⟨before, after, hsplit⟩ := List.append_of_mem (List.mem_finRange i)
  rw [allEntries, hsplit, List.foldl_append, List.foldl_cons]
  have hopen := (hs.abandonHosts before).1
  have hleaves := hopen.leaves i
  have hnone := hleaves.txn_eq_none fun y hy => by
    obtain ⟨x', hx', hxy⟩ := hs.txns_abandonHosts hy
    obtain rfl : x = x' := Option.some.inj (hx.symm.trans hx')
    refine ⟨hxy.work ▸ hhost, ?_⟩
    rcases hxy.phase with hp | hp <;> rw [hp]
    · exact hphase
    · nofun
  rcases ht : (after.foldl State.abandonHost _).txn i with _ | y
  · rfl
  · obtain ⟨x', hx', -⟩ := (hleaves.passing hopen).txns_abandonHosts ht
    rw [hnone] at hx'
    nomatch hx'

/-- R50: one of these, which no other part of the bridge names, is marked abandoned. -/
theorem State.Passing.txn_abandonHosts_eq_abandoned {s : State} {I J : EntryIx → Prop} (hs : s.Passing I J fun _ => True)
    {i : EntryIx} (hi : ¬ I i) {x : Txn} (hx : s.txn i = some x) (hhost : x.work.isHost = true) (hphase : x.phase = .memBusy) :
    (allEntries.foldl State.abandonHost s).txn i = some { x with abandoned := true } := by
  obtain ⟨before, after, hsplit⟩ := List.append_of_mem (List.mem_finRange i)
  have hnodup : (before ++ i :: after).Nodup := hsplit ▸ List.nodup_finRange 12
  rw [List.nodup_append] at hnodup
  obtain ⟨-, hafter, hdisjoint⟩ := hnodup
  have hbefore : i ∉ before := fun h => hdisjoint i h i List.mem_cons_self rfl
  rw [allEntries, hsplit, List.foldl_append, List.foldl_cons]
  have hopen := (hs.abandonHosts before).1
  have hleaves := hopen.leaves i
  rw [(hleaves.passing hopen).txn_abandonHosts hi (List.nodup_cons.mp hafter).1]
  exact hleaves.txn_eq_abandoned ((hs.txn_abandonHosts hi hbefore).trans hx) hhost hphase

/-- What the assertion of HRST is once the host's transactions are withdrawn. -/
theorem State.OpenTo.afterHosts {s : State} {I J : EntryIx → Prop} (hs : s.OpenTo I J fun _ => True) (a : Option EntryIx) :
    GoesOn I J (fun _ => True) s.emptyLockSet (allEntries.foldl (State.settleProbing a) s.dropLockSet.dropProbe).settle :=
  hs.dropLockSet.trans ((hs.emptyLockSet.goesOn hs.dropLockSet).afterLockSet a)

theorem GoesOn.txn_eq_none {I J : EntryIx → Prop} {L : Line → Prop} {s t : State} (h : GoesOn I J L s t) {i : EntryIx}
    (hi : s.txn i = none) : t.txn i = none := by
  rcases ht : t.txn i with _ | y
  · rfl
  · obtain ⟨x, hx, -⟩ := h.txns i y ht
    rw [hi] at hx
    nomatch hx

/-- Settles O5: what the assertion of HRST drops and what it leaves. -/
theorem hrstAssertDropsTheHostSide : Obligations.HrstAssertDropsTheHostSide := by
  intro s hs hrst
  obtain ⟨t, ht⟩ : ∃ t, t = (allEntries.foldl (State.settleProbing s.attachedEntry)
    (allEntries.foldl State.abandonHost s.hostDropped).dropLockSet.dropProbe).settle := ⟨_, rfl⟩
  have hkept : Kept (s.clearOut.setHrst true) t := by
    rw [ht, ← s.hostReset_eq]
    exact Kept.hostReset _
  have hgone := s.hostGone_hostDropped
  have hopen : s.hostDropped.OpenTo (fun _ => True) (fun _ => True) fun _ => True :=
    ⟨⟨hgone, fun _ _ _ _ _ => ⟨trivial, trivial⟩⟩, fun _ _ => trivial, fun _ _ _ _ _ => trivial, fun _ _ _ _ => trivial, trivial,
      fun _ _ _ _ _ _ => trivial⟩
  have hhosts := hopen.toPassing.abandonHosts allEntries
  have hafter := (hopen.abandonHosts allEntries).afterHosts s.attachedEntry
  rw [← ht] at hafter
  have hout := (hhosts.2.trans (State.sameOutside_emptyLockSet _)).trans hafter.sameOutside
  have hhp : s.hostDropped.hp = { s.hp with cycle := none, lockTimer := none, broken := false, lastLocked := none } := by
    rw [s.hostDropped_eq]
  have hflags : s.hostDropped.ev.flags = s.ev.flags ||| s.hrstFlags := by
    rw [s.hostDropped_eq]
  have hdout : s.hostDropped.out = [] := by rw [s.hostDropped_eq]
  have hquar : s.hostDropped.msc.quarantine = s.msc.quarantine := by rw [s.hostDropped_eq]
  have hmode : s.msc.sweep.phase = .stopped → s.hostDropped.msc.mode = s.msc.mode := fun hstop => by
    rw [s.hostDropped_eq]
    exact if_neg fun h => h.1 hstop
  have hflag : s.hrstFlags.getLsbD 10 = true := by
    rw [State.hrstFlags, BitVec.getLsbD_or]
    rfl
  refine ⟨t, ?_, hkept.pins, ?_, hout.lockTimer ?_, ?_, hout.lastLocked ?_,
    hkept.lockLimit, hout.flags 10 ?_, fun k hk => hout.flags k ?_, fun o ho => ?_, hkept.regionMap, hkept.admitPolicy,
    hkept.probeLimit, hkept.wbLimit, hkept.outstanding, hkept.roundRobin, hkept.tags, hkept.enables, ?_,
    fun hstop => hout.mode.trans (hmode hstop), hkept.pending,
    fun i x hi hx hhost => ⟨fun hphase => ?_, fun hphase hwait hqueue hchannel => ?_⟩⟩
  · rw [ht]
    exact exec_hrstAssert hs hrst
  · exact hout.cycle.trans hgone.cycle
  · rw [hhp]
  · rw [hout.broken, hhp]
  · rw [hhp]
  · rw [hflags, BitVec.getLsbD_or, hflag, Bool.or_true]
  · rw [hflags, BitVec.getLsbD_or, hk, Bool.true_or]
  · rw [hout.out, hdout] at ho
    nomatch ho
  · rw [hout.quarantine, hquar]
  · have hx' : s.hostDropped.txn i = some (x.timerStarted s.pu.wbLimit.toNat) := by
      rw [s.txn_hostDropped, hx, Option.map_some, if_neg hi]
    refine hafter.txn_eq_none ?_
    rw [State.txn_emptyLockSet]
    exact hopen.txn_abandonHosts_eq_none hx' hhost hphase
  · have hx' : s.hostDropped.txn i = some (x.timerStarted s.pu.wbLimit.toNat) := by
      rw [s.txn_hostDropped, hx, Option.map_some, if_neg hi]
    have hlocks : s.hostDropped.tt.locks = s.tt.locks := by rw [s.hostDropped_eq]
    have hpu : s.hostDropped.pu = s.pu := by rw [s.hostDropped_eq]
    have hshield : s.hostDropped.OpenTo (fun j => j ≠ i) (fun _ => True) fun _ => True := by
      refine ⟨⟨hgone, fun r hr _ j hj => ⟨fun hji => hwait r (hlocks ▸ hr) (hji ▸ hj), trivial⟩⟩, fun j hj hji => ?_,
        fun j l m n hc hji => ?_, fun j y hy hprobing hji => ?_, Ne.symm hi, fun _ _ _ _ _ _ => trivial⟩
      · rw [hpu, hji] at hj
        exact hqueue hj
      · rw [hpu, hji] at hc
        exact hchannel l m n hc
      · rw [hji, hx'] at hy
        obtain rfl := Option.some.inj hy
        have hp : (x.timerStarted s.pu.wbLimit.toNat).phase = .memBusy := hphase
        rw [hp] at hprobing
        rcases hprobing with h | h <;> nomatch h
    have hnot : ¬ (fun j : EntryIx => j ≠ i) i := fun h => h rfl
    have hmarked := hshield.txn_abandonHosts_eq_abandoned hnot hx' hhost hphase
    have hrest := (hshield.abandonHosts allEntries).afterHosts s.attachedEntry
    rw [← ht] at hrest
    have hkeeps := hrest.untouched i hnot
    rw [State.txn_emptyLockSet, hmarked] at hkeeps
    exact ⟨_, hkeeps, rfl⟩

end Sys2Proof.Machine
end

section
/-! SUPPORT. The directory, the host lock set and the lines' locks at the assertion of HRST (R26, R38, R50, R117). -/

set_option Elab.async false

namespace Sys2Proof.Machine

/-! ### The directory emptied -/

/-- An entry that is none of the host's in MEM_BUSY. -/
def State.OffMemory (s : State) (j : EntryIx) : Prop := ∀ x, s.txn j = some x → x.work.isHost = true → x.phase ≠ .memBusy

/-- An entry that is none of the host's. -/
def State.NotHost (s : State) (j : EntryIx) : Prop := ∀ x, s.txn j = some x → x.work.isHost = false

theorem Work.isHost_of_hFill {w : Work} (h : w.kind = .hFill) : w.isHost = true := by
  revert h
  cases w <;> simp [Work.kind, Work.isHost, Work.issuer]

theorem Work.isHost_of_isLocked {w : Work} (h : w.isLocked = true) : w.isHost = true := by
  revert h
  cases w <;> simp [Work.isLocked, Work.kind, Work.isHost, Work.issuer]

/-- The withdrawals with the entries `as` ahead: every host transaction not outstanding at memory is among them, and each
entry of the directory is that of a fill among them. -/
structure State.HostsAhead (s₀ s : State) (as : List EntryIx) : Prop where
  passing : s.Passing s₀.OffMemory (fun _ => True) fun _ => True
  continued : ∀ j x, s.txn j = some x → ∃ x₀, s₀.txn j = some x₀ ∧ x₀.Continued x
  ahead : ∀ j x, s.txn j = some x → x.work.isHost = true → x.phase ≠ .memBusy → j ∈ as
  entries : ∀ (k : SetIx), ∀ e ∈ s.pd.sets[k.val], k = setOf e.line ∧
    ∃ f x, s.txn f = some x ∧ x.work.kind = .hFill ∧ x.line = e.line ∧ x.phase = .memWait

namespace State.HostsAhead

variable {s₀ s t : State} {i : EntryIx} {as : List EntryIx}

/-- A host transaction outstanding at memory is looked up by none. -/
theorem not_offMemory (h : s₀.HostsAhead s as) {j : EntryIx} {x : Txn} (hx : s.txn j = some x) (hhost : x.work.isHost = true)
    (hphase : x.phase = .memBusy) : ¬ s₀.OffMemory j := fun hoff => by
  obtain ⟨x₀, hx₀, hc⟩ := h.continued j x hx
  refine hoff x₀ hx₀ (hc.work ▸ hhost) ?_
  rcases hc.phase with hp | hp
  · exact hp.symm.trans hphase
  · rw [hp] at hphase
    nomatch hphase

theorem entries_of_goesOn (h : s₀.HostsAhead s as) {I J : EntryIx → Prop} {L : Line → Prop} (hst : GoesOn I J L s t)
    (k : SetIx) (e : DirEntry) (he : e ∈ t.pd.sets[k.val]) : k = setOf e.line ∧
    ∃ f x, t.txn f = some x ∧ x.work.kind = .hFill ∧ x.line = e.line ∧ x.phase = .memWait := by
  rcases hst.entries k e he with hold | ⟨hk, -, f, y, -, hy, hfill, hline, hphase⟩
  · obtain ⟨hk, f, x, hx, hfill, hline, hphase⟩ := h.entries k e hold
    obtain ⟨y, hy⟩ := Option.isSome_iff_exists.mp (hst.hosts f x hx (Work.isHost_of_hFill hfill))
    obtain ⟨x', hx', hc⟩ := hst.txns f y hy
    obtain rfl : x = x' := Option.some.inj (hx.symm.trans hx')
    refine ⟨hk, f, y, hy, hc.work ▸ hfill, hc.line.trans hline, ?_⟩
    rcases hc.phase with hp | hp
    · exact hp.trans hphase
    · exact hp
  · exact ⟨hk, f, y, hy, hfill, hline, hphase⟩

theorem step (h : s₀.HostsAhead s (i :: as)) : s₀.HostsAhead (s.abandonHost i) as := by
  have hleaves := h.passing.leaves i
  refine ⟨hleaves.passing h.passing, fun j y hy => ?_, fun j y hy hhost hphase => ?_, fun k e he => ?_⟩
  · obtain ⟨x, hx, hxy⟩ := hleaves.txns hy
    obtain ⟨x₀, hx₀, hc⟩ := h.continued j x hx
    exact ⟨x₀, hx₀, hc.trans hxy⟩
  · obtain ⟨x, hx, hxy⟩ := hleaves.txns hy
    have hxhost : x.work.isHost = true := hxy.work ▸ hhost
    by_cases hbusy : x.phase = .memBusy
    · exfalso
      by_cases hji : j = i
      · subst hji
        rw [hleaves.txn_eq_abandoned hx hxhost hbusy] at hy
        obtain rfl := Option.some.inj hy
        exact hphase hbusy
      · rw [hleaves.untouched (h.not_offMemory hx hxhost hbusy) hji, hx] at hy
        obtain rfl := Option.some.inj hy
        exact hphase hbusy
    · rcases List.mem_cons.mp (h.ahead j x hx hxhost hbusy) with rfl | hj
      · have hnone := hleaves.txn_eq_none fun x' hx' => by
          obtain rfl : x = x' := Option.some.inj (hx.symm.trans hx')
          exact ⟨hxhost, hbusy⟩
        rw [hnone] at hy
        nomatch hy
      · exact hj
  · generalize s.abandonHost i = t at hleaves he
    cases hleaves with
    | stays hst _ => exact h.entries_of_goesOn hst k e he
    | @abandoned v x hst hx hv hhost hphase =>
      obtain ⟨hk, f, y, hy, hfill, hline, hwait⟩ := h.entries_of_goesOn hst k e he
      refine ⟨hk, f, y, ?_, hfill, hline, hwait⟩
      have hfi : f ≠ i := fun hfi => by
        obtain rfl : x = y := Option.some.inj (hv.symm.trans (hfi ▸ hy))
        rw [hphase] at hwait
        nomatch hwait
      rw [State.txn_abandon, if_neg hfi]
      exact hy
    | @freed v x _ hst hx hv hhost hphase hentry hrest =>
      rcases hrest.entries k e he with hold | ⟨hk, -, f, y, -, hy, hfill, hline, hwait⟩
      · obtain ⟨rfl, f, y, hy, hfill, hline, hwait⟩ := h.entries_of_goesOn hst k e hold
        have hfi : f ≠ i := fun hfi => by
          obtain rfl : x = y := Option.some.inj (hv.symm.trans (hfi ▸ hy))
          refine hentry hfill hwait e ?_ hline.symm
          rw [hline]
          exact hold
        have hy' : (v.freeEntry i).txn f = some y := by rw [State.txn_freeEntry, if_neg hfi, hy]
        obtain ⟨z, hz⟩ := Option.isSome_iff_exists.mp (hrest.hosts f y hy' (Work.isHost_of_hFill hfill))
        obtain ⟨y', hy'', hc⟩ := hrest.txns f z hz
        obtain rfl : y = y' := Option.some.inj (hy'.symm.trans hy'')
        refine ⟨rfl, f, z, hz, hc.work ▸ hfill, hc.line.trans hline, ?_⟩
        rcases hc.phase with hp | hp
        · exact hp.trans hwait
        · exact hp
      · exact ⟨hk, f, y, hy, hfill, hline, hwait⟩

theorem foldl (h : s₀.HostsAhead s as) : s₀.HostsAhead (as.foldl State.abandonHost s) [] := by
  induction as generalizing s with
  | nil => exact h
  | cons i as ih => exact ih h.step

/-- With none ahead the directory is empty, -/
theorem sets_eq_nil (h : s₀.HostsAhead s []) (k : SetIx) : s.pd.sets[k.val] = [] :=
  List.eq_nil_iff_forall_not_mem.mpr fun e he => by
    obtain ⟨-, f, x, hx, hfill, -, hphase⟩ := h.entries k e he
    exact absurd (h.ahead f x hx (Work.isHost_of_hFill hfill) (by rw [hphase]; nofun)) (List.not_mem_nil)

/-- and none of those that wait for a line is the host's. -/
theorem passing_notHost (h : s₀.HostsAhead s []) : s.Passing s.NotHost s.NotHost fun _ => True where
  gone := h.passing.gone
  waiters r hr _ j hj := by
    have hoff := (h.passing.waiters r hr trivial j hj).1
    have hno : s.NotHost j := fun x hx => Bool.eq_false_iff.mpr fun hhost => by
      by_cases hbusy : x.phase = .memBusy
      · exact h.not_offMemory hx hhost hbusy hoff
      · exact absurd (h.ahead j x hx hhost hbusy) List.not_mem_nil
    exact ⟨hno, hno⟩

end State.HostsAhead

/-- With nothing of the host's among those that look up, no entry comes into the directory, -/
theorem GoesOn.sets_eq_nil {s t : State} {I : EntryIx → Prop} {L : Line → Prop} (h : GoesOn I s.NotHost L s t)
    (hs : ∀ k : SetIx, s.pd.sets[k.val] = []) (k : SetIx) : t.pd.sets[k.val] = [] :=
  List.eq_nil_iff_forall_not_mem.mpr fun e he => by
    rcases h.entries k e he with hold | ⟨-, -, f, y, hf, hy, hfill, -⟩
    · rw [hs k] at hold
      exact absurd hold List.not_mem_nil
    · obtain ⟨x, hx, hc⟩ := h.txns f y hy
      have hhost := hf x hx
      rw [← hc.work, Work.isHost_of_hFill hfill] at hhost
      nomatch hhost

/-- and no line into the host lock set. -/
theorem GoesOn.lockSet_eq_nil {s t : State} {I : EntryIx → Prop} {L : Line → Prop} (h : GoesOn I s.NotHost L s t)
    (hs : s.hp.lockSet = []) : t.hp.lockSet = [] :=
  List.eq_nil_iff_forall_not_mem.mpr fun l hl => by
    rcases h.lockSet l hl with hold | ⟨i, x, hi, hx, hlocked⟩
    · rw [hs] at hold
      exact absurd hold List.not_mem_nil
    · have hhost := hi x hx
      rw [Work.isHost_of_isLocked hlocked] at hhost
      nomatch hhost

/-! ### A line of the host lock set, as the host's transactions are withdrawn -/

theorem Leaves.locks {I J : EntryIx → Prop} {L : Line → Prop} {i : EntryIx} {s t : State} (h : Leaves I J L i s t) {m : Line}
    (hm : ¬ L m) : t.lockOf m = s.lockOf m := by
  cases h with
  | stays h _ => exact h.locks m hm
  | abandoned h _ _ _ _ => exact h.locks m hm
  | freed h _ _ _ _ _ hrest => exact (hrest.locks m hm).trans (h.locks m hm)

/-- A line of the host lock set with the entries `as` ahead: the host's that wait for it are among them or have left. -/
structure State.SetLine (s₀ s : State) (l : Line) (ws as : List EntryIx) : Prop where
  passing : s.Passing (fun j => j ∈ ws → s₀.NotHost j) (fun _ => True) fun m => m ≠ l
  lock : s.lockOf l = some { line := l, holder := .hostSet
                             waiters := ws.filter fun j => decide (j ∈ as) || !(s₀.txn j).any fun x => x.work.isHost }
  waiting : ∀ j ∈ ws, j ∈ as → ∀ x, s₀.txn j = some x → x.work.isHost = true →
    s.txn j = some x ∧ x.phase = .lockWait ∧ x.line = l

namespace State.SetLine

variable {s₀ s : State} {l : Line} {ws as : List EntryIx} {i : EntryIx}

/-- R40: the withdrawal of one of the host's that waits for the line. -/
theorem step_of_waits (h : s₀.SetLine s l ws (i :: as)) (hi : i ∉ as) (hhosts : ∀ x, s.txn i = some x →
      ∃ x₀, s₀.txn i = some x₀ ∧ x₀.Continued x) {x : Txn} (hx : s.txn i = some x)
    (hhost : x.work.isHost = true) (hphase : x.phase = .lockWait) (hline : x.line = l) :
    s₀.SetLine (s.abandonHost i) l ws as := by
  have hleave : s.abandonHost i = (s.leaveWaiters i l).freeEntry i := by
    rw [State.abandonHost, hx, Option.any_some, if_pos hhost, State.withdraw, hx]
    dsimp only
    rw [if_pos hhost, hphase, hline]
  obtain ⟨x₀, hx₀, hc⟩ := hhosts x hx
  rw [hleave, State.leaveWaiters, h.lock]
  have hput : GoesOn (fun _ => True) (fun _ => True) (fun _ => True) s (s.leaveWaiters i l) := by
    rw [State.leaveWaiters, h.lock]
    exact GoesOn.putLock s trivial ⟨_, State.mem_locks_of_lockOf h.lock, rfl, fun _ hj => (List.mem_filter.mp hj).1⟩ rfl
  refine ⟨?_, ?_, fun j hj has z hz hzhost => ?_⟩
  · have hv := h.passing.goesOn hput
    rw [State.leaveWaiters, h.lock] at hv
    exact { hv with gone := hv.gone.freeEntry i }
  · rw [show ∀ v : State, (v.freeEntry i).lockOf l = v.lockOf l from fun _ => rfl]
    refine (State.lockOf_putLock_self s _).trans (congrArg (fun q => some (LockRec.mk l .hostSet q)) ?_)
    rw [List.filter_filter]
    refine List.filter_congr fun j _ => ?_
    by_cases hji : j = i
    · have hhost₀ : ((s₀.txn i).any fun x => x.work.isHost) = true := by
        rw [hx₀, Option.any_some, ← hc.work]
        exact hhost
      rw [hji, hhost₀, decide_eq_false hi, bne_self_eq_false]
      rfl
    · rw [bne_iff_ne.mpr hji, Bool.true_and, decide_eq_decide.mpr (List.mem_cons.trans (or_iff_right hji))]
  · obtain ⟨hzj, hzphase, hzline⟩ := h.waiting j hj (List.mem_cons_of_mem i has) z hz hzhost
    refine ⟨?_, hzphase, hzline⟩
    rw [State.txn_freeEntry, if_neg fun hji : j = i => hi (hji ▸ has)]
    exact hzj

/-- R50: the withdrawal of another. -/
theorem step_of_not (h : s₀.SetLine s l ws (i :: as)) (hi : i ∉ as)
    (hno : ∀ x, s.txn i = some x → x.work.isHost = true → x.phase = .lockWait → x.line ≠ l) :
    s₀.SetLine (s.abandonHost i) l ws as := by
  have hleaves := h.passing.abandonHost i fun x hx hhost => ⟨fun hphase => hno x hx hhost hphase, fun r hr hholder hline => by
    rw [hline, h.lock] at hr
    rw [← Option.some.inj hr] at hholder
    nomatch hholder⟩
  refine ⟨hleaves.passing h.passing, ?_, fun j hj has x hx hhost => ?_⟩
  · rw [hleaves.locks (not_not_intro rfl), h.lock]
    refine congrArg (fun q => some (LockRec.mk l .hostSet q)) (List.filter_congr fun j hj => ?_)
    by_cases hji : j = i
    · have hhost₀ : ((s₀.txn i).any fun x => x.work.isHost) = false := Bool.eq_false_iff.mpr fun hany => by
        obtain ⟨x, hx, hhost⟩ := (Option.any_eq_true _ _).mp hany
        obtain ⟨hxi, hphase, hline⟩ := h.waiting j hj (hji ▸ List.mem_cons_self) x (hji ▸ hx) hhost
        exact hno x (hji ▸ hxi) hhost hphase hline
      rw [hji, hhost₀]
      exact (Bool.or_true _).trans (Bool.or_true _).symm
    · rw [decide_eq_decide.mpr (List.mem_cons.trans (or_iff_right hji))]
  · obtain ⟨hxj, hphase, hline⟩ := h.waiting j hj (List.mem_cons_of_mem i has) x hx hhost
    refine ⟨?_, hphase, hline⟩
    rw [hleaves.untouched (fun hnot => ?_) fun hji : j = i => hi (hji ▸ has)]
    · exact hxj
    · rw [hnot hj x hx] at hhost
      nomatch hhost

theorem step (h : s₀.SetLine s l ws (i :: as)) (hi : i ∉ as)
    (hhosts : ∀ x, s.txn i = some x → ∃ x₀, s₀.txn i = some x₀ ∧ x₀.Continued x) :
    s₀.SetLine (s.abandonHost i) l ws as := by
  by_cases hwait : ∃ x, s.txn i = some x ∧ x.work.isHost = true ∧ x.phase = .lockWait ∧ x.line = l
  · obtain ⟨x, hx, hhost, hphase, hline⟩ := hwait
    exact h.step_of_waits hi hhosts hx hhost hphase hline
  · exact h.step_of_not hi fun x hx hhost hphase hline => hwait ⟨x, hx, hhost, hphase, hline⟩

theorem foldl (h : s₀.SetLine s l ws as) (has : as.Nodup) (ha : s₀.HostsAhead s as) :
    s₀.SetLine (as.foldl State.abandonHost s) l ws [] := by
  induction as generalizing s with
  | nil => exact h
  | cons i as ih =>
    obtain ⟨hi, has⟩ := List.nodup_cons.mp has
    exact ih (h.step hi fun x hx => ha.continued i x hx) has ha.step

/-- R50: the members of its wait list that are not the host's stay. -/
theorem lockOf_eq (h : s₀.SetLine s l ws []) :
    s.lockOf l = some { line := l, holder := .hostSet, waiters := s₀.withoutHost ws } := by
  rw [h.lock, State.withoutHost]
  simp only [List.not_mem_nil, decide_false, Bool.false_or]

end State.SetLine

/-! ### The host lock set given up -/

/-- R50: the transaction to which a line of the emptied set comes. -/
theorem State.lockedAtMemory_eq {s : State} {l : Line} {i : EntryIx} {x : Txn} (hx : s.txn i = some x)
    (hlocked : x.work.isLocked = true) (hphase : x.phase = .memBusy) (hab : x.abandoned = true) (hline : x.line = l)
    (hsole : ∀ j y, s.txn j = some y → y.work.isLocked = true → y.phase = .memBusy → y.line = l → j = i) :
    s.lockedAtMemory l = some i := by
  have hfound : (s.lockedAtMemory l).isSome = true := by
    rw [State.lockedAtMemory, List.find?_isSome]
    refine ⟨i, List.mem_finRange i, (Option.any_eq_true _ _).mpr ⟨x, hx, ?_⟩⟩
    simp only [Bool.and_eq_true, beq_iff_eq]
    exact ⟨⟨⟨hlocked, hphase⟩, hab⟩, hline⟩
  obtain ⟨j, hj⟩ := Option.isSome_iff_exists.mp hfound
  have hany := List.find?_some (show allEntries.find? _ = some j from hj)
  obtain ⟨y, hy, hp⟩ := (Option.any_eq_true _ _).mp hany
  simp only [Bool.and_eq_true, beq_iff_eq] at hp
  rw [hj, hsole j y hy hp.1.1.1 hp.1.1.2 hp.2]

theorem State.lockedAtMemory_eq_none {s : State} {l : Line}
    (h : ∀ j y, s.txn j = some y → y.work.isLocked = true → y.phase = .memBusy → y.line ≠ l) :
    s.lockedAtMemory l = none := by
  rw [State.lockedAtMemory, List.find?_eq_none]
  intro j _ hj
  obtain ⟨y, hy, hp⟩ := (Option.any_eq_true _ _).mp hj
  simp only [Bool.and_eq_true, beq_iff_eq] at hp
  exact h j y hy hp.1.1.1 hp.1.1.2 hp.2

/-- R44: a line that the set no longer holds is not given up again. -/
theorem State.Passing.giveUpLines_of_passed {s : State} {J : EntryIx → Prop} (hs : s.Passing J J fun _ => True) {l : Line}
    (hl : ∀ r, s.lockOf l = some r → r.holder ≠ .hostSet) (ls : List Line) :
    GoesOn J J (fun m => m ≠ l) s (ls.foldl State.giveUpLineAtHrst s) := by
  induction ls generalizing s with
  | nil => exact GoesOn.refl s
  | cons m ls ih =>
    have h : GoesOn J J (fun m => m ≠ l) s (s.giveUpLineAtHrst m) := GoesOn.giveUpLineAtHrst hs.gone fun r hr hholder =>
      ⟨hs.of_lockOf hr trivial, fun hml => hl r (hml ▸ hr) hholder⟩
    exact h.trans (ih (hs.goesOn h) fun r hr => hl r ((h.locks l (not_not_intro rfl)).symm.trans hr))

/-- R38, R44: the lines of the emptied set are given up, `l` at its place among them. -/
theorem State.Passing.exists_giveUpLines {s : State} {J : EntryIx → Prop} (hs : s.Passing J J fun _ => True) {l : Line}
    {ls : List Line} (hl : l ∈ ls) :
    ∃ v t, GoesOn J J (fun m => m ≠ l) s v ∧ v.giveUpLineAtHrst l = t ∧ t.Passing J J (fun _ => True) ∧
      ((∀ r, t.lockOf l = some r → r.holder ≠ .hostSet) → GoesOn J J (fun m => m ≠ l) t (ls.foldl State.giveUpLineAtHrst s)) := by
  obtain ⟨before, after, hsplit, hbefore⟩ := List.eq_append_cons_of_mem hl
  have hv : GoesOn J J (fun m => m ≠ l) s (before.foldl State.giveUpLineAtHrst s) :=
    State.Passing.foldl (L := fun _ => True) (fun hs m hm => GoesOn.giveUpLineAtHrst hs.gone fun r hr _ =>
      ⟨hs.of_lockOf hr trivial, fun hml => hbefore (hml ▸ hm)⟩) hs
  have ht : GoesOn J J (fun _ => True) (before.foldl State.giveUpLineAtHrst s)
      ((before.foldl State.giveUpLineAtHrst s).giveUpLineAtHrst l) :=
    GoesOn.giveUpLineAtHrst (hs.goesOn hv).gone fun r hr _ => ⟨(hs.goesOn hv).of_lockOf hr trivial, trivial⟩
  refine ⟨_, _, hv, rfl, (hs.goesOn hv).goesOn ht, fun hpassed => ?_⟩
  rw [hsplit, List.foldl_append, List.foldl_cons]
  exact ((hs.goesOn hv).goesOn ht).giveUpLines_of_passed hpassed after

/-- R92, R117: the checks after the host side is dropped. -/
theorem State.checksResult_hostDropped {s : State} {k : TxnKind} {p : PortIx} {l : Line} (h : s.checksResult k p l = .ok) :
    s.hostDropped.checksResult k p l = .ok := by
  have hquar : s.hostDropped.isQuarantined l = s.isQuarantined l :=
    isQuarantined_of_lines (congrArg (List.map QuarRec.line) (by rw [s.hostDropped_eq])) l
  have hrm : s.hostDropped.rm = s.rm := by rw [s.hostDropped_eq]
  have hmode : s.hostDropped.msc.mode = .faulted → s.msc.mode = .faulted := fun hm => by
    rw [s.hostDropped_eq] at hm
    dsimp only at hm
    split at hm
    · nomatch hm
    · exact hm
  rw [State.checksResult] at h ⊢
  rw [hquar, hrm]
  split_ifs at h ⊢ with h1 h2 h3 h4 h5
  · exact absurd ⟨hmode h4.1, h4.2⟩ h5
  · rfl

theorem GoesOn.requester_stays {I J : EntryIx → Prop} {L : Line → Prop} {s t : State} (h : GoesOn I J L s t) {j : EntryIx}
    {x : Txn} {p : PortIx} (hx : s.txn j = some x) (hp : x.work.port? = some p)
    (hc : s.checksResult x.work.kind p x.line = .ok) :
    ∃ y, t.txn j = some y ∧ x.Continued y ∧ t.checksResult y.work.kind p y.line = .ok := by
  obtain ⟨y, hy⟩ := Option.isSome_iff_exists.mp (h.requesters j x p hx hp hc)
  obtain ⟨x', hx', hxy⟩ := h.txns j y hy
  obtain rfl : x = x' := Option.some.inj (hx.symm.trans hx')
  exact ⟨y, hy, hxy, by rw [hxy.work, hxy.line, h.checks]; exact hc⟩

theorem Leaves.requester_stays {I J : EntryIx → Prop} {L : Line → Prop} {i : EntryIx} {s t : State} (h : Leaves I J L i s t)
    {j : EntryIx} {x : Txn} {p : PortIx} (hx : s.txn j = some x) (hp : x.work.port? = some p)
    (hc : s.checksResult x.work.kind p x.line = .ok) :
    ∃ y, t.txn j = some y ∧ x.Continued y ∧ t.checksResult y.work.kind p y.line = .ok := by
  have hne : ∀ {v : State} {y z : Txn}, v.txn j = some y → y.work = x.work → v.txn i = some z → z.work.isHost = true → j ≠ i :=
    fun hy hwork hz hhost hji => by
      obtain rfl := Option.some.inj (hy.symm.trans (hji ▸ hz))
      rw [hwork, (Work.requester_spec hp).2.1] at hhost
      nomatch hhost
  cases h with
  | stays h _ => exact h.requester_stays hx hp hc
  | @abandoned v z h _ hv hhost _ =>
    obtain ⟨y, hy, hxy, hcy⟩ := h.requester_stays hx hp hc
    refine ⟨y, ?_, hxy, hcy⟩
    rw [State.txn_abandon, if_neg (hne hy hxy.work hv hhost), hy]
  | @freed v z _ h _ hv hhost _ _ hrest =>
    obtain ⟨y, hy, hxy, hcy⟩ := h.requester_stays hx hp hc
    have hy' : (v.freeEntry i).txn j = some y := by rw [State.txn_freeEntry, if_neg (hne hy hxy.work hv hhost), hy]
    obtain ⟨y', hy'', hyy, hcy'⟩ := hrest.requester_stays hy' (hxy.work ▸ hp) hcy
    exact ⟨y', hy'', hxy.trans hyy, hcy'⟩

theorem Leaves.lockSetKept {I J : EntryIx → Prop} {L : Line → Prop} {i : EntryIx} {s t : State} (h : Leaves I J L i s t)
    {l : Line} (hl : l ∈ s.hp.lockSet) : l ∈ t.hp.lockSet := by
  cases h with
  | stays h _ => exact h.lockSetKept l hl
  | abandoned h _ _ _ _ => exact h.lockSetKept l hl
  | freed h _ _ _ _ _ hrest => exact hrest.lockSetKept l (h.lockSetKept l hl)

/-! ### What HRST leaves of the locks -/

theorem GoesOn.mono {I I' J : EntryIx → Prop} {L : Line → Prop} {s t : State} (h : GoesOn I J L s t) (hI : ∀ i, I i → I' i) :
    GoesOn I' J L s t :=
  { h with untouched := fun j hj => h.untouched j fun hi => hj (hI j hi) }

/-- R50: once the set has given up line `l`, its lock stays, unless entry 11 holds it. -/
theorem State.Passing.goesOn_after {s : State} {J : EntryIx → Prop} {l : Line} (hs : s.Passing J J fun _ => True)
    (hrecall : ∀ x r, s.txn recallEntry = some x → x.work.isRecall = true → s.lockOf l = some r →
      r.holder = .txn recallEntry → x.line ≠ l) {u : State} (hu : GoesOn J J (fun m => m ≠ l) s u) (a : Option EntryIx) :
    GoesOn (fun _ => True) J (fun m => m ≠ l) s (allEntries.foldl (State.settleProbing a) u.dropProbe).settle := by
  have hu' := hu.mono (I' := fun _ => True) fun _ _ => trivial
  have hopen : s.OpenTo (fun _ => True) J fun m => m ≠ l :=
    { gone := hs.gone
      waiters := fun r hr _ j hj => ⟨trivial, (hs.waiters r hr trivial j hj).2⟩
      queue := fun _ _ => trivial
      channel := fun _ _ _ _ _ => trivial
      probing := fun _ _ _ _ => trivial
      entry11 := trivial
      locks := fun x r hx hx' hr hholder hline => hrecall x r hx hx' (hline ▸ hr) hholder hline }
  exact hu'.trans ((hopen.goesOn hu').afterLockSet a)

/-- R50: a line of the set under which a locked transaction stands in MEM_BUSY. -/
theorem State.HostsAhead.line_of_locked {s₀ s : State} (h : s₀.HostsAhead s []) (a : Option EntryIx) {l : Line}
    {ws : List EntryIx} (hl : l ∈ s.hp.lockSet) (hlock : s.lockOf l = some { line := l, holder := .hostSet, waiters := ws })
    {i : EntryIx} {x : Txn} (hi : i ≠ recallEntry) (hx : s.txn i = some x) (hlocked : x.work.isLocked = true)
    (hphase : x.phase = .memBusy) (hab : x.abandoned = true) (hline : x.line = l)
    (hsole : ∀ j y, s.txn j = some y → y.work.isLocked = true → y.phase = .memBusy → y.line = l → j = i) {t : State}
    (ht : (allEntries.foldl (State.settleProbing a) s.dropLockSet.dropProbe).settle = t) :
    t.lockOf l = some { line := l, holder := .txn i, waiters := ws } ∧ ∃ y, t.txn i = some y ∧ x.Continued y := by
  obtain ⟨v, t₁, hv, hgive, hpassing, hafter⟩ := h.passing_notHost.emptyLockSet.exists_giveUpLines hl
  have hvx : v.txn i = some x := by
    rw [hv.untouched i fun hno => by
      have hhost := hno x hx
      rw [Work.isHost_of_isLocked hlocked] at hhost
      nomatch hhost]
    exact hx
  have hat : v.lockedAtMemory l = some i := State.lockedAtMemory_eq hvx hlocked hphase hab hline fun j y hy hylocked hyphase hyline => by
    obtain ⟨z, hz, hc⟩ := hv.txns j y hy
    refine hsole j z hz (hc.work ▸ hylocked) ?_ (hc.line.symm.trans hyline)
    rcases hc.phase with hp | hp
    · exact hp.symm.trans hyphase
    · rw [hp] at hyphase
      nomatch hyphase
  have hvl : v.lockOf l = some { line := l, holder := .hostSet, waiters := ws } := (hv.locks l (not_not_intro rfl)).trans hlock
  have ht₁ : t₁ = v.putLock { line := l, holder := .txn i, waiters := ws } := by
    rw [← hgive, State.giveUpLineAtHrst, hat, hvl]
    exact if_pos rfl
  have hlock₁ : t₁.lockOf l = some { line := l, holder := .txn i, waiters := ws } := by
    rw [ht₁]
    exact State.lockOf_putLock_self v _
  have hrest := hpassing.goesOn_after (fun y r _ _ hr hholder _ => by
    rw [hlock₁] at hr
    rw [← Option.some.inj hr] at hholder
    exact hi (Holder.txn.inj hholder)) (hafter fun r hr => by
    rw [hlock₁] at hr
    rw [← Option.some.inj hr]
    nofun) a
  rw [← State.dropLockSet, ht] at hrest
  refine ⟨(hrest.locks l (not_not_intro rfl)).trans hlock₁, ?_⟩
  have hx₁ : t₁.txn i = some x := by
    rw [ht₁]
    exact hvx
  obtain ⟨y, hy⟩ := Option.isSome_iff_exists.mp (hrest.hosts i x hx₁ (Work.isHost_of_isLocked hlocked))
  obtain ⟨x', hx', hc⟩ := hrest.txns i y hy
  obtain rfl := Option.some.inj (hx₁.symm.trans hx')
  exact ⟨y, hy, hc⟩

/-- R38, R44: every other line of the set. -/
theorem State.HostsAhead.line_of_released {s₀ s : State} (h : s₀.HostsAhead s []) (a : Option EntryIx) {l : Line}
    {ws : List EntryIx} (hl : l ∈ s.hp.lockSet) (hlock : s.lockOf l = some { line := l, holder := .hostSet, waiters := ws })
    (hnone : ∀ j y, s.txn j = some y → y.work.isLocked = true → y.phase = .memBusy → y.line ≠ l) {t : State}
    (ht : (allEntries.foldl (State.settleProbing a) s.dropLockSet.dropProbe).settle = t) :
    (ws = [] → t.lockOf l = none) ∧ ∀ i x p rest, ws = i :: rest → s.txn i = some x → x.line = l → x.work.port? = some p →
      s.checksResult x.work.kind p l = .ok →
      t.lockOf l = some { line := l, holder := .txn i, waiters := rest } ∧
      ∃ y, t.txn i = some y ∧ y.work = x.work ∧ y.phase = .memWait := by
  obtain ⟨v, t₁, hv, hgive, hpassing, hafter⟩ := h.passing_notHost.emptyLockSet.exists_giveUpLines hl
  have hvgone : v.HostGone := (h.passing_notHost.emptyLockSet.goesOn hv).gone
  have hat : v.lockedAtMemory l = none := State.lockedAtMemory_eq_none fun j y hy hylocked hyphase hyline => by
    obtain ⟨z, hz, hc⟩ := hv.txns j y hy
    refine hnone j z hz (hc.work ▸ hylocked) ?_ (hc.line.symm.trans hyline)
    rcases hc.phase with hp | hp
    · exact hp.symm.trans hyphase
    · rw [hp] at hyphase
      nomatch hyphase
  have hvl : v.lockOf l = some { line := l, holder := .hostSet, waiters := ws } := (hv.locks l (not_not_intro rfl)).trans hlock
  have ht₁ : t₁ = v.handOff l ws := by
    rw [← hgive, State.giveUpLineAtHrst, hat, hvl]
    dsimp only
    rw [State.giveUpLine, hvl]
    dsimp only
    rw [if_pos rfl, State.Deaf.wakeSweep (.inl hvgone.sweep)]
  refine ⟨fun hws => ?_, fun i x p rest hws hx hline hp hc => ?_⟩
  · have hlock₁ : t₁.lockOf l = none := by
      rw [ht₁, hws]
      exact v.lockOf_dropLock_self l
    have hrest := hpassing.goesOn_after (fun y r _ _ hr _ _ => by rw [hlock₁] at hr; nomatch hr)
      (hafter fun r hr => by rw [hlock₁] at hr; nomatch hr) a
    rw [← State.dropLockSet, ht] at hrest
    exact (hrest.locks l (not_not_intro rfl)).trans hlock₁
  · obtain ⟨z, hz, hxz, hcz⟩ := hv.requester_stays (x := x) hx hp (hline ▸ hc)
    have hzl : z.line = l := hxz.line.trans hline
    have hzp : z.work.port? = some p := hxz.work ▸ hp
    let u : State := v.putLock { line := l, holder := .txn i, waiters := rest }
    have hlook : u.lookup i = { state := (u.lookedAt i z.line).toMemWait i, completed := false } :=
      State.lookup_of_noProbe (s := u) hz hzp (hxz.work ▸ hcz) (.inr (.inr (.inl (hvgone.isHeld z.line))))
    have hhand : t₁ = (u.lookedAt i z.line).toMemWait i := by
      rw [ht₁, hws]
      refine State.handOff_cons hz ?_
      rw [State.takeLock_of_unlocked (Work.requester_spec hzp).1]
      exact hlook
    have hlock₁ : t₁.lockOf l = some { line := l, holder := .txn i, waiters := rest } := by
      rw [hhand]
      exact State.lockOf_putLock_self v _
    have hx₁ : ∃ y, t₁.txn i = some y ∧ y.work = x.work ∧ y.line = z.line ∧ y.phase = .memWait := by
      have hlooked := State.txnBecomes_modTxn (s := u) hz fun t =>
        { t with snapshot := some (u.rm.resolve z.line), dirResult := some (u.consulted z.line (u.rm.resolve z.line)) }
      rw [hhand, State.txn_toMemWait, if_pos rfl, State.lookedAt, hlooked.1]
      exact ⟨_, rfl, (GoesOn.loadWrite _).work.trans hxz.work, (GoesOn.loadWrite _).line, rfl⟩
    obtain ⟨y, hy, hywork, hyline, hyphase⟩ := hx₁
    have hrest := hpassing.goesOn_after (fun x' r hx' hrecall hr hholder _ => by
      rw [hlock₁] at hr
      rw [← Option.some.inj hr] at hholder
      rw [← Holder.txn.inj hholder, hy] at hx'
      rw [← Option.some.inj hx', hywork, (Work.requester_spec hp).2.2.1] at hrecall
      nomatch hrecall) (hafter fun r hr => by
      rw [hlock₁] at hr
      rw [← Option.some.inj hr]
      nofun) a
    rw [← State.dropLockSet, ht] at hrest
    have hcy : t₁.checksResult y.work.kind p y.line = .ok := by
      rw [hyline, hywork, ← hxz.work, hhand]
      exact hcz
    obtain ⟨y', hy', hc', -⟩ := hrest.requester_stays hy (hywork ▸ hp) hcy
    refine ⟨(hrest.locks l (not_not_intro rfl)).trans hlock₁, y', hy', hc'.work.trans hywork, ?_⟩
    rcases hc'.phase with hphase | hphase
    · exact hphase.trans hyphase
    · exact hphase

theorem State.continued_hostDropped {s : State} {j : EntryIx} {x : Txn} (hx : s.txn j = some x) :
    ∃ x₀, s.hostDropped.txn j = some x₀ ∧ x.Continued x₀ ∧ x₀.phase = x.phase ∧ x₀.abandoned = x.abandoned := by
  rw [s.txn_hostDropped, hx]
  refine ⟨_, rfl, ?_⟩
  split
  · exact ⟨⟨rfl, rfl, id, .inl rfl, fun _ => rfl⟩, rfl, rfl⟩
  · exact ⟨⟨rfl, rfl, id, .inl rfl, id⟩, rfl, rfl⟩

theorem State.of_hostDropped {s : State} {j : EntryIx} {x₀ : Txn} (hx₀ : s.hostDropped.txn j = some x₀) :
    ∃ x, s.txn j = some x ∧ x.Continued x₀ ∧ x₀.phase = x.phase ∧ x₀.abandoned = x.abandoned := by
  rcases hx : s.txn j with _ | x
  · rw [s.txn_hostDropped, hx] at hx₀
    nomatch hx₀
  · obtain ⟨x', hx', hc⟩ := State.continued_hostDropped hx
    obtain rfl := Option.some.inj (hx₀.symm.trans hx')
    exact ⟨x, rfl, hc⟩

/-- HRST finds no host transaction in MEM_BUSY that waits for a line. -/
theorem State.hostsAhead_hostDropped {s : State} (h : ∀ r ∈ s.tt.locks, ∀ i ∈ r.waiters, ∀ x, s.txn i = some x →
    x.work.isHost = true → x.phase = .lockWait ∧ x.line = r.line) : s.hostDropped.HostsAhead s.hostDropped allEntries := by
  have hlocks : s.hostDropped.tt.locks = s.tt.locks := by rw [s.hostDropped_eq]
  refine ⟨⟨s.hostGone_hostDropped, fun r hr _ j hj => ⟨fun x₀ hx₀ hhost hbusy => ?_, trivial⟩⟩, fun j x hx => ⟨x, hx, .refl x⟩,
    fun j _ _ _ _ => List.mem_finRange j, fun k e he => ?_⟩
  · obtain ⟨x, hx, hc, hphase, -⟩ := State.of_hostDropped hx₀
    rw [hphase, (h r (hlocks ▸ hr) j hj x hx (hc.work ▸ hhost)).1] at hbusy
    nomatch hbusy
  · rw [s.hostDropped_eq, Vector.getElem_replicate] at he
    nomatch he

/-- R38, R50: the wait list of a line of the set, once the host's transactions are withdrawn. -/
theorem State.setLine_hostDropped {s : State} (h : ∀ r ∈ s.tt.locks, ∀ i ∈ r.waiters, ∀ x, s.txn i = some x →
    x.work.isHost = true → x.phase = .lockWait ∧ x.line = r.line) {l : Line} {ws : List EntryIx}
    (hl : s.lockOf l = some { line := l, holder := .hostSet, waiters := ws }) :
    s.hostDropped.SetLine s.hostDropped l ws allEntries := by
  have hlocks : s.hostDropped.tt.locks = s.tt.locks := by rw [s.hostDropped_eq]
  have hwaits := h _ (State.mem_locks_of_lockOf hl)
  refine ⟨⟨s.hostGone_hostDropped, fun r hr hne j hj => ⟨fun hjw x₀ hx₀ => ?_, trivial⟩⟩, ?_, fun j hj _ x₀ hx₀ hhost => ?_⟩
  · refine Bool.eq_false_iff.mpr fun hhost => ?_
    obtain ⟨x, hx, hc, -, -⟩ := State.of_hostDropped hx₀
    have hhost' : x.work.isHost = true := hc.work ▸ hhost
    exact hne ((h r (hlocks ▸ hr) j hj x hx hhost').2.symm.trans (hwaits j hjw x hx hhost').2)
  · have hall : (ws.filter fun j => decide (j ∈ allEntries) || !(s.hostDropped.txn j).any fun x => x.work.isHost) = ws :=
      List.filter_eq_self.mpr fun j _ => by
        rw [decide_eq_true (show j ∈ allEntries from List.mem_finRange j)]
        rfl
    rw [hall, State.lockOf, hlocks]
    exact hl
  · obtain ⟨x, hx, hc, hphase, -⟩ := State.of_hostDropped hx₀
    obtain ⟨hwait, hline⟩ := hwaits j hj x hx (hc.work ▸ hhost)
    exact ⟨hx₀, hphase.trans hwait, hc.line.trans hline⟩

theorem State.withoutHost_hostDropped (s : State) (ws : List EntryIx) : s.hostDropped.withoutHost ws = s.withoutHost ws := by
  refine List.filter_congr fun j _ => ?_
  rw [s.txn_hostDropped, Option.any_map]
  refine congrArg (fun f => !Option.any f (s.txn j)) (funext fun x => ?_)
  show (if j = recallEntry then _ else _ : Txn).work.isHost = _
  split <;> rfl

theorem State.Passing.lockSetKept_abandonHosts {s : State} {I J : EntryIx → Prop} (hs : s.Passing I J fun _ => True)
    (as : List EntryIx) {l : Line} (hl : l ∈ s.hp.lockSet) : l ∈ (as.foldl State.abandonHost s).hp.lockSet := by
  induction as generalizing s with
  | nil => exact hl
  | cons i as ih =>
    have h := hs.leaves i
    exact ih (h.passing hs) (h.lockSetKept hl)

theorem State.Passing.requester_stays_abandonHosts {s : State} {I J : EntryIx → Prop} (hs : s.Passing I J fun _ => True)
    (as : List EntryIx) {j : EntryIx} {x : Txn} {p : PortIx} (hx : s.txn j = some x) (hp : x.work.port? = some p)
    (hc : s.checksResult x.work.kind p x.line = .ok) :
    ∃ y, (as.foldl State.abandonHost s).txn j = some y ∧ x.Continued y ∧
      (as.foldl State.abandonHost s).checksResult y.work.kind p y.line = .ok := by
  induction as generalizing s x with
  | nil => exact ⟨x, hx, .refl x, hc⟩
  | cons i as ih =>
    have h := hs.leaves i
    obtain ⟨y, hy, hxy, hcy⟩ := h.requester_stays hx hp hc
    obtain ⟨z, hz, hyz, hcz⟩ := ih (h.passing hs) hy (hxy.work ▸ hp) hcy
    exact ⟨z, hz, hxy.trans hyz, hcz⟩

/-- Settles O6: what the assertion of HRST leaves of the directory and the host lock set, its release, and the cycles it holds
off. -/
theorem hrstEmptiesTheDirectoryAndHoldsOffCycles : Obligations.HrstEmptiesTheDirectoryAndHoldsOffCycles := by
  refine ⟨fun s hs hrst _ hhosts => ?assert, fun s hrst => ?release, fun s c a m e k hs hrst hc => ?cycles⟩
  case release => exact if_pos hrst
  case cycles =>
    have hreset : s.clearOut.pins.resetAsserted = false := hs
    have hoff : ∀ f, live (onFreeBus f) s = .next { s with out := [] } := fun f => by
      rw [live_of_running hs, onFreeBus]
      exact if_pos hrst
    simp only [List.mem_cons, List.not_mem_nil, or_false] at hc
    rcases hc with rfl | rfl | rfl | rfl | rfl | rfl | rfl | rfl <;> exact hoff _
  case assert =>
    obtain ⟨v, hv⟩ : ∃ v, v = allEntries.foldl State.abandonHost s.hostDropped := ⟨_, rfl⟩
    obtain ⟨t, ht⟩ : ∃ t, (allEntries.foldl (State.settleProbing s.attachedEntry) v.dropLockSet.dropProbe).settle = t := ⟨_, rfl⟩
    have hexec : exec .hrstAssert s = .next t := by
      rw [exec_hrstAssert hs hrst, ← hv, ht]
    have hahead₀ := State.hostsAhead_hostDropped hhosts
    have hahead : s.hostDropped.HostsAhead v [] := by
      rw [hv]
      exact hahead₀.foldl
    have hopen : v.OpenTo (fun _ => True) v.NotHost fun _ => True :=
      { gone := hahead.passing.gone
        waiters := fun r hr _ j hj => ⟨trivial, (hahead.passing_notHost.waiters r hr trivial j hj).2⟩
        queue := fun _ _ => trivial
        channel := fun _ _ _ _ _ => trivial
        probing := fun _ _ _ _ => trivial
        entry11 := trivial
        locks := fun _ _ _ _ _ _ => trivial }
    have hafter : GoesOn (fun _ => True) v.emptyLockSet.NotHost (fun _ => True) v.emptyLockSet t := ht ▸ hopen.afterHosts _
    have hback : ∀ {j y}, v.txn j = some y → y.phase = .memBusy → ∃ x, s.txn j = some x ∧ x.Continued y ∧ x.phase = .memBusy :=
      fun {j y} hy hphase => by
        obtain ⟨x₀, hx₀, hc⟩ := hahead.continued j y hy
        obtain ⟨x, hx, hc', hphase', -⟩ := State.of_hostDropped hx₀
        refine ⟨x, hx, hc'.trans hc, ?_⟩
        rcases hc.phase with hp | hp
        · exact (hp.trans hphase').symm.trans hphase
        · rw [hp] at hphase
          nomatch hphase
    refine ⟨t, hexec, hafter.sets_eq_nil hahead.sets_eq_nil, hafter.lockSet_eq_nil rfl,
      hafter.recallWait.trans hahead.passing.gone.recallWait, fun l ws hl hlock => ?_⟩
    have hvl : v.lockOf l = some { line := l, holder := .hostSet, waiters := s.withoutHost ws } := by
      rw [hv, ((State.setLine_hostDropped hhosts hlock).foldl (List.nodup_finRange 12) hahead₀).lockOf_eq,
        s.withoutHost_hostDropped]
    have hmem : l ∈ v.hp.lockSet := by
      rw [hv]
      refine hahead₀.passing.lockSetKept_abandonHosts allEntries ?_
      rw [s.hostDropped_eq]
      exact hl
    refine ⟨fun i x hi hat hline => ?_, fun hnone => ?_⟩
    · obtain ⟨hx, hlocked, hphase, hsole⟩ := hat
      have hhost := Work.isHost_of_isLocked hlocked
      obtain ⟨x₀, hx₀, hc₀, hphase₀, -⟩ := State.continued_hostDropped hx
      have hvx : v.txn i = some { x₀ with abandoned := true } := by
        rw [hv]
        exact hahead₀.passing.txn_abandonHosts_eq_abandoned
          (fun hoff => hoff x₀ hx₀ (hc₀.work ▸ hhost) (hphase₀.trans hphase)) hx₀ (hc₀.work ▸ hhost) (hphase₀.trans hphase)
      obtain ⟨hlock', y, hy, hc⟩ := hahead.line_of_locked s.attachedEntry hmem hvl hi hvx (hc₀.work ▸ hlocked)
        (hphase₀.trans hphase) rfl (hc₀.line.trans hline) (fun j y hy hylocked hyphase hyline => by
          obtain ⟨z, hz, hcz, hzphase⟩ := hback hy hyphase
          by_contra hji
          exact hsole j z hji hz (hcz.work ▸ hylocked) hzphase (hcz.line.symm.trans (hyline.trans hline.symm))) ht
      exact ⟨hlock', y, hy, hc.work.trans hc₀.work, hc.abandoned rfl⟩
    · obtain ⟨hfree, hhead⟩ := hahead.line_of_released s.attachedEntry hmem hvl (fun j y hy hylocked hyphase hyline => by
        obtain ⟨z, hz, hcz, hzphase⟩ := hback hy hyphase
        exact hnone j z hz (hcz.work ▸ hylocked) hzphase (hcz.line.symm.trans hyline)) ht
      refine ⟨hfree, fun i y p rest hws hy hline hp hc => ?_⟩
      obtain ⟨x₀, hx₀, hc₀, -, -⟩ := State.continued_hostDropped hy
      have hcx₀ : s.hostDropped.checksResult x₀.work.kind p x₀.line = .ok := by
        rw [hc₀.work, hc₀.line, hline]
        exact State.checksResult_hostDropped hc
      obtain ⟨z, hz, hcz, hchecks⟩ := hahead₀.passing.requester_stays_abandonHosts allEntries hx₀ (hc₀.work ▸ hp) hcx₀
      rw [← hv] at hz hchecks
      have hzl : z.line = l := hcz.line.trans (hc₀.line.trans hline)
      have hzwork : z.work = y.work := hcz.work.trans hc₀.work
      rw [hzl] at hchecks
      obtain ⟨hlock', w, hw, hwork, hphase⟩ := hhead i z p rest hws hz hzl (hzwork ▸ hp) hchecks
      exact ⟨hlock', w, hw, hwork.trans hzwork, hphase⟩

end Sys2Proof.Machine
end

section
/-! SUPPORT. The probe machinery at the assertion of HRST (R26, R78, R117, R151, R177). -/

set_option Elab.async false

namespace Sys2Proof.Machine

/-! ### HRST without host transactions -/

/-- R26, R50: the bridge without its host side, its directory empty. -/
structure State.Bare (s : State) : Prop extends s.HostGone where
  empty : ∀ k : SetIx, s.pd.sets[k.val] = []

theorem State.bare_hostDropped (s : State) : s.hostDropped.Bare where
  toHostGone := s.hostGone_hostDropped
  empty k := by rw [s.hostDropped_eq, Vector.getElem_replicate]

/-- With no transaction of the host's and no line in the host lock set, HRST settles the probe machinery alone. -/
theorem exec_hrstAssert_of_noHost {s : State} (hs : s.Running) (hrst : s.pins.hrstAsserted = false) (hset : s.hp.lockSet = [])
    (hhost : ∀ j x, s.txn j = some x → x.work.isHost = false) :
    exec .hrstAssert s =
      .next (allEntries.foldl (State.settleProbing s.attachedEntry) s.hostDropped.dropProbe).settle := by
  have hno : ∀ as : List EntryIx, as.foldl State.abandonHost s.hostDropped = s.hostDropped := fun as => by
    induction as with
    | nil => rfl
    | cons i as ih =>
      have hstay : s.hostDropped.abandonHost i = s.hostDropped := if_neg fun hany => by
        obtain ⟨x₀, hx₀, hh⟩ := (Option.any_eq_true _ _).mp hany
        obtain ⟨x, hx, hc, -, -⟩ := State.of_hostDropped hx₀
        rw [hc.work, hhost i x hx] at hh
        nomatch hh
      rw [List.foldl_cons, hstay, ih]
  have hset₁ : s.hostDropped.hp.lockSet = [] := by
    rw [s.hostDropped_eq]
    exact hset
  have hdrop : s.hostDropped.dropLockSet = s.hostDropped := by
    have hhp : s.hostDropped.hp = { s.hostDropped.hp with lockSet := [], lockTimer := none, lastLocked := none } := by
      rw [s.hostDropped_eq, ← hset]
    rw [State.dropLockSet, hset₁, List.foldl_nil, State.emptyLockSet, ← hhp]
  rw [exec_hrstAssert hs hrst, hno, hdrop]

theorem State.settleProbing_of_other {s : State} {i : EntryIx} (h : ∀ x, s.txn i = some x → x.phase ≠ .probing ∧ x.phase ≠ .wbWait)
    (a : Option EntryIx) : s.settleProbing a i = s := by
  rw [State.settleProbing]
  split
  · rfl
  · rename_i x hx
    obtain ⟨hp, hw⟩ := h x hx
    split
    · exact absurd ‹_› hp
    · exact absurd ‹_› hw
    all_goals rfl

/-- Only the entries of `is` stand in a probe phase, one after another. -/
theorem State.foldl_settleProbing_of_other {s : State} {as : List EntryIx}
    (h : ∀ i ∈ as, ∀ x, s.txn i = some x → x.phase ≠ .probing ∧ x.phase ≠ .wbWait) (a : Option EntryIx) :
    as.foldl (State.settleProbing a) s = s := by
  induction as with
  | nil => rfl
  | cons i as ih =>
    rw [List.foldl_cons, State.settleProbing_of_other (h i List.mem_cons_self)]
    exact ih fun j hj => h j (List.mem_cons_of_mem i hj)

/-- R187: one entry stands in a probe phase, and none comes into one as it is settled. -/
theorem State.foldl_settleProbing_of_one {s t : State} {i : EntryIx} (a : Option EntryIx)
    (h : ∀ j, j ≠ i → ∀ x, s.txn j = some x → x.phase ≠ .probing ∧ x.phase ≠ .wbWait) (ht : s.settleProbing a i = t)
    (h' : ∀ j, j ≠ i → ∀ x, t.txn j = some x → x.phase ≠ .probing ∧ x.phase ≠ .wbWait) :
    allEntries.foldl (State.settleProbing a) s = t := by
  obtain ⟨before, after, hsplit⟩ := List.append_of_mem (List.mem_finRange i)
  have hnodup : (before ++ i :: after).Nodup := hsplit ▸ List.nodup_finRange 12
  rw [List.nodup_append] at hnodup
  obtain ⟨-, hafter, hdisjoint⟩ := hnodup
  rw [allEntries, hsplit, List.foldl_append, List.foldl_cons,
    State.foldl_settleProbing_of_other fun j hj => h j fun hji => hdisjoint j hj i List.mem_cons_self hji, ht]
  exact State.foldl_settleProbing_of_other (fun j hj => h' j fun hji => (List.nodup_cons.mp hafter).1 (hji ▸ hj)) a

/-! ### A transaction that goes on without the host -/

theorem State.Bare.dropEntry {s : State} (h : s.Bare) (l : Line) : s.dropEntry l = s := by
  refine if_neg fun hhas => ?_
  obtain ⟨e, he⟩ := Option.isSome_iff_exists.mp hhas
  have hmem := List.mem_of_find?_eq_some he
  rw [State.dirSet, h.empty (setOf l)] at hmem
  nomatch hmem

theorem State.Bare.removeProbed {s : State} (h : s.Bare) (i : EntryIx) (l : Line) : s.removeProbed i l = s := by
  rw [State.Deaf.removeProbed (.inl h.sweep) (.inr h.recallLink), h.dropEntry]

theorem State.Bare.afterMiss {s : State} (h : s.Bare) (i : EntryIx) : s.afterMiss i true = s.goOnWithoutData i := by
  rw [State.afterMiss, State.goOnWithoutData]
  split
  · rfl
  · rename_i x hx
    rw [if_pos rfl, h.removeProbed, State.goOnWithoutData, hx]

/-- R64, R65: the data of a transaction that has it. -/
theorem State.Bare.dataTaken {s : State} (h : s.Bare) {i : EntryIx} {x : Txn} (hx : s.txn i = some x) :
    s.dataTaken i = (s.modTxn i fun t => { t.workOnData with wbTimer := none }).toMemWait i := by
  rw [State.Deaf.dataTaken (.inl h.sweep) hx (.inr h.recallLink), h.dropEntry, ite_self]

theorem State.handOff_of_none {s : State} (h : ∀ j, s.txn j = none) (l : Line) (ws : List EntryIx) :
    s.handOff l ws = s.dropLock l := by
  induction ws with
  | nil => rfl
  | cons i ws ih =>
    rw [State.handOff, h i]
    exact ih

/-- R36: a RECALL, alone in the table, ends. -/
theorem State.Bare.endRecall {u : State} (hb : u.Bare) {x : Txn} (hx : u.txn recallEntry = some x)
    (hr : x.work.isRecall = true) (hother : ∀ j, j ≠ recallEntry → u.txn j = none) :
    (u.endRecall = u.freeEntry recallEntry ∧ ¬ u.HoldsAlone recallEntry x.line) ∨
      u.endRecall = (u.freeEntry recallEntry).dropLock x.line := by
  have hnone : ∀ j, (u.freeEntry recallEntry).txn j = none := fun j => by
    rw [State.txn_freeEntry]
    split
    · rfl
    · exact hother j ‹_›
  have hgive : ∀ v : State, v.msc = u.msc → v.tt.recallWait = u.tt.recallWait → v.giveEntry11 = v := fun v hm hw =>
    State.giveEntry11_of_stopped (by rw [hm]; exact hb.sweep) (hw.trans hb.recallWait)
  have hend : u.endRecall = ((u.freeEntry recallEntry).releaseLock recallEntry x.line).giveEntry11 := by
    rw [State.endRecall, hx]
    exact if_pos hr
  rw [hend, State.releaseLock]
  split
  · rename_i r hr'
    split
    · rw [State.Deaf.hearRelease (.inl (hb.freeEntry recallEntry).sweep), State.handOff_of_none hnone]
      exact .inr (hgive _ rfl rfl)
    · rename_i hno
      refine .inl ⟨hgive _ rfl rfl, fun hl => hno ?_⟩
      rw [← Option.some.inj (Eq.trans (show u.lockOf x.line = _ from hl).symm hr')]
  · rename_i hr'
    exact .inl ⟨hgive _ rfl rfl, fun hl => nomatch (show u.lockOf x.line = _ from hl).symm.trans hr'⟩

/-- R60: the one transaction in the table goes on without write-back data. -/
theorem State.Bare.exists_goOn {u : State} (hb : u.Bare) {i : EntryIx} {x : Txn} (hx : u.txn i = some x)
    (hother : ∀ j, j ≠ i → u.txn j = none) :
    ∃ v, u.goOnWithoutData i = v ∧
      v = { u with tt := { u.tt with entries := v.tt.entries, locks := v.tt.locks }, mp := v.mp } ∧
      (∀ j, j ≠ i → v.txn j = none) ∧ (x.work.isRecall = false → v = u.toMemWait i) ∧
      (x.work.isRecall = true → i = recallEntry → u.HoldsAlone i x.line →
        v.mp = u.mp ∧ u.TxnBecomes v i none ∧ u.LockBecomes v x.line none) := by
  rw [State.goOnWithoutData, hx]
  dsimp only
  by_cases hr : x.work.isRecall = true
  · rw [if_pos hr]
    by_cases hi : i = recallEntry
    · subst hi
      have hfreed : ∀ j, j ≠ recallEntry → (u.freeEntry recallEntry).txn j = none := fun j hj => by
        rw [State.txn_freeEntry, if_neg hj]
        exact hother j hj
      rcases hb.endRecall hx hr hother with ⟨h, hno⟩ | h <;> rw [h]
      · exact ⟨_, rfl, rfl, hfreed, fun h => absurd h (by rw [hr]; nofun), fun _ _ hl => absurd hl hno⟩
      · exact ⟨_, rfl, rfl, hfreed, fun h => absurd h (by rw [hr]; nofun), fun _ _ _ =>
          ⟨rfl, u.txnBecomes_freeEntry recallEntry, (u.freeEntry recallEntry).lockBecomes_dropLock x.line⟩⟩
    · have hend : u.endRecall = u := by
        rw [State.endRecall, hother recallEntry (Ne.symm hi)]
      rw [hend]
      exact ⟨u, rfl, rfl, hother, fun h => absurd h (by rw [hr]; nofun), fun _ h => absurd h hi⟩
  · rw [if_neg hr]
    refine ⟨u.toMemWait i, rfl, rfl, fun j hj => ?_, fun _ => rfl, fun h => absurd h hr⟩
    rw [State.txn_toMemWait, if_neg hj]
    exact hother j hj

/-- R78, R151: what a lost write-back leaves in the event unit, the flag it is recorded under being set. -/
theorem State.reported_handRecord {s : State} (r : FaultRec) (h : s.ev.flags ||| (1#17 <<< r.kind.event.bit) = s.ev.flags) :
    ∃ e, s.handRecord r = { s with ev := e } ∧ s.ev.Reported r e := by
  have hraise : s.raise r.kind.event = s := by
    rw [State.raise, h]
  obtain ⟨e, he, hr⟩ := s.exists_reportError r
  rw [State.reportError, hraise] at he
  exact ⟨e, he, hr⟩

/-- R60, R78: a transaction `x` without the data of a write-back has gone on, alone in the table. -/
structure State.WentOn (u v : State) (i : EntryIx) (x : Txn) : Prop where
  ofRequester : x.work.isRecall = false → v.tt.locks = u.tt.locks ∧ v.mp = { u.mp with waiting := joinTail u.mp.waiting i } ∧
    ∃ timer, u.TxnBecomes v i (some { ({ x with wbTimer := timer } : Txn).loadWrite with phase := .memWait })
  ofRecall : x.work.isRecall = true → i = recallEntry → u.HoldsAlone i x.line →
    v.mp = u.mp ∧ u.TxnBecomes v i none ∧ u.LockBecomes v x.line none

theorem State.Bare.exists_afterMiss {u : State} (hb : u.Bare) {i : EntryIx} {x : Txn} (hx : u.txn i = some x)
    (hother : ∀ j, j ≠ i → u.txn j = none) :
    ∃ v, u.afterMiss i true = v ∧
      v = { u with tt := { u.tt with entries := v.tt.entries, locks := v.tt.locks }, mp := v.mp } ∧
      (∀ j, j ≠ i → v.txn j = none) ∧ u.WentOn v i x := by
  obtain ⟨v, hv, hframe, hnone, hreq, hrecall⟩ := hb.exists_goOn hx hother
  refine ⟨v, (hb.afterMiss i).trans hv, hframe, hnone, fun hr => ?_, hrecall⟩
  rw [hreq hr]
  refine ⟨rfl, rfl, x.wbTimer, ?_⟩
  exact (State.txnBecomes_refl hx).toMemWait

theorem State.Bare.exists_loseWriteback {u : State} (hb : u.Bare) {i : EntryIx} {x : Txn} (hx : u.txn i = some x)
    (hother : ∀ j, j ≠ i → u.txn j = none)
    (hflag : u.ev.flags ||| (1#17 <<< FaultKind.writebackLost.event.bit) = u.ev.flags) :
    ∃ v, u.loseWriteback i x = v ∧
      v = { u with tt := { u.tt with entries := v.tt.entries, locks := v.tt.locks }, mp := v.mp, ev := v.ev } ∧
      (∀ j, j ≠ i → v.txn j = none) ∧ u.ev.Reported (x.record .writebackLost) v.ev ∧ u.WentOn v i x := by
  obtain ⟨e, he, hreported⟩ := u.reported_handRecord (x.record .writebackLost) hflag
  let y : Txn := { x with wbTimer := none }
  obtain ⟨w, hw⟩ : ∃ w, w = State.modTxn i (fun t => { t with wbTimer := none }) { u with ev := e } := ⟨_, rfl⟩
  have hwy : u.TxnBecomes w i (some y) := by
    rw [hw]
    exact State.txnBecomes_modTxn (s := { u with ev := e }) hx _
  have hwgone : w.HostGone := by
    rw [hw]
    have h := GoesOn.modTxn (I := fun _ => True) (J := fun _ => True) (L := fun _ => True) (i := i)
      (f := fun t => { t with wbTimer := none }) { u with ev := e } trivial fun _ => ⟨rfl, rfl, id, .inl rfl, id⟩
    exact h.hostGone { hb.toHostGone with }
  have hwframe : w = { u with tt := { u.tt with entries := w.tt.entries }, ev := e } := by
    rw [hw]
    rfl
  have hwb : w.Bare := { hwgone with empty := by rw [hwframe]; exact hb.empty }
  obtain ⟨v, hv, hframe, hnone, hwent⟩ := hwb.exists_afterMiss hwy.1 fun j hj => (hwy.2 j hj).trans (hother j hj)
  have hvev : v.ev = e := by rw [hframe, hwframe]
  refine ⟨v, ?_, ?_, hnone, hvev ▸ hreported, ?_⟩
  · rw [State.loseWriteback, he, ← hw]
    exact hv
  · rw [hvev]
    refine hframe.trans ?_
    rw [hwframe]
  · have hlocks : w.tt.locks = u.tt.locks := by rw [hwframe]
    have hmp : w.mp = u.mp := by rw [hwframe]
    refine ⟨fun hr => ?_, fun hr hi hl => ?_⟩
    · obtain ⟨h1, h2, timer, h3⟩ := hwent.ofRequester hr
      exact ⟨h1.trans hlocks, by rw [h2, hmp], timer, hwy.trans h3⟩
    · obtain ⟨h1, h2, h3⟩ := hwent.ofRecall hr hi (show w.lockOf x.line = _ by rw [State.lockOf, hlocks]; exact hl)
      refine ⟨h1.trans hmp, hwy.trans h2, h3.1, fun m hm => (h3.2 m hm).trans ?_⟩
      rw [State.lockOf, State.lockOf, hlocks]

/-- R78: what becomes of the one transaction in the table. -/
theorem State.Bare.exists_settleProbing {u : State} (hb : u.Bare) {i : EntryIx} {x : Txn} (a : Option EntryIx)
    (hx : u.txn i = some x) (hother : ∀ j, j ≠ i → u.txn j = none)
    (hflag : u.ev.flags ||| (1#17 <<< FaultKind.writebackLost.event.bit) = u.ev.flags) :
    ∃ v, u.settleProbing a i = v ∧
      v = { u with tt := { u.tt with entries := v.tt.entries, locks := v.tt.locks }, mp := v.mp, ev := v.ev } ∧
      (∀ j, j ≠ i → v.txn j = none) ∧
      (x.phase = .probing → x.wbData = true → v.ev = u.ev ∧ v.tt.locks = u.tt.locks ∧
        v.mp = { u.mp with waiting := joinTail u.mp.waiting i } ∧
        u.TxnBecomes v i (some { ({ x.workOnData with wbTimer := none } : Txn).loadWrite with phase := .memWait })) ∧
      (x.phase = .probing → x.wbData = false → a ≠ some i → v.ev = u.ev ∧ u.WentOn v i x) ∧
      ((x.phase = .probing ∧ x.wbData = false ∧ a = some i) ∨ x.phase = .wbWait →
        u.ev.Reported (x.record .writebackLost) v.ev ∧ u.WentOn v i x) := by
  by_cases hp : x.phase = .probing
  · have hwb : x.phase ≠ .wbWait := by rw [hp]; nofun
    cases hd : x.wbData with
    | true =>
      have hset : u.settleProbing a i = (u.modTxn i fun t => { t.workOnData with wbTimer := none }).toMemWait i := by
        rw [State.settleProbing, hx]
        dsimp only
        rw [hp]
        dsimp only
        rw [if_pos hd, hb.dataTaken hx]
      have htable : u.TxnBecomes ((u.modTxn i fun t => { t.workOnData with wbTimer := none }).toMemWait i) i
          (some { ({ x.workOnData with wbTimer := none } : Txn).loadWrite with phase := .memWait }) :=
        (State.txnBecomes_modTxn hx _).toMemWait
      refine ⟨_, hset, rfl, fun j hj => (htable.2 j hj).trans (hother j hj), fun _ _ => ⟨rfl, rfl, rfl, htable⟩,
        fun _ h => (nomatch h), fun h => ?_⟩
      rcases h with ⟨-, h, -⟩ | h
      · nomatch h
      · exact absurd h hwb
    | false =>
      by_cases ha : a = some i
      · obtain ⟨v, hv, hframe, hnone, hev, hwent⟩ := hb.exists_loseWriteback hx hother hflag
        refine ⟨v, ?_, hframe, hnone, fun _ h => (nomatch h), fun _ _ h => absurd ha h, fun _ => ⟨hev, hwent⟩⟩
        rw [State.settleProbing, hx]
        dsimp only
        rw [hp]
        dsimp only
        rw [if_neg (by rw [hd]; nofun), if_pos ha, hv]
      · obtain ⟨v, hv, hframe, hnone, hwent⟩ := hb.exists_afterMiss hx hother
        have hev : v.ev = u.ev := by rw [hframe]
        refine ⟨v, ?_, ?_, hnone, fun _ h => (nomatch h), fun _ _ _ => ⟨hev, hwent⟩, fun h => ?_⟩
        · rw [State.settleProbing, hx]
          dsimp only
          rw [hp]
          dsimp only
          rw [if_neg (by rw [hd]; nofun), if_neg ha, hv]
        · rw [hev]
          exact hframe
        · rcases h with ⟨-, -, h⟩ | h
          · exact absurd h ha
          · exact absurd h hwb
  · by_cases hw : x.phase = .wbWait
    · obtain ⟨v, hv, hframe, hnone, hev, hwent⟩ := hb.exists_loseWriteback hx hother hflag
      refine ⟨v, ?_, hframe, hnone, fun h => absurd h hp, fun h => absurd h hp, fun _ => ⟨hev, hwent⟩⟩
      rw [State.settleProbing, hx]
      dsimp only
      rw [hw]
      exact hv
    · refine ⟨u, State.settleProbing_of_other (fun y hy => ?_) a, rfl, hother, fun h => absurd h hp, fun h => absurd h hp,
        fun h => ?_⟩
      · obtain rfl := Option.some.inj (hx.symm.trans hy)
        exact ⟨hp, hw⟩
      · rcases h with ⟨h, -⟩ | h
        · exact absurd h hp
        · exact absurd h hw

/-! ### The probe dropped -/

theorem State.bare_dropProbe {s : State} (h : s.Bare) : s.dropProbe.Bare := by
  have hopen : s.OpenTo (fun _ => True) (fun _ => True) fun _ => True :=
    ⟨⟨h.toHostGone, fun _ _ _ _ _ => ⟨trivial, trivial⟩⟩, fun _ _ => trivial, fun _ _ _ _ _ => trivial, fun _ _ _ _ => trivial,
      trivial, fun _ _ _ _ _ _ => trivial⟩
  refine { hopen.dropProbe.hostGone h.toHostGone with empty := fun k => ?_ }
  rw [State.dropProbe]
  split <;> exact h.empty k

/-- R78: an outstanding probe counts as answered MISS. -/
theorem State.exists_dropProbe (s : State) {i : EntryIx} (out : Bool)
    (ho : out = true → ∃ l m n, s.pu.channel = .outstanding i l m n)
    (hno : out = false → ∀ j l m n, s.pu.channel ≠ .outstanding j l m n) :
    ∃ u, s.dropProbe = u ∧ u = { s with
        tt := { s.tt with entries := u.tt.entries }
        pu := if out then { s.pu with channel := .idle } else s.pu } ∧
      (∀ j, j ≠ i → u.txn j = s.txn j) ∧
      u.txn i = (s.txn i).map fun t => { t with answer := if out then some .miss else t.answer } := by
  cases out with
  | true =>
    obtain ⟨l, m, n, hc⟩ := ho rfl
    rw [State.dropProbe, hc]
    refine ⟨_, rfl, rfl, fun j hj => ?_, ?_⟩
    · exact ((s.setChannel .idle).txn_modTxn i j _).trans (if_neg hj)
    · exact ((s.setChannel .idle).txn_modTxn i i _).trans (if_pos rfl)
  | false =>
    have hsame : s.dropProbe = s := by
      rw [State.dropProbe]
      split
      · exact absurd ‹_› (hno rfl _ _ _ _)
      · rfl
      · rfl
    refine ⟨s, hsame, rfl, fun _ _ => rfl, ?_⟩
    rcases s.txn i with _ | x <;> rfl

/-- R117: the flags of HRST hold that under which a lost write-back is recorded. -/
theorem State.flags_hostDropped (s : State) :
    s.hostDropped.ev.flags ||| (1#17 <<< FaultKind.writebackLost.event.bit) = s.hostDropped.ev.flags := by
  have hbit : (1#17 <<< FaultKind.writebackLost.event.bit) = 0x400#17 := rfl
  rw [s.hostDropped_eq, hbit]
  show s.ev.flags ||| s.hrstFlags ||| 0x400#17 = s.ev.flags ||| s.hrstFlags
  rw [BitVec.or_assoc, State.hrstFlags, BitVec.or_comm (0x400#17) _, BitVec.or_assoc, BitVec.or_self]

theorem State.eq_of_parts {s t : State} (pd : s.pd = t.pd) (tt : s.tt = t.tt) (pu : s.pu = t.pu) (rm : s.rm = t.rm)
    (hp : s.hp = t.hp) (rp : s.rp = t.rp) (mp : s.mp = t.mp) (msc : s.msc = t.msc) (ev : s.ev = t.ev) (mg : s.mg = t.mg)
    (pins : s.pins = t.pins) (pending : s.pending = t.pending) (out : s.out = t.out) (freeCount : s.freeCount = t.freeCount) :
    s = t := by
  cases s
  cases t
  simp_all

/-- What HRST makes of a transaction not the host's before it settles the probe phases. -/
def Txn.atHrst (limit : Nat) (i : EntryIx) (out : Bool) (x : Txn) : Txn :=
  { x.timerStarted limit with
    answer := if out then some .miss else x.answer
    link := if i = recallEntry then none else x.link }

/-- R78: HRST with one transaction in the table, not of the host's. -/
theorem State.exists_hrstAssert_one {s : State} {i : EntryIx} {x : Txn} {out : Bool} (hs : s.Running)
    (hrst : s.pins.hrstAsserted = false) (hset : s.hp.lockSet = []) (hqueue : s.pu.queue = [])
    (hports : ∀ p, (s.port p).state ≠ .draining) (hx : s.txn i = some x) (hhost : x.work.isHost = false)
    (hother : ∀ j, j ≠ i → s.txn j = none) (ho : out = true → ∃ l m n, s.pu.channel = .outstanding i l m n)
    (hno : out = false → ∀ j l m n, s.pu.channel ≠ .outstanding j l m n) :
    ∃ u v : State, exec .hrstAssert s = .next v ∧
      u = { s.hostDropped with
        tt := { s.hostDropped.tt with entries := u.tt.entries }
        pu := if out then { s.pu with channel := .idle } else s.pu } ∧
      u.Bare ∧ u.txn i = some (x.atHrst s.pu.wbLimit.toNat i out) ∧ (∀ j, j ≠ i → u.txn j = none) ∧
      u.settleProbing s.attachedEntry i = v := by
  have hdpu : s.hostDropped.pu = s.pu := by rw [s.hostDropped_eq]
  obtain ⟨u, hu, huframe, hunone, hui⟩ := s.hostDropped.exists_dropProbe (i := i) out (by rw [hdpu]; exact ho)
    (by rw [hdpu]; exact hno)
  rw [hdpu] at huframe
  have hdother : ∀ j, j ≠ i → u.txn j = none := fun j hj => by
    rw [hunone j hj, s.txn_hostDropped, hother j hj]
    rfl
  have hux : u.txn i = some (x.atHrst s.pu.wbLimit.toNat i out) := by
    rw [hui, s.txn_hostDropped, hx, Option.map_some, Option.map_some]
    refine congrArg some ?_
    rw [Txn.atHrst]
    split <;> rfl
  have hub : u.Bare := hu ▸ State.bare_dropProbe s.bare_hostDropped
  have hflag : u.ev.flags ||| (1#17 <<< FaultKind.writebackLost.event.bit) = u.ev.flags := by
    rw [huframe]
    exact s.flags_hostDropped
  obtain ⟨v, hv, hframe, hnone, -⟩ := hub.exists_settleProbing s.attachedEntry hux hdother hflag
  have hfold : allEntries.foldl (State.settleProbing s.attachedEntry) u = v :=
    State.foldl_settleProbing_of_one s.attachedEntry (fun j hj y hy => by rw [hdother j hj] at hy; nomatch hy) hv
      fun j hj y hy => by rw [hnone j hj] at hy; nomatch hy
  have hquiet : v.Quiet := by
    refine ⟨.inr ⟨?_, ?_⟩, .inr (.inr ?_), ?_, .inl ?_⟩
    · rw [hframe]
      exact hub.sweep
    · rw [hframe]
      exact hub.recallWait
    · rw [hframe, huframe]
      dsimp only
      split <;> exact hqueue
    · rw [hframe, huframe, s.hostDropped_eq]
      exact hports
    · rw [hframe]
      exact hub.sweep
  refine ⟨u, v, ?_, huframe, hub, hux, hdother, hv⟩
  rw [exec_hrstAssert_of_noHost hs hrst hset fun j y hy => ?_, hu, hfold, hquiet.settle]
  by_cases hj : j = i
  · obtain rfl := Option.some.inj (hx.symm.trans (hj ▸ hy))
    exact hhost
  · rw [hother j hj] at hy
    nomatch hy

/-- R60, R78: the record `y` of a transaction that has gone on from HRST to memory. -/
structure Txn.GoesOnFrom (x y : Txn) (i : EntryIx) (out : Bool) : Prop where
  work : y.work = x.work
  line : y.line = x.line
  phase : y.phase = .memWait
  wbData : y.wbData = x.wbData
  abandoned : y.abandoned = x.abandoned
  answer : out = true → y.answer = some .miss
  link : y.link = if i = recallEntry then none else x.link

theorem Txn.goesOnFrom_of_frame {x y : Txn} {limit : Nat} {i : EntryIx} {out : Bool}
    (h : y = { x.atHrst limit i out with
      phase := .memWait, buf := y.buf, mask := y.mask, wbTimer := y.wbTimer, oldValue := y.oldValue, outcome := y.outcome }) :
    x.GoesOnFrom y i out := by
  refine ⟨?_, ?_, ?_, ?_, ?_, fun ho => ?_, ?_⟩ <;> rw [h]
  · rfl
  · rfl
  · rfl
  · rfl
  · exact if_pos ho
  · rfl

theorem Txn.goesOnFrom_atHrst {x y : Txn} {limit : Nat} {i : EntryIx} {out : Bool} {timer : Option WbTimer}
    (hy : y = { ({ x.atHrst limit i out with wbTimer := timer } : Txn).loadWrite with phase := .memWait }) :
    x.GoesOnFrom y i out := by
  refine Txn.goesOnFrom_of_frame (limit := limit) ?_
  rw [hy, Txn.loadWrite_frame]

theorem Txn.enteredMemWait_atHrst {x y : Txn} {limit : Nat} {i : EntryIx} {out : Bool} {timer : Option WbTimer}
    (hd : x.wbData = false)
    (hy : y = { ({ x.atHrst limit i out with wbTimer := timer } : Txn).loadWrite with phase := .memWait }) :
    { x with answer := y.answer, link := y.link, wbTimer := y.wbTimer }.EnteredMemWait y := by
  have h := Txn.enteredMemWait (x := { x.atHrst limit i out with wbTimer := timer }) hd
  rw [← hy] at h
  have ha : y.answer = (x.atHrst limit i out).answer := by rw [h.record]
  have hl : y.link = (x.atHrst limit i out).link := by rw [h.record]
  have ht : y.wbTimer = timer := by rw [h.record]
  rw [ha, hl, ht]
  exact ⟨h.record, h.write, h.other⟩

theorem Txn.tookData_atHrst {x y : Txn} {limit : Nat} {i : EntryIx} {out : Bool} (hm : x.mask = BitVec.allOnes 32)
    (hd : x.wbData = true)
    (hy : y = { ({ (x.atHrst limit i out).workOnData with wbTimer := none } : Txn).loadWrite with phase := .memWait }) :
    x.GoesOnFrom y i out ∧ { x with answer := y.answer, link := y.link }.TookData y x.buf := by
  have h : (x.atHrst limit i out).TookData y x.buf := hy ▸ Txn.tookData (x := x.atHrst limit i out) hm hd
  have hframe : x.GoesOnFrom y i out := by
    refine Txn.goesOnFrom_of_frame (limit := limit) (h.record.trans ?_)
    have hmask : y.mask = BitVec.allOnes 32 := by rw [h.record]
    have htimer : y.wbTimer = none := by rw [h.record]
    have hdata : true = (x.atHrst limit i out).wbData := hd.symm
    rw [hmask, htimer, hdata]
  have ha : y.answer = (x.atHrst limit i out).answer := by rw [h.record]
  have hl : y.link = (x.atHrst limit i out).link := by rw [h.record]
  rw [ha, hl]
  exact ⟨hframe, h.record, h.plain, h.write, h.atomic⟩

end Sys2Proof.Machine
end

section
/-! SUPPORT. HRST, the probe queue and the records of lost write-backs (R57, R60, R78, R187). -/

set_option Elab.async false

namespace Sys2Proof.Machine

/-! ### The probe queue skipped -/

theorem State.HostGone.toMemWait {s : State} (h : s.HostGone) {i : EntryIx} (hi : i ≠ recallEntry) : (s.toMemWait i).HostGone where
  cycle := h.cycle
  sweep := h.sweep
  recallWait := h.recallWait
  link x hx := h.link x (by rwa [State.txn_toMemWait, if_neg (Ne.symm hi)] at hx)
  reserved := h.reserved

/-- R57, R60: with no entry in the directory every member of the probe queue, none of them a RECALL, is skipped in turn. -/
theorem State.HostGone.exists_pumpProbes {ks : List EntryIx} : ∀ {u : State} {n : Nat}, u.HostGone → u.pu.channel = .idle →
    u.msc.mode ≠ .faulted → u.pu.queue = ks → ks.Nodup → ks.length ≤ n →
    (∀ k ∈ ks, k ≠ recallEntry ∧ ∃ y, u.txn k = some y ∧ y.work.isRecall = false) →
    ∃ v, u.pumpProbes n = v ∧ v = { u with
        tt := { u.tt with entries := v.tt.entries }
        pu := { u.pu with queue := [] }
        mp := { u.mp with waiting := ks.foldl joinTail u.mp.waiting } } ∧
      (∀ j, j ∉ ks → v.txn j = u.txn j) ∧
      ∀ k ∈ ks, v.txn k = (u.txn k).map fun y => { y.loadWrite with phase := .memWait } := by
  induction ks with
  | nil =>
    intro u n _ _ _ hq _ _ _
    have hempty : u = { u with pu := { u.pu with queue := [] } } := by rw [← hq]
    exact ⟨u, State.pumpProbes_of_nil hq n, hempty, fun _ _ => rfl, fun k hk => nomatch hk⟩
  | cons k ks ih =>
    intro u n hgone hch hmode hq hnodup hn hmem
    obtain ⟨hk, hnodup⟩ := List.nodup_cons.mp hnodup
    obtain ⟨n, rfl⟩ : ∃ m, n = m + 1 := ⟨n - 1, by rw [List.length_cons] at hn; omega⟩
    obtain ⟨hk11, y, hy, hr⟩ := hmem k List.mem_cons_self
    obtain ⟨w, hw⟩ : ∃ w, w = (u.setQueue ks).toMemWait k := ⟨_, rfl⟩
    have hwframe : w = { u with
        tt := { u.tt with entries := w.tt.entries }
        pu := { u.pu with queue := ks }
        mp := { u.mp with waiting := joinTail u.mp.waiting k } } := by
      rw [hw]
      rfl
    have htxn : ∀ j, w.txn j = if j = k then (u.txn k).map fun y => { y.loadWrite with phase := .memWait } else u.txn j := fun j => by
      rw [hw, State.txn_toMemWait]
      rfl
    have hgone₁ : (u.setQueue ks).HostGone := ⟨hgone.cycle, hgone.sweep, hgone.recallWait, hgone.link, hgone.reserved⟩
    obtain ⟨v, hv, hframe, hother, hin⟩ := ih (u := w) (n := n) (hw ▸ hgone₁.toMemWait hk11) (by rw [hwframe]; exact hch)
      (by rw [hwframe]; exact hmode) (by rw [hwframe]) hnodup (Nat.le_of_succ_le_succ hn) fun j hj => by
        obtain ⟨hj11, z, hz, hr⟩ := hmem j (List.mem_cons_of_mem k hj)
        have hjk : j ≠ k := fun h => hk (h ▸ hj)
        exact ⟨hj11, z, by rw [htxn, if_neg hjk, hz], hr⟩
    refine ⟨v, ?_, ?_, fun j hj => ?_, fun j hj => ?_⟩
    · rw [← hv, hw, State.pumpProbes, hq]
      rw [if_neg (by rw [hch]; exact fun h => h.elim (fun h => h rfl) hmode)]
      dsimp only
      rw [show (u.setQueue ks).txn k = some y from hy]
      dsimp only
      rw [hgone₁.isHeld, if_neg nofun, if_neg (by rw [hr]; nofun), State.goOnWithoutData, show (u.setQueue ks).txn k = some y from hy]
      dsimp only
      rw [if_neg (by rw [hr]; nofun)]
    · refine hframe.trans ?_
      rw [hwframe]
      rfl
    · rw [hother j fun h => hj (List.mem_cons_of_mem k h), htxn, if_neg fun h : j = k => hj (h ▸ List.mem_cons_self)]
    · rcases List.mem_cons.mp hj with rfl | hj
      · rw [hother j hk, htxn, if_pos rfl]
      · have hjk : j ≠ k := fun h => hk (h ▸ hj)
        rw [hin j hj, htxn, if_neg hjk]

theorem Txn.enteredMemWait_of_loadWrite {y z : Txn} {a : Option Answer} {timer : Option WbTimer}
    (hz : z = { ({ y with answer := a, wbTimer := timer } : Txn).loadWrite with phase := .memWait }) :
    z.work = y.work ∧ z.line = y.line ∧ z.phase = .memWait ∧ z.wbData = y.wbData ∧
      (y.wbData = false → { y with answer := z.answer, wbTimer := z.wbTimer }.EnteredMemWait z) := by
  refine ⟨?_, ?_, ?_, ?_, fun hd => ?_⟩
  · rw [hz, Txn.loadWrite_frame]
  · rw [hz, Txn.loadWrite_frame]
  · rw [hz]
  · rw [hz, Txn.loadWrite_frame]
  · have h := Txn.enteredMemWait (x := { y with answer := a, wbTimer := timer }) hd
    rw [← hz] at h
    have ha : z.answer = a := by rw [h.record]
    have ht : z.wbTimer = timer := by rw [h.record]
    rw [ha, ht]
    exact h

theorem State.hrstFlags_of_stopped {s : State} (h : s.msc.sweep.phase = .stopped) : s.hrstFlags = 0x400#17 := by
  rw [State.hrstFlags, if_pos h]
  rfl

theorem State.attachedEntry_of_idle {s : State} (h : s.hp.cycle = none) : s.attachedEntry = none := by
  rw [State.attachedEntry, h]

/-- R53: while the channel is QUIET, HRST with no transaction in a probe phase leaves the probe unit as it was. -/
theorem State.exec_hrstAssert_of_quiet {s : State} {n : Nat} (hs : s.Running) (hrst : s.pins.hrstAsserted = false)
    (hset : s.hp.lockSet = []) (hports : ∀ p, (s.port p).state ≠ .draining) (hc : s.pu.channel = .quiet n)
    (htxns : ∀ j x, s.txn j = some x → x.work.isHost = false ∧ x.phase ≠ .probing ∧ x.phase ≠ .wbWait) :
    exec .hrstAssert s = .next s.hostDropped := by
  have hch : s.hostDropped.pu.channel = .quiet n := by
    rw [s.hostDropped_eq]
    exact hc
  have hdrop : s.hostDropped.dropProbe = s.hostDropped := by rw [State.dropProbe, hch]
  have hfold : allEntries.foldl (State.settleProbing s.attachedEntry) s.hostDropped = s.hostDropped := by
    refine State.foldl_settleProbing_of_other (fun j _ x₀ hx₀ => ?_) _
    obtain ⟨x, hx, -, hphase, -⟩ := State.of_hostDropped hx₀
    rw [hphase]
    exact (htxns j x hx).2
  have hgone := s.hostGone_hostDropped
  have hquiet : s.hostDropped.Quiet := by
    refine ⟨.inr ⟨hgone.sweep, hgone.recallWait⟩, .inl (by rw [hch]; nofun), ?_, .inl hgone.sweep⟩
    rw [s.hostDropped_eq]
    exact hports
  rw [exec_hrstAssert_of_noHost hs hrst hset fun j x hx => (htxns j x hx).1, hdrop, hfold, hquiet.settle]

/-- R60, R78: the outstanding probe's transaction goes to memory, and behind it every member of the probe queue. -/
theorem State.exists_hrstAssert_queue {s : State} {i : EntryIx} {x : Txn} {l : Line} {m : ProbeMode} {n : Nat} (hs : s.Running)
    (hrst : s.pins.hrstAsserted = false) (hcycle : s.hp.cycle = none) (hset : s.hp.lockSet = [])
    (hports : ∀ p, (s.port p).state ≠ .draining) (hstop : s.msc.sweep.phase = .stopped) (hmode : s.msc.mode ≠ .faulted)
    (hnodup : s.pu.queue.Nodup)
    (hks : ∀ k ∈ s.pu.queue, k ≠ recallEntry ∧ ∃ y, s.txn k = some y ∧ y.work.isRecall = false)
    (htxns : ∀ j y, s.txn j = some y → y.work.isHost = false ∧ y.phase ≠ .wbWait ∧ (y.phase = .probing → j = i))
    (hc : s.pu.channel = .outstanding i l m n) (hx : s.txn i = some x) (hi : i ∉ s.pu.queue) (hi11 : i ≠ recallEntry)
    (hr : x.work.isRecall = false) (hphase : x.phase = .probing) (hd : x.wbData = false) :
    ∃ t : State, exec .hrstAssert s = .next t ∧
      t = { s.hostDropped with
        tt := { s.hostDropped.tt with entries := t.tt.entries }
        pu := { s.pu with queue := [], channel := .idle }
        mp := { s.mp with waiting := (i :: s.pu.queue).foldl joinTail s.mp.waiting } } ∧
      t.txn i = some { ({ x with answer := some .miss, wbTimer := (x.timerStarted s.pu.wbLimit.toNat).wbTimer } : Txn).loadWrite with
        phase := .memWait } ∧
      ∀ k ∈ s.pu.queue, t.txn k = (s.txn k).map fun y =>
        { ({ y with wbTimer := (y.timerStarted s.pu.wbLimit.toNat).wbTimer } : Txn).loadWrite with phase := .memWait } := by
  have hdpu : s.hostDropped.pu = s.pu := by rw [s.hostDropped_eq]
  have hdmp : s.hostDropped.mp = s.mp := by rw [s.hostDropped_eq]
  have hdtxn : ∀ {j}, j ≠ recallEntry → s.hostDropped.txn j = (s.txn j).map (Txn.timerStarted s.pu.wbLimit.toNat) := fun hj => by
    rw [s.txn_hostDropped]
    simp only [if_neg hj]
  obtain ⟨u, hu, huframe, hunone, hui⟩ := s.hostDropped.exists_dropProbe (i := i) true (fun _ => ⟨l, m, n, by rw [hdpu]; exact hc⟩) nofun
  rw [hdpu] at huframe
  have hub : u.Bare := hu ▸ State.bare_dropProbe s.bare_hostDropped
  obtain ⟨x₀, hx₀⟩ : ∃ x₀ : Txn, x₀ = { x with answer := some .miss, wbTimer := (x.timerStarted s.pu.wbLimit.toNat).wbTimer } :=
    ⟨_, rfl⟩
  have hux : u.txn i = some x₀ := by
    rw [hui, hdtxn hi11, hx, hx₀]
    rfl
  obtain ⟨v, hv⟩ : ∃ v, v = u.toMemWait i := ⟨_, rfl⟩
  have hvframe : v = { u with
      tt := { u.tt with entries := v.tt.entries }, mp := { u.mp with waiting := joinTail u.mp.waiting i } } := by
    rw [hv]
    rfl
  have hvi : v.txn i = some { x₀.loadWrite with phase := .memWait } := by
    rw [hv, State.txn_toMemWait, if_pos rfl, hux]
    rfl
  have hvother : ∀ j, j ≠ i → v.txn j = s.hostDropped.txn j := fun j hj => by
    rw [hv, State.txn_toMemWait, if_neg hj, hunone j hj]
  have hsettled : u.settleProbing s.attachedEntry i = v := by
    have hphase₀ : x₀.phase = .probing := by rw [hx₀]; exact hphase
    have hd₀ : ¬ x₀.wbData = true := by rw [hx₀]; dsimp only; rw [hd]; nofun
    have hr₀ : ¬ x₀.work.isRecall = true := by rw [hx₀]; dsimp only; rw [hr]; nofun
    rw [State.settleProbing, hux]
    dsimp only
    rw [hphase₀]
    dsimp only
    rw [if_neg hd₀, State.attachedEntry_of_idle hcycle, if_neg nofun, hub.afterMiss, State.goOnWithoutData, hux]
    dsimp only
    rw [if_neg hr₀, hv]
  have hrest : ∀ j, j ≠ i → ∀ y₀, s.hostDropped.txn j = some y₀ → y₀.phase ≠ .probing ∧ y₀.phase ≠ .wbWait := fun j hj y₀ hy₀ => by
    obtain ⟨y, hy, -, hphase, -⟩ := State.of_hostDropped hy₀
    obtain ⟨-, hwb, hprobing⟩ := htxns j y hy
    rw [hphase]
    exact ⟨fun h => hj (hprobing h), hwb⟩
  have hfold : allEntries.foldl (State.settleProbing s.attachedEntry) u = v :=
    State.foldl_settleProbing_of_one _ (fun j hj y₀ hy₀ => hrest j hj y₀ ((hunone j hj).symm.trans hy₀)) hsettled
      fun j hj y₀ hy₀ => hrest j hj y₀ ((hvother j hj).symm.trans hy₀)
  have hvgone : v.HostGone := hv ▸ hub.toHostGone.toMemWait hi11
  have hvtxn : ∀ k ∈ s.pu.queue, v.txn k = (s.txn k).map (Txn.timerStarted s.pu.wbLimit.toNat) := fun k hk => by
    have hki : k ≠ i := fun h => hi (h ▸ hk)
    rw [hvother k hki, hdtxn (hks k hk).1]
  have hlength : s.pu.queue.length ≤ pumpBound := by
    have h := hnodup.length_le_card
    rw [Fintype.card_fin] at h
    exact h.trans (by decide)
  have hvmode : v.msc.mode ≠ .faulted := by
    rw [hvframe, huframe, s.hostDropped_eq]
    simp only [hstop, ne_eq, not_true_eq_false, false_and, if_false]
    exact hmode
  obtain ⟨t, ht, htframe, htother, htin⟩ := hvgone.exists_pumpProbes (ks := s.pu.queue) (n := pumpBound)
    (by rw [hvframe, huframe]; rfl) hvmode (by rw [hvframe, huframe]; rfl) hnodup hlength fun k hk => by
      obtain ⟨hk11, y, hy, hr⟩ := hks k hk
      exact ⟨hk11, y.timerStarted _, by rw [hvtxn k hk, hy]; rfl, hr⟩
  refine ⟨t, ?_, ?_, ?_, fun k hk => ?_⟩
  · have hdrain : t.drainPorts = t := State.drainPorts_of_none (by rw [htframe, hvframe, huframe, s.hostDropped_eq]; exact hports)
    rw [exec_hrstAssert_of_noHost hs hrst hset fun j y hy => (htxns j y hy).1, hu, hfold, State.settle,
      State.giveEntry11_of_stopped hvgone.sweep hvgone.recallWait, ht, hdrain]
  · refine htframe.trans ?_
    rw [hvframe, huframe, hdmp]
    rfl
  · rw [htother i hi, hvi, hx₀]
  · rw [htin k hk, hvtxn k hk, Option.map_map]
    rfl

/-! ### Two write-backs lost -/

theorem State.HostGone.pumpProbes_ev_rp {n : Nat} : ∀ {u : State}, u.HostGone →
    (∀ k y, u.txn k = some y → k ≠ recallEntry ∧ y.work.isRecall = false) →
    (u.pumpProbes n).ev = u.ev ∧ (u.pumpProbes n).rp = u.rp := by
  induction n with
  | zero => exact fun _ _ => ⟨rfl, rfl⟩
  | succ n ih =>
    intro u hgone hkinds
    have hgone₁ : ∀ rest, (u.setQueue rest).HostGone := fun _ =>
      ⟨hgone.cycle, hgone.sweep, hgone.recallWait, hgone.link, hgone.reserved⟩
    rw [State.pumpProbes]
    split
    · exact ⟨rfl, rfl⟩
    · split
      · exact ⟨rfl, rfl⟩
      · rename_i i rest _
        dsimp only
        split
        · exact ih (hgone₁ rest) hkinds
        · rename_i y hy
          obtain ⟨hi, hr⟩ := hkinds i y hy
          rw [(hgone₁ rest).isHeld, if_neg nofun, if_neg (by rw [hr]; nofun), State.goOnWithoutData, hy]
          dsimp only
          rw [if_neg (by rw [hr]; nofun)]
          refine ih ((hgone₁ rest).toMemWait hi) fun k z hz => ?_
          rw [State.txn_toMemWait] at hz
          split at hz
          · obtain ⟨z₀, hz₀, rfl⟩ := Option.map_eq_some_iff.mp hz
            obtain ⟨hi, hr⟩ := hkinds i z₀ hz₀
            rename_i hki
            exact ⟨hki ▸ hi, by rw [Txn.loadWrite_frame]; exact hr⟩
          · exact hkinds k z hz

/-- What stays of a transaction of a requester while HRST settles its probe phase. -/
structure Txn.SameRequest (x y : Txn) : Prop where
  work : y.work = x.work
  line : y.line = x.line

theorem Txn.SameRequest.record {x y : Txn} (h : x.SameRequest y) (k : FaultKind) : y.record k = x.record k := by
  rw [Txn.record, Txn.record, h.work, h.line]

theorem State.Bare.exists_loseWriteback_requester {u : State} (hb : u.Bare) {i : EntryIx} {x : Txn} (hx : u.txn i = some x)
    (hi : i ≠ recallEntry) (hr : x.work.isRecall = false)
    (hflag : u.ev.flags ||| (1#17 <<< FaultKind.writebackLost.event.bit) = u.ev.flags) :
    ∃ v, u.loseWriteback i x = v ∧ v.Bare ∧ u.ev.Reported (x.record .writebackLost) v.ev ∧ v.ev.flags = u.ev.flags ∧ v.rp = u.rp ∧
      (∀ j, j ≠ i → v.txn j = u.txn j) ∧ ∃ y, v.txn i = some y ∧ x.SameRequest y ∧ y.phase = .memWait := by
  obtain ⟨e, he, hreported⟩ := u.reported_handRecord (x.record .writebackLost) hflag
  obtain ⟨w, hw⟩ : ∃ w, w = State.modTxn i (fun t => { t with wbTimer := none }) { u with ev := e } := ⟨_, rfl⟩
  have hwi : w.txn i = some { x with wbTimer := none } := by
    rw [hw, State.txn_modTxn, if_pos rfl, show State.txn { u with ev := e } i = some x from hx]
    rfl
  have hwother : ∀ j, j ≠ i → w.txn j = u.txn j := fun j hj => by
    rw [hw, State.txn_modTxn, if_neg hj]
    rfl
  have hwgone : w.HostGone := by
    refine ⟨?_, ?_, ?_, fun y hy => hb.link y ?_, ?_⟩
    · rw [hw]; exact hb.cycle
    · rw [hw]; exact hb.sweep
    · rw [hw]; exact hb.recallWait
    · rwa [hwother recallEntry (Ne.symm hi)] at hy
    · rw [hw]; exact hb.reserved
  have hwb : w.Bare := { hwgone with empty := by rw [hw]; exact hb.empty }
  have hlose : u.loseWriteback i x = w.toMemWait i := by
    rw [State.loseWriteback, he, ← hw, hwb.afterMiss, State.goOnWithoutData, hwi]
    exact if_neg (by rw [hr]; nofun)
  refine ⟨_, hlose, { hwgone.toMemWait hi with empty := hwb.empty }, ?_, ?_, ?_, fun j hj => ?_, ?_⟩
  · rw [State.toMemWait, hw]
    exact hreported
  · rw [State.toMemWait, hw]
    obtain ⟨hflags, -⟩ := hreported
    exact hflags.trans hflag
  · rw [State.toMemWait, hw]
    rfl
  · rw [State.txn_toMemWait, if_neg hj, hwother j hj]
  · refine ⟨_, by rw [State.txn_toMemWait, if_pos rfl, hwi, Option.map_some], ⟨?_, ?_⟩, rfl⟩ <;> rw [Txn.loadWrite_frame]

/-- R78: what the probe dropped at HRST leaves in the table of the bridge without its host side. -/
theorem State.exists_hostDropped_dropProbe (s : State) : ∃ u, s.hostDropped.dropProbe = u ∧ u.Bare ∧ u.ev = s.hostDropped.ev ∧
    u.rp = s.rp ∧ (∀ k, s.txn k = none → u.txn k = none) ∧
    ∀ k x, s.txn k = some x → ∃ x₀, u.txn k = some x₀ ∧ x.SameRequest x₀ ∧ x₀.phase = x.phase := by
  have hnone : ∀ k, s.txn k = none → s.hostDropped.txn k = none := fun k hk => by
    rw [s.txn_hostDropped, hk]
    rfl
  have hsome : ∀ k x, s.txn k = some x → ∃ x₀, s.hostDropped.txn k = some x₀ ∧ x.SameRequest x₀ ∧ x₀.phase = x.phase :=
    fun k x hx => by
      rcases hx₀ : s.hostDropped.txn k with _ | x₀
      · rw [s.txn_hostDropped, hx] at hx₀
        nomatch hx₀
      · obtain ⟨x', hx', hc, hphase, -⟩ := State.of_hostDropped hx₀
        obtain rfl := Option.some.inj (hx.symm.trans hx')
        exact ⟨x₀, rfl, ⟨hc.work, hc.line⟩, hphase⟩
  have hrp : s.hostDropped.rp = s.rp := by rw [s.hostDropped_eq]
  have hbare : s.hostDropped.dropProbe.Bare := State.bare_dropProbe s.bare_hostDropped
  refine ⟨_, rfl, hbare, ?_⟩
  rw [State.dropProbe]
  split
  · rename_i i _ _ _ _
    refine ⟨rfl, hrp, fun k hk => ?_, fun k x hx => ?_⟩
    · rw [State.txn_modTxn]
      split
      · rename_i hki
        rw [← hki, show (s.hostDropped.setChannel .idle).txn k = none from hnone k hk]
        rfl
      · exact hnone k hk
    · obtain ⟨x₀, hx₀, hsame, hphase⟩ := hsome k x hx
      rw [State.txn_modTxn]
      split
      · rename_i hki
        rw [← hki, show (s.hostDropped.setChannel .idle).txn k = some x₀ from hx₀]
        exact ⟨_, rfl, ⟨hsame.work, hsame.line⟩, hphase⟩
      · exact ⟨x₀, hx₀, hsame, hphase⟩
  · exact ⟨rfl, hrp, hnone, hsome⟩
  · exact ⟨rfl, hrp, hnone, hsome⟩

/-- R187: the entries are settled from the lowest, and only two stand in a probe phase. -/
theorem State.foldl_settleProbing_of_two {s t u : State} {i j : EntryIx} (hij : i < j) (a : Option EntryIx)
    (h : ∀ k, k ≠ i → k ≠ j → ∀ x, s.txn k = some x → x.phase ≠ .probing ∧ x.phase ≠ .wbWait)
    (ht : s.settleProbing a i = t) (h' : ∀ k, k ≠ j → ∀ x, t.txn k = some x → x.phase ≠ .probing ∧ x.phase ≠ .wbWait)
    (hu : t.settleProbing a j = u) (h'' : ∀ k, k ≠ j → ∀ x, u.txn k = some x → x.phase ≠ .probing ∧ x.phase ≠ .wbWait) :
    allEntries.foldl (State.settleProbing a) s = u := by
  obtain ⟨before, after, hsplit⟩ := List.append_of_mem (List.mem_finRange i)
  have hsorted : (before ++ i :: after).Pairwise (· < ·) := hsplit ▸ List.pairwise_lt_finRange 12
  obtain ⟨-, hafter, hbefore⟩ := List.pairwise_append.mp hsorted
  have hnot : ∀ k ∈ before, k ≠ i ∧ k ≠ j := fun k hk => by
    have hki := hbefore k hk i List.mem_cons_self
    exact ⟨Fin.ne_of_lt hki, Fin.ne_of_lt (Fin.lt_trans hki hij)⟩
  have hj : j ∈ after := by
    have hmem : j ∈ before ++ i :: after := hsplit ▸ List.mem_finRange j
    rcases List.mem_append.mp hmem with hj | hj
    · exact absurd rfl (hnot j hj).2
    · exact (List.mem_cons.mp hj).resolve_left (Fin.ne_of_gt hij)
  obtain ⟨middle, last, rfl⟩ := List.append_of_mem hj
  obtain ⟨-, hlast, hmiddle⟩ := List.pairwise_append.mp (List.pairwise_cons.mp hafter).2
  rw [allEntries, hsplit, List.foldl_append, List.foldl_cons, List.foldl_append, List.foldl_cons,
    State.foldl_settleProbing_of_other fun k hk => h k (hnot k hk).1 (hnot k hk).2, ht,
    State.foldl_settleProbing_of_other fun k hk => h' k (Fin.ne_of_lt (hmiddle k hk j List.mem_cons_self)), hu]
  exact State.foldl_settleProbing_of_other (fun k hk => h'' k (Fin.ne_of_gt ((List.pairwise_cons.mp hlast).1 k hk))) a

/-- R78, R187: HRST loses two awaited write-backs, that of the lower entry first. -/
theorem State.exists_hrstAssert_two {s : State} {i j : EntryIx} {x y : Txn} (hs : s.Running) (hrst : s.pins.hrstAsserted = false)
    (hports : ∀ p, (s.port p).state ≠ .draining) (hset : s.hp.lockSet = [])
    (hstop : s.msc.sweep.phase = .stopped) (hij : i < j) (hx : s.txn i = some x) (hy : s.txn j = some y)
    (hothers : ∀ k, k ≠ i → k ≠ j → s.txn k = none) (hxr : x.work.port?.isSome = true) (hyr : y.work.port?.isSome = true)
    (hxw : x.phase = .wbWait) (hyw : y.phase = .wbWait) (hj : j ≠ recallEntry) :
    ∃ t e, exec .hrstAssert s = .next t ∧
      EventUnit.Reported (x.record .writebackLost) { s.ev with flags := s.ev.flags ||| 0x400#17 } e ∧
      e.Reported (y.record .writebackLost) t.ev := by
  obtain ⟨p, hxp⟩ := Option.isSome_iff_exists.mp hxr
  obtain ⟨q, hyq⟩ := Option.isSome_iff_exists.mp hyr
  obtain ⟨-, hxh, hxk, -⟩ := Work.requester_spec hxp
  obtain ⟨-, hyh, hyk, -⟩ := Work.requester_spec hyq
  have hne : i ≠ j := Fin.ne_of_lt hij
  have hi : i ≠ recallEntry := by
    rintro rfl
    exact absurd hij (Fin.not_lt.mpr (Fin.le_last j))
  have hhosts : ∀ k z, s.txn k = some z → z.work.isHost = false := fun k z hz => by
    by_cases hki : k = i
    · obtain rfl := Option.some.inj (hx.symm.trans (hki ▸ hz))
      exact hxh
    · by_cases hkj : k = j
      · obtain rfl := Option.some.inj (hy.symm.trans (hkj ▸ hz))
        exact hyh
      · rw [hothers k hki hkj] at hz
        nomatch hz
  obtain ⟨u, hu, hub, huev, hurp, hunone, husome⟩ := s.exists_hostDropped_dropProbe
  obtain ⟨x₀, hx₀, hxsame, hxphase⟩ := husome i x hx
  obtain ⟨y₀, hy₀, hysame, hyphase⟩ := husome j y hy
  have hflag : u.ev.flags ||| (1#17 <<< FaultKind.writebackLost.event.bit) = u.ev.flags := by
    rw [huev]
    exact s.flags_hostDropped
  obtain ⟨v, hv, hvb, hvev, hvflags, hvrp, hvother, x₁, hx₁, hxsame₁, hxphase₁⟩ :=
    hub.exists_loseWriteback_requester hx₀ hi (by rw [hxsame.work, hxk]) hflag
  obtain ⟨w, hw, hwb, hwev, -, hwrp, hwother, y₁, hy₁, hysame₁, hyphase₁⟩ :=
    hvb.exists_loseWriteback_requester ((hvother j hne.symm).trans hy₀) hj (by rw [hysame.work, hyk]) (by rw [hvflags, hflag])
  have hsettleI : u.settleProbing s.attachedEntry i = v := by
    rw [State.settleProbing, hx₀]
    dsimp only
    rw [hxphase, hxw]
    exact hv
  have hsettleJ : v.settleProbing s.attachedEntry j = w := by
    rw [State.settleProbing, hvother j hne.symm, hy₀]
    dsimp only
    rw [hyphase, hyw]
    exact hw
  have hunone : ∀ k, k ≠ i → k ≠ j → u.txn k = none := fun k hki hkj => hunone k (hothers k hki hkj)
  have hvphase : ∀ k, k ≠ j → ∀ z, v.txn k = some z → z.phase ≠ .probing ∧ z.phase ≠ .wbWait := fun k hkj z hz => by
    by_cases hki : k = i
    · obtain rfl := Option.some.inj (hx₁.symm.trans (hki ▸ hz))
      rw [hxphase₁]
      exact ⟨nofun, nofun⟩
    · rw [hvother k hki, hunone k hki hkj] at hz
      nomatch hz
  have hfold : allEntries.foldl (State.settleProbing s.attachedEntry) u = w :=
    State.foldl_settleProbing_of_two hij _ (fun k hki hkj z hz => by rw [hunone k hki hkj] at hz; nomatch hz) hsettleI hvphase
      hsettleJ fun k hkj z hz => hvphase k hkj z ((hwother k hkj).symm.trans hz)
  have hwkinds : ∀ k z, w.txn k = some z → k ≠ recallEntry ∧ z.work.isRecall = false := fun k z hz => by
    by_cases hkj : k = j
    · obtain rfl := Option.some.inj (hy₁.symm.trans (hkj ▸ hz))
      exact ⟨hkj ▸ hj, by rw [hysame₁.work, hysame.work, hyk]⟩
    · rw [hwother k hkj] at hz
      by_cases hki : k = i
      · obtain rfl := Option.some.inj (hx₁.symm.trans (hki ▸ hz))
        exact ⟨hki ▸ hi, by rw [hxsame₁.work, hxsame.work, hxk]⟩
      · rw [hvother k hki, hunone k hki hkj] at hz
        nomatch hz
  obtain ⟨hpumpEv, hpumpRp⟩ := hwb.pumpProbes_ev_rp (n := pumpBound) hwkinds
  have hsettle : w.settle.ev = w.ev := by
    have hdrain : (w.pumpProbes pumpBound).drainPorts = w.pumpProbes pumpBound := State.drainPorts_of_none fun p => by
      rw [State.port, hpumpRp, hwrp, hvrp, hurp]
      exact hports p
    rw [State.settle, State.giveEntry11_of_stopped hwb.sweep hwb.recallWait, hdrain, hpumpEv]
  have huflags : u.ev = { s.ev with flags := s.ev.flags ||| 0x400#17 } := by
    rw [huev, s.hostDropped_eq, State.hrstFlags_of_stopped hstop]
  refine ⟨w.settle, v.ev, ?_, ?_, ?_⟩
  · rw [exec_hrstAssert_of_noHost hs hrst hset hhosts, hu, hfold]
  · rw [hxsame.record, huflags] at hvev
    exact hvev
  · rw [hysame.record] at hwev
    rw [hsettle]
    exact hwev

/-- Settles O7: HRST settles the probe phases, the probe queue and the records of two write-backs. -/
theorem hrstSettlesAProbingTransaction : Obligations.HrstSettlesAProbingTransaction := by
  refine ⟨fun s i x out flags hs hrst hset hwait hqueue hports hx hhost hother hcycle ho hno hflags => ?one,
    fun s i x ks hs hrst hcycle hset hstop hwait hports hmode hq hnodup hks hothers => ⟨fun n hc hnone => ?quiet,
      fun l m n hc hx hi hi11 hreq hphase hd => ?queue⟩,
    fun s i j x y hs hrst _ hports hset hstop hij hx hy hothers hxr hyr hxw hyw hj => ?two⟩
  case one =>
    obtain ⟨u, v, hexec, huframe, hub, hux, hunone, hv⟩ := State.exists_hrstAssert_one hs hrst hset hqueue hports hx hhost hother ho hno
    have hflag : u.ev.flags ||| (1#17 <<< FaultKind.writebackLost.event.bit) = u.ev.flags := by
      rw [huframe]
      exact s.flags_hostDropped
    obtain ⟨v', hv', hframe, hnone, hdata, hmiss, hlost⟩ := hub.exists_settleProbing s.attachedEntry hux hunone hflag
    obtain rfl : v = v' := hv.symm.trans hv'
    have hrflags : s.hrstFlags = flags := hflags.symm
    have huev : u.ev = { s.ev with flags := s.ev.flags ||| flags } := by
      rw [huframe, s.hostDropped_eq, hrflags]
    have humpp : u.mp = s.mp := by rw [huframe, s.hostDropped_eq]
    have hulocks : u.tt.locks = s.tt.locks := by rw [huframe, s.hostDropped_eq]
    have hvpu : v.pu = if out then { s.pu with channel := .idle } else s.pu := by rw [hframe, huframe]
    have hvtt : v.tt = { s.tt with entries := v.tt.entries, locks := v.tt.locks } := by
      have hrecall : u.tt.recallWait = s.tt.recallWait := by rw [huframe, s.hostDropped_eq, hwait]
      have hrobin : u.tt.roundRobin = s.tt.roundRobin := by rw [huframe, s.hostDropped_eq]
      refine (congrArg State.tt hframe).trans ?_
      dsimp only
      rw [hrecall, hrobin]
    have hatt : s.attachedEntry = s.hp.cycle.map fun _ => i := by
      rw [State.attachedEntry]
      rcases hc : s.hp.cycle with _ | c
      · rfl
      · dsimp only
        rw [hcycle c hc]
        rfl
    have htable : ∀ {y}, u.TxnBecomes v i y → s.TxnBecomes v i y := fun h =>
      ⟨h.1, fun j hj => (hnone j hj).trans (hother j hj).symm⟩
    have hlocks : ∀ {l r}, u.LockBecomes v l r → s.LockBecomes v l r := fun h =>
      ⟨h.1, fun m hm => (h.2 m hm).trans (by rw [State.lockOf, State.lockOf, hulocks])⟩
    refine ⟨v, hexec, ?_, hvtt, hvpu, fun lost hcase => ?_⟩
    · refine State.eq_of_parts ?_ rfl rfl ?_ ?_ ?_ rfl ?_ rfl ?_ ?_ ?_ ?_ ?_ <;> rw [hframe, huframe, s.hostDropped_eq]
    · have hkind : u.WentOn v i (x.atHrst s.pu.wbLimit.toNat i out) ∧ ¬ (x.phase = .probing ∧ x.wbData = true) ∧
            (lost = false → v.ev = u.ev) ∧ (lost = true → u.ev.Reported (x.record .writebackLost) v.ev) ∨
          lost = false ∧ x.phase = .probing ∧ x.wbData = true ∧ x.mask = BitVec.allOnes 32 := by
        rcases hcase with ⟨rfl, hp, ⟨hd, hm⟩ | ⟨hd, -, hc⟩⟩ | ⟨rfl, hp, hd, hc⟩ | ⟨rfl, hp, -⟩
        · exact .inr ⟨rfl, hp, hd, hm⟩
        · obtain ⟨hev, hwent⟩ := hmiss hp hd (by rw [hatt, hc]; nofun)
          exact .inl ⟨hwent, fun h => (by rw [hd] at h; nomatch h.2), fun _ => hev, nofun⟩
        · obtain ⟨c, hc⟩ := Option.isSome_iff_exists.mp hc
          obtain ⟨hev, hwent⟩ := hlost (.inl ⟨hp, hd, by rw [hatt, hc]; rfl⟩)
          exact .inl ⟨hwent, fun h => (by rw [hd] at h; nomatch h.2), nofun, fun _ => hev⟩
        · obtain ⟨hev, hwent⟩ := hlost (.inr hp)
          exact .inl ⟨hwent, fun h => (by rw [hp] at h; nomatch h.1), nofun, fun _ => hev⟩
      rcases hkind with ⟨hwent, hno, hev, hrec⟩ | ⟨rfl, hp, hd, hm⟩
      · refine ⟨fun hl => (hev hl).trans huev, fun hl => huev ▸ hrec hl, fun hkind => ?_, fun hr hi hd hl => ?_⟩
        · rcases hkind with ⟨hport, hi⟩ | ⟨-, -, hp, hd⟩
          · obtain ⟨p, hport⟩ := Option.isSome_iff_exists.mp hport
            obtain ⟨-, -, hr, -⟩ := Work.requester_spec hport
            obtain ⟨hl, hmp, timer, hy⟩ := hwent.ofRequester hr
            obtain ⟨y, hyeq⟩ : ∃ y, y = { ({ x.atHrst s.pu.wbLimit.toNat i out with wbTimer := timer } : Txn).loadWrite with
              phase := .memWait } := ⟨_, rfl⟩
            obtain ⟨h1, h2, h3, h4, h5, h6, h7⟩ := Txn.goesOnFrom_atHrst hyeq
            exact ⟨hl.trans hulocks, by rw [hmp, humpp], y, htable (hyeq ▸ hy), h1, h2, h3, h4, h5, h6, h7,
              fun hd => Txn.enteredMemWait_atHrst hd hyeq, fun hp hd => absurd ⟨hp, hd⟩ hno⟩
          · exact absurd ⟨hp, hd⟩ hno
        · obtain ⟨h1, h2, h3⟩ := hwent.ofRecall hr hi (by rw [State.HoldsAlone, State.lockOf, hulocks]; exact hl)
          exact ⟨h1.trans humpp, htable h2, hlocks h3⟩
      · obtain ⟨hev, hl, hmp, hy⟩ := hdata hp hd
        obtain ⟨y, hyeq⟩ : ∃ y, y = { ({ (x.atHrst s.pu.wbLimit.toNat i out).workOnData with wbTimer := none } : Txn).loadWrite
          with phase := .memWait } := ⟨_, rfl⟩
        obtain ⟨⟨h1, h2, h3, h4, h5, h6, h7⟩, htook⟩ := Txn.tookData_atHrst hm hd hyeq
        refine ⟨fun _ => hev.trans huev, nofun, fun _ => ⟨hl.trans hulocks, by rw [hmp, humpp], y, htable (hyeq ▸ hy), h1, h2, h3,
          h4, h5, h6, h7, fun h => (by rw [hd] at h; nomatch h), fun _ _ => htook⟩, fun _ _ h => (by rw [hd] at h; nomatch h)⟩
  case quiet =>
    have hnoProbe : ∀ j x, s.txn j = some x → x.work.isHost = false ∧ x.phase ≠ .probing ∧ x.phase ≠ .wbWait := fun j x hx => by
      by_cases hj : j ∈ ks
      · obtain ⟨-, y, hy, hport, hphase⟩ := hks j hj
        obtain rfl := Option.some.inj (hx.symm.trans hy)
        obtain ⟨p, hport⟩ := Option.isSome_iff_exists.mp hport
        obtain ⟨-, hhost, -⟩ := Work.requester_spec hport
        exact ⟨hhost, by rw [hphase]; nofun, by rw [hphase]; nofun⟩
      · obtain ⟨hhost, hwb, hprobing⟩ := hothers j x hx hj
        refine ⟨hhost, fun h => ?_, hwb⟩
        rw [hprobing h, hnone] at hx
        nomatch hx
    refine ⟨_, State.exec_hrstAssert_of_quiet hs hrst hset hports hc hnoProbe, ?_, ?_, fun j hj => ?_⟩
    · rw [s.hostDropped_eq]
    · rw [s.hostDropped_eq]
    · rw [s.txn_hostDropped]
      simp only [if_neg hj]
  case queue =>
    subst hq
    have hkinds : ∀ k ∈ s.pu.queue, k ≠ recallEntry ∧ ∃ y, s.txn k = some y ∧ y.work.isRecall = false := fun k hk => by
      obtain ⟨hk11, y, hy, hport, -⟩ := hks k hk
      obtain ⟨p, hport⟩ := Option.isSome_iff_exists.mp hport
      obtain ⟨-, -, hr, -⟩ := Work.requester_spec hport
      exact ⟨hk11, y, hy, hr⟩
    have hrest : ∀ j y, s.txn j = some y → y.work.isHost = false ∧ y.phase ≠ .wbWait ∧ (y.phase = .probing → j = i) := fun j y hy => by
      by_cases hj : j ∈ s.pu.queue
      · obtain ⟨-, z, hz, hport, hphase⟩ := hks j hj
        obtain rfl := Option.some.inj (hy.symm.trans hz)
        obtain ⟨p, hport⟩ := Option.isSome_iff_exists.mp hport
        obtain ⟨-, hhost, -⟩ := Work.requester_spec hport
        exact ⟨hhost, by rw [hphase]; nofun, fun h => (nomatch hphase.symm.trans h)⟩
      · exact hothers j y hy hj
    obtain ⟨p, hport⟩ := Option.isSome_iff_exists.mp hreq
    obtain ⟨-, -, hr, -⟩ := Work.requester_spec hport
    obtain ⟨t, hexec, hframe, hti, htk⟩ := State.exists_hrstAssert_queue hs hrst hcycle hset hports hstop hmode hnodup hkinds hrest hc hx
      hi hi11 hr hphase hd
    refine ⟨t, hexec, ?_, ?_, ?_, ?_, ?_, fun k hk => ?_⟩
    · rw [hframe]
    · rw [hframe]
    · rw [hframe, s.hostDropped_eq, State.hrstFlags_of_stopped hstop]
    · rw [hframe, s.hostDropped_eq]
    · rw [hframe, s.hostDropped_eq]
    · rcases List.mem_cons.mp hk with rfl | hk
      · exact ⟨x, _, hx, hti, Txn.enteredMemWait_of_loadWrite rfl⟩
      · obtain ⟨-, y, hy, -⟩ := hks k hk
        exact ⟨y, _, hy, by rw [htk k hk, hy, Option.map_some], Txn.enteredMemWait_of_loadWrite (a := y.answer) rfl⟩
  case two => exact State.exists_hrstAssert_two hs hrst hports hset hstop hij hx hy hothers hxr hyr hxw hyw hj

end Sys2Proof.Machine
end
